-- ==== Sys2Proof/Word.lean ====
section
/-! DEFINITION. The words of the register interface and the bytes of frames (R95, R107). -/

namespace Sys2Proof

/-- A register word, 32 bits (R95). -/
abbrev Word := BitVec 32

/-- One byte of a frame or of a memory. -/
abbrev Byte := BitVec 8

end Sys2Proof
end

