-- ==== Sys2Proof/Config.lean ====
section
/-! DEFINITION. What one module's hardware fixes, and the free values: values the spec leaves open (constants without a
body, so that nothing can be proved of them). -/

namespace Sys2Proof.Config

/-- A fresh word the spec leaves open, numbered by State's counter `free` (notes/assumptions/9.md). -/
opaque freeWord : Nat → BitVec 32

/-- The 16 bytes of a fresh nonce (R224, R469), numbered by `free`. -/
opaque nonceByte : Nat → Nat → BitVec 8

/-- The SHA-256 of Fafearo's public key, fused in the module (R448 step 2). -/
opaque fusedKeyHash : List (BitVec 8)

/-- Byte `i` of the image a module leaves the factory with (R447). -/
opaque factoryImageByte : Nat → BitVec 8

/-- The factory calibration in MRAM (R154): gain, offset and curvature of channel `n` at `3 n` and the two after it. -/
opaque factoryCal : Nat → Int

/-- A result the spec states no value for, as a function of the operands concerned: a tag that names the result, and
its operands (notes/assumptions/10.md). -/
opaque openResult : Nat → List Int → Int

/-- Byte `i` of the recovery image of the factory region (R455). -/
opaque recoveryImageByte : Nat → BitVec 8

/-- Whether a SWEEP_DATA status word reports a failed self-test of the CM-16: the spec gives the word no bits (R196, R234). -/
opaque cmuSelfTestFails : Nat → Bool

/-- Byte `off` of the samples of capture `number` (R361): the island's waveforms are no operand of any command. -/
opaque captureByte : Nat → Nat → BitVec 8

end Sys2Proof.Config
end

