-- ==== Sys2Proof/Machine/Crypto.lean ====
section
/-! DEFINITION. Checks and codes over bytes: CRC-32C (R11, R332), the PSF safety CRC (R322), CRC-16 of chain frames, the
SMBus PEC, SHA-256 and HMAC-SHA-256 (FIPS 180-4, FIPS 198-1; R11, R109). -/

namespace Sys2Proof.Machine

/-- One bit of a CRC of width `w` that shifts left: most significant bit first. -/
def crcStepMsb (w poly : Nat) (crc : Nat) : Nat :=
  if crc / 2 ^ (w - 1) % 2 = 1 then Nat.xor (crc * 2 % 2 ^ w) poly else crc * 2 % 2 ^ w

/-- `k` steps of a function. -/
def iter {α : Type} (f : α → α) : Nat → α → α
  | 0, x => x
  | k + 1, x => iter f k (f x)

/-- A CRC of width `w`, bits most significant first, no reflection and no final inversion. -/
def crcMsb (w poly init : Nat) (bs : List Byte) : Nat :=
  bs.foldl (fun c b => iter (crcStepMsb w poly) 8 (Nat.xor c (b.toNat * 2 ^ (w - 8)))) init

/-- One bit of a reflected CRC. -/
def crcStepLsb (poly : Nat) (crc : Nat) : Nat :=
  if crc % 2 = 1 then Nat.xor (crc / 2) poly else crc / 2

/-- CRC-32C: polynomial 0x1EDC_6F41, in its usual reflected form with inverted start and end. -/
def crc32c (bs : List Byte) : Nat :=
  Nat.xor 0xFFFFFFFF
    (bs.foldl (fun c b => iter (crcStepLsb 0x82F63B78) 8 (Nat.xor c b.toNat)) 0xFFFFFFFF)

/-- SCRC (R322): polynomial 0xF4AC_FB13, start value the connection ID. -/
def scrc (cid : Nat) (bs : List Byte) : Nat := crcMsb 32 0xF4ACFB13 cid bs

/-- CRC-16 with polynomial 0x1021 of chain frames (R191). -/
def crc16 (init : Nat) (bs : List Byte) : Nat := crcMsb 16 0x1021 init bs

/-- The SMBus packet error code: CRC-8 with polynomial 0x07. -/
def pec (bs : List Byte) : Nat := crcMsb 8 0x07 0 bs

/-- The `n` bytes of a number, least significant first. -/
def leBytes (n : Nat) (v : Nat) : List Byte := (List.range n).map (fun i => BitVec.ofNat 8 (v / 256 ^ i))

/-- The number that bytes spell, least significant first. -/
def leVal (bs : List Byte) : Nat := bs.foldr (fun b acc => b.toNat + 256 * acc) 0

/-- The `n` bytes of a number, most significant first. -/
def beBytes (n : Nat) (v : Nat) : List Byte := (leBytes n v).reverse

/-- The number that bytes spell, most significant first. -/
def beVal (bs : List Byte) : Nat := bs.foldl (fun acc b => acc * 256 + b.toNat) 0

/-- `n` bytes of a list from an offset, zero bytes past its end. -/
def slice (bs : List Byte) (off n : Nat) : List Byte :=
  let r := (bs.drop off).take n
  r ++ List.replicate (n - r.length) 0#8

/-- The round constants of SHA-256. -/
def shaK : List (BitVec 32) :=
  [0x428a2f98#32, 0x71374491#32, 0xb5c0fbcf#32, 0xe9b5dba5#32, 0x3956c25b#32, 0x59f111f1#32, 0x923f82a4#32,
   0xab1c5ed5#32, 0xd807aa98#32, 0x12835b01#32, 0x243185be#32, 0x550c7dc3#32, 0x72be5d74#32, 0x80deb1fe#32,
   0x9bdc06a7#32, 0xc19bf174#32, 0xe49b69c1#32, 0xefbe4786#32, 0x0fc19dc6#32, 0x240ca1cc#32, 0x2de92c6f#32,
   0x4a7484aa#32, 0x5cb0a9dc#32, 0x76f988da#32, 0x983e5152#32, 0xa831c66d#32, 0xb00327c8#32, 0xbf597fc7#32,
   0xc6e00bf3#32, 0xd5a79147#32, 0x06ca6351#32, 0x14292967#32, 0x27b70a85#32, 0x2e1b2138#32, 0x4d2c6dfc#32,
   0x53380d13#32, 0x650a7354#32, 0x766a0abb#32, 0x81c2c92e#32, 0x92722c85#32, 0xa2bfe8a1#32, 0xa81a664b#32,
   0xc24b8b70#32, 0xc76c51a3#32, 0xd192e819#32, 0xd6990624#32, 0xf40e3585#32, 0x106aa070#32, 0x19a4c116#32,
   0x1e376c08#32, 0x2748774c#32, 0x34b0bcb5#32, 0x391c0cb3#32, 0x4ed8aa4a#32, 0x5b9cca4f#32, 0x682e6ff3#32,
   0x748f82ee#32, 0x78a5636f#32, 0x84c87814#32, 0x8cc70208#32, 0x90befffa#32, 0xa4506ceb#32, 0xbef9a3f7#32,
   0xc67178f2#32]

/-- The initial hash value of SHA-256. -/
def shaH0 : List (BitVec 32) :=
  [0x6a09e667#32, 0xbb67ae85#32, 0x3c6ef372#32, 0xa54ff53a#32, 0x510e527f#32, 0x9b05688c#32, 0x1f83d9ab#32,
   0x5be0cd19#32]

/-- Extend the message schedule by one word; `w` holds the newest word first. -/
def shaExtend (w : List (BitVec 32)) : List (BitVec 32) :=
  let a := w.getD 1 0
  let b := w.getD 14 0
  let s1 := a.rotateRight 17 ^^^ a.rotateRight 19 ^^^ (a >>> 10)
  let s0 := b.rotateRight 7 ^^^ b.rotateRight 18 ^^^ (b >>> 3)
  (s1 + w.getD 6 0 + s0 + w.getD 15 0) :: w

/-- One round of the compression function on the working variables a to h. -/
def shaRound (v : List (BitVec 32)) (kw : BitVec 32 × BitVec 32) : List (BitVec 32) :=
  match v with
  | [a, b, c, d, e, f, g, h] =>
    let t1 := h + (e.rotateRight 6 ^^^ e.rotateRight 11 ^^^ e.rotateRight 25)
      + ((e &&& f) ^^^ (~~~e &&& g)) + kw.1 + kw.2
    let t2 := (a.rotateRight 2 ^^^ a.rotateRight 13 ^^^ a.rotateRight 22)
      + ((a &&& b) ^^^ (a &&& c) ^^^ (b &&& c))
    [t1 + t2, a, b, c, d + t1, e, f, g]
  | _ => v

/-- The compression of one block of 16 words. -/
def shaBlock (h : List (BitVec 32)) (blk : List (BitVec 32)) : List (BitVec 32) :=
  let w := (iter shaExtend 48 blk.reverse).reverse
  List.zipWith (· + ·) h ((shaK.zip w).foldl shaRound h)

/-- A byte list as big-endian words, four bytes each. -/
def beWords : List Byte → List (BitVec 32)
  | a :: b :: c :: d :: r => BitVec.ofNat 32 (beVal [a, b, c, d]) :: beWords r
  | _ => []

/-- The blocks of 16 words of a word list, at most `fuel` of them. -/
def blocks16 : Nat → List (BitVec 32) → List (List (BitVec 32))
  | 0, _ => []
  | k + 1, ws => if ws.length < 16 then [] else ws.take 16 :: blocks16 k (ws.drop 16)

/-- SHA-256 of a byte list. -/
def sha256 (bs : List Byte) : List Byte :=
  let pad := (119 - bs.length % 64) % 64
  let msg := bs ++ [0x80#8] ++ List.replicate pad 0#8 ++ beBytes 8 (bs.length * 8)
  let ws := beWords msg
  ((blocks16 (ws.length / 16) ws).foldl shaBlock shaH0).flatMap (fun w => beBytes 4 w.toNat)

/-- HMAC-SHA-256. -/
def hmac (key msg : List Byte) : List Byte :=
  let k0 := if key.length ≤ 64 then key else sha256 key
  let k := k0 ++ List.replicate (64 - k0.length) 0#8
  sha256 (k.map (fun b => b ^^^ 0x5C#8) ++ sha256 (k.map (fun b => b ^^^ 0x36#8) ++ msg))

/-- The first 16 bytes of an HMAC (R109). -/
def mac16 (key msg : List Byte) : List Byte := (hmac key msg).take 16

end Sys2Proof.Machine
end

