-- ==== Sys2Proof/Machine/Sources.lean ====
section
/-! DEFINITION. The fault sources of the module: number, kind, default reaction (R94, R119, R147, R189, R190, R234,
R264, R283, R301, R338, R364, R365, R392, R427, R442, R474, R491). -/

namespace Sys2Proof.Machine

/-- The kind of a source (R340, FAULT.REACT_n.KIND): 0 unused, 1 condition, 2 event, 3 record-only. -/
inductive Kind where
  | unused | condition | event | record
deriving DecidableEq, Repr

/-- The code FAULT.REACT_n.KIND shows. -/
def Kind.code : Kind → Nat
  | .unused => 0
  | .condition => 1
  | .event => 2
  | .record => 3

/-- One row of the source tables: default levels, count N, window value W and its unit (R342), and the record
severity of a record-only source (R353, R364). -/
structure SrcRow where
  num : Nat
  kind : Kind
  minor : Nat
  severe : Nat
  n : Nat
  w : Nat
  unit : Nat
  sev : Nat
deriving DecidableEq, Repr

abbrev SRC_CFG_DEFAULTED : Nat := 0x00
abbrev SRC_TWIN_CFG_FAULT : Nat := 0x01
abbrev SRC_GRA_AUTHFAIL : Nat := 0x02
abbrev SRC_GRA_REPLAY : Nat := 0x03
abbrev SRC_LOG_DROPPED : Nat := 0x04
abbrev SRC_LOG_NV_FAULT : Nat := 0x05
abbrev SRC_CAPTURE_LOST : Nat := 0x06
abbrev SRC_MODE_CHANGE : Nat := 0x08
abbrev SRC_BOOT : Nat := 0x09
abbrev SRC_TIME_ANCHOR : Nat := 0x0A
abbrev SRC_RESERVE_IN : Nat := 0x0B
abbrev SRC_CAPTURE_STORED : Nat := 0x0C
abbrev SRC_OPERATOR_ACTION : Nat := 0x0D
abbrev SRC_SUPPLY_LOSS : Nat := 0x10
abbrev SRC_VIN_HIGH : Nat := 0x11
abbrev SRC_HOLD_CAP_LOW : Nat := 0x12
abbrev SRC_HOLD_CHARGE_FAIL : Nat := 0x13
abbrev SRC_COMMIT_ABANDONED : Nat := 0x14
abbrev SRC_VCOIL_LOSS : Nat := 0x15
abbrev SRC_RAIL_FAULT : Nat := 0x16
abbrev SRC_HOLD_EXHAUSTED : Nat := 0x17
abbrev SRC_REF_LOSS : Nat := 0x20
abbrev SRC_PLLC_UNLOCK : Nat := 0x21
abbrev SRC_PLLN_UNLOCK : Nat := 0x22
abbrev SRC_REF_COMP_RANGE : Nat := 0x23
abbrev SRC_LAUNCH_LATE : Nat := 0x24
abbrev SRC_LAUNCH_MISSED : Nat := 0x25
abbrev SRC_PULSE_LATE : Nat := 0x26
abbrev SRC_TIME_INVALID : Nat := 0x27
abbrev SRC_PTP_RX_OVERFLOW : Nat := 0x28
abbrev SRC_TIN_OVERFLOW : Nat := 0x29
abbrev SRC_TB0_STEP : Nat := 0x2A
abbrev SRC_SHUNT_FAULT : Nat := 0x30
abbrev SRC_HALL_FAULT : Nat := 0x31
abbrev SRC_SHUNT_HALL_MISMATCH : Nat := 0x32
abbrev SRC_SUM_MISMATCH : Nat := 0x33
abbrev SRC_MID_MISMATCH : Nat := 0x34
abbrev SRC_OVERCURRENT : Nat := 0x35
abbrev SRC_DIDT : Nat := 0x36
abbrev SRC_STRING_OV : Nat := 0x37
abbrev SRC_STRING_UV : Nat := 0x38
abbrev SRC_BUS_OV : Nat := 0x39
abbrev SRC_IMD_WARN : Nat := 0x3A
abbrev SRC_IMD_FAULT : Nat := 0x3B
abbrev SRC_IMD_FOREIGN : Nat := 0x3C
abbrev SRC_ISLAND_FAULT : Nat := 0x3D
abbrev SRC_NTC_FAULT : Nat := 0x3E
abbrev SRC_SHUNT_OFFSET : Nat := 0x3F
abbrev SRC_CLICK_TRIP : Nat := 0x40
abbrev SRC_LANE_TEST_FAIL : Nat := 0x41
abbrev SRC_LANE_RETIRED : Nat := 0x42
abbrev SRC_LANES_INSUFFICIENT : Nat := 0x43
abbrev SRC_BK_FB_MISMATCH : Nat := 0x44
abbrev SRC_TRIP_CLK_LOSS : Nat := 0x45
abbrev SRC_ISLAND_LIMIT_DROP : Nat := 0x46
abbrev SRC_CELL_OV : Nat := 0x50
abbrev SRC_CELL_UV : Nat := 0x51
abbrev SRC_FAULT_TONE : Nat := 0x52
abbrev SRC_STALE_CELL : Nat := 0x53
abbrev SRC_STALE_PROTECT : Nat := 0x54
abbrev SRC_STALE_TONE : Nat := 0x55
abbrev SRC_SWEEP_LATE : Nat := 0x56
abbrev SRC_SWEEP_SKIP : Nat := 0x57
abbrev SRC_RETRY_EXHAUSTED : Nat := 0x58
abbrev SRC_PORT_SILENT : Nat := 0x59
abbrev SRC_RING_BREAK : Nat := 0x5A
abbrev SRC_ENUM_FAULT : Nat := 0x5B
abbrev SRC_ALIGN_FAULT : Nat := 0x5C
abbrev SRC_CMU_FOREIGN : Nat := 0x5D
abbrev SRC_CMU_SWAPPED : Nat := 0x5E
abbrev SRC_SENSE_WIRE_OPEN : Nat := 0x5F
abbrev SRC_END_WIRE_OPEN : Nat := 0x60
abbrev SRC_OW_DEFERRED : Nat := 0x61
abbrev SRC_SYNC_LOSS : Nat := 0x62
abbrev SRC_CMU_FAULT : Nat := 0x63
abbrev SRC_ANCHOR_REQUEST : Nat := 0x70
abbrev SRC_LEARN_LOST : Nat := 0x71
abbrev SRC_LEARN_REJECTED : Nat := 0x72
abbrev SRC_HALL_INTEGRATION : Nat := 0x73
abbrev SRC_NO_CURRENT : Nat := 0x74
abbrev SRC_JOURNAL_FAULT : Nat := 0x75
abbrev SRC_LIMIT_EXCEEDED : Nat := 0x76
abbrev SRC_LEDGER_RESTORED : Nat := 0x77
abbrev SRC_SENSE_Z_CONFIRM : Nat := 0x78
abbrev SRC_SENSE_Z_UNCONFIRMED : Nat := 0x79
abbrev SRC_SHUTTLE_NACK : Nat := 0x80
abbrev SRC_TRANSFER_TIMEOUT : Nat := 0x81
abbrev SRC_SHUTTLE_EFF_LOW : Nat := 0x82
abbrev SRC_SHUTTLE_COUNT_FAULT : Nat := 0x83
abbrev SRC_SPREAD_HIGH : Nat := 0x84
abbrev SRC_SHUTTLE_BUS_FAULT : Nat := 0x85
abbrev SRC_CELL_WARN : Nat := 0x90
abbrev SRC_CELL_THROTTLE : Nat := 0x91
abbrev SRC_CELL_SHUTDOWN : Nat := 0x92
abbrev SRC_BUS_WARN : Nat := 0x93
abbrev SRC_BUS_THROTTLE : Nat := 0x94
abbrev SRC_BUS_SHUTDOWN : Nat := 0x95
abbrev SRC_MOD_WARN : Nat := 0x96
abbrev SRC_MOD_THROTTLE : Nat := 0x97
abbrev SRC_MOD_SHUTDOWN : Nat := 0x98
abbrev SRC_CELL_NTC_FAULT : Nat := 0x99
abbrev SRC_INT_SENSOR_FAULT : Nat := 0x9A
abbrev SRC_INT_SENSORS_LOST : Nat := 0x9B
abbrev SRC_BUS_TEMP_LOST : Nat := 0x9C
abbrev SRC_COIL_HOT : Nat := 0x9D
abbrev SRC_SI_ESTOP : Nat := 0xA0
abbrev SRC_SI_FIRE_GAS : Nat := 0xA1
abbrev SRC_SI_DOOR : Nat := 0xA2
abbrev SRC_SI_HVAC : Nat := 0xA3
abbrev SRC_SI_EXT_TRIP : Nat := 0xA4
abbrev SRC_SI_DISCREPANCY : Nat := 0xA5
abbrev SRC_SI_TEST_FAIL : Nat := 0xA6
abbrev SRC_SI_CROSS : Nat := 0xA7
abbrev SRC_SRST_FAULT : Nat := 0xA8
abbrev SRC_SO_READBACK : Nat := 0xA9
abbrev SRC_SO_STUCK_ON : Nat := 0xAA
abbrev SRC_COIL_SW_FAIL : Nat := 0xAB
abbrev SRC_PSF_TIMEOUT : Nat := 0xAC
abbrev SRC_PSF_COMPARE : Nat := 0xAD
abbrev SRC_PSF_SINGLE_NET : Nat := 0xAE
abbrev SRC_PSF_SINGLE_EXPIRED : Nat := 0xAF
abbrev SRC_SEQ_FB_CLOSE : Nat := 0xB0
abbrev SRC_SEQ_FB_OPEN : Nat := 0xB1
abbrev SRC_SEQ_FB_LOST : Nat := 0xB2
abbrev SRC_SSB_ON_FAIL : Nat := 0xB3
abbrev SRC_SSB_BLOCK_FAIL : Nat := 0xB4
abbrev SRC_PC_TIMEOUT : Nat := 0xB5
abbrev SRC_PC_OVERCURRENT : Nat := 0xB6
abbrev SRC_WELD_DETECTED : Nat := 0xB7
abbrev SRC_WELD_UNVERIFIED : Nat := 0xB8
abbrev SRC_SSB_FALLBACK : Nat := 0xB9
abbrev SRC_COIL_FAULT : Nat := 0xBA
abbrev SRC_PERMIT_WITHDRAWN : Nat := 0xBB
abbrev SRC_PSF_COPY_MISSING : Nat := 0xBC
abbrev SRC_PSF_SEQ : Nat := 0xBD
abbrev SRC_PCV_LAPSED : Nat := 0xBE
abbrev SRC_TPS_FAULT : Nat := 0xBF
abbrev SRC_LINK_DOWN_A : Nat := 0xC0
abbrev SRC_LINK_DOWN_B : Nat := 0xC1
abbrev SRC_LINK_SPEED_LOW : Nat := 0xC2
abbrev SRC_RX_DROP : Nat := 0xC3
abbrev SRC_LQ_DESC_FAULT : Nat := 0xC4
abbrev SRC_LQ_DESC_EXHAUSTED : Nat := 0xC5
abbrev SRC_TWIN_LANE_FAIL : Nat := 0xC6
abbrev SRC_TWIN_LINK_PATH_LOST : Nat := 0xC7
abbrev SRC_FIREFLY_PATH_LOST : Nat := 0xC8
abbrev SRC_PARTNER_LOST : Nat := 0xC9
abbrev SRC_AUTHORITY_CHANGE : Nat := 0xCA
abbrev SRC_TAKEOVER_UNHEALTHY : Nat := 0xCB
abbrev SRC_SHADOW_MISMATCH : Nat := 0xCC
abbrev SRC_PARTNER_UNHEALTHY : Nat := 0xCD
abbrev SRC_AUTHORITY_CONFLICT : Nat := 0xCE
abbrev SRC_TWIN_ALIGN_FAULT : Nat := 0xCF
abbrev SRC_RB_STUCK : Nat := 0xD0
abbrev SRC_RB_BUS_FAULT : Nat := 0xD1
abbrev SRC_RB_SCL_TIMEOUT : Nat := 0xD2
abbrev SRC_RB_TARGET_FAIL : Nat := 0xD3
abbrev SRC_RB_PEC : Nat := 0xD4
abbrev SRC_RB_ARB_EXHAUSTED : Nat := 0xD5
abbrev SRC_POLL_OVERRUN : Nat := 0xD6
abbrev SRC_RB_ALERT_STUCK : Nat := 0xD7
abbrev SRC_RB_COMPARE : Nat := 0xD8
abbrev SRC_IMAGE_CHECK_FAIL : Nat := 0xE0
abbrev SRC_BOOT_RESTART : Nat := 0xE1
abbrev SRC_RECOVERY_IMAGE : Nat := 0xE2
abbrev SRC_DELTA_FAULT : Nat := 0xE3
abbrev SRC_RETENTION_FAIL : Nat := 0xE4
abbrev SRC_STANDBY_RESTORED : Nat := 0xE5
abbrev SRC_PARAM_ROLLBACK : Nat := 0xE6
abbrev SRC_NV_CORRECTED : Nat := 0xE7
abbrev SRC_NV_UNCORRECTABLE : Nat := 0xE8
abbrev SRC_NV_RESERVE_LOW : Nat := 0xE9
abbrev SRC_NV_RESERVE_EXHAUSTED : Nat := 0xEA
abbrev SRC_SVC_AUTH_FAIL : Nat := 0xEB
abbrev SRC_ACTIVATION_TIMEOUT : Nat := 0xEC
abbrev SRC_SECURITY_CHANGE : Nat := 0xED

/-- Sources 0x00 to 0x0F. -/
def srcTab0 : List SrcRow :=
  [⟨0x00, .condition, 1, 1, 1, 0, 0, 0⟩,
   ⟨0x01, .condition, 1, 1, 1, 0, 0, 0⟩,
   ⟨0x02, .event, 0, 1, 100, 1, 2, 0⟩,
   ⟨0x03, .event, 0, 1, 10, 1, 2, 0⟩,
   ⟨0x04, .event, 1, 1, 1, 0, 0, 0⟩,
   ⟨0x05, .event, 1, 2, 3, 24, 4, 0⟩,
   ⟨0x06, .event, 1, 1, 1, 0, 0, 0⟩,
   ⟨0x08, .record, 0, 0, 1, 0, 0, 1⟩,
   ⟨0x09, .record, 0, 0, 1, 0, 0, 1⟩,
   ⟨0x0A, .record, 0, 0, 1, 0, 0, 0⟩,
   ⟨0x0B, .record, 0, 0, 1, 0, 0, 1⟩,
   ⟨0x0C, .record, 0, 0, 1, 0, 0, 1⟩,
   ⟨0x0D, .record, 0, 0, 1, 0, 0, 1⟩]

/-- Sources 0x10 to 0x1F. -/
def srcTab1 : List SrcRow :=
  [⟨0x10, .event, 1, 2, 5, 10, 3, 0⟩,
   ⟨0x11, .condition, 1, 1, 3, 1, 4, 0⟩,
   ⟨0x12, .condition, 2, 2, 1, 0, 0, 0⟩,
   ⟨0x13, .event, 2, 3, 2, 1, 4, 0⟩,
   ⟨0x14, .event, 0, 1, 1, 0, 0, 0⟩,
   ⟨0x15, .condition, 4, 4, 1, 0, 0, 0⟩,
   ⟨0x16, .event, 4, 4, 1, 0, 0, 0⟩,
   ⟨0x17, .event, 1, 1, 1, 0, 0, 0⟩]

/-- Sources 0x20 to 0x2F. -/
def srcTab2 : List SrcRow :=
  [⟨0x20, .condition, 4, 4, 1, 0, 0, 0⟩,
   ⟨0x21, .condition, 4, 4, 1, 0, 0, 0⟩,
   ⟨0x22, .condition, 4, 4, 1, 0, 0, 0⟩,
   ⟨0x23, .condition, 1, 1, 1, 0, 0, 0⟩,
   ⟨0x24, .event, 0, 1, 10, 1, 2, 0⟩,
   ⟨0x25, .event, 0, 1, 10, 1, 2, 0⟩,
   ⟨0x26, .event, 0, 0, 1, 0, 0, 0⟩,
   ⟨0x27, .condition, 1, 1, 1, 0, 0, 0⟩,
   ⟨0x28, .event, 0, 1, 10, 1, 3, 0⟩,
   ⟨0x29, .event, 0, 0, 1, 0, 0, 0⟩,
   ⟨0x2A, .record, 0, 0, 1, 0, 0, 1⟩]

/-- Sources 0x30 to 0x3F. -/
def srcTab3 : List SrcRow :=
  [⟨0x30, .condition, 4, 4, 1, 0, 0, 0⟩,
   ⟨0x31, .condition, 2, 2, 1, 0, 0, 0⟩,
   ⟨0x32, .condition, 2, 3, 3, 1, 4, 0⟩,
   ⟨0x33, .event, 3, 4, 2, 1, 4, 0⟩,
   ⟨0x34, .event, 4, 4, 1, 0, 0, 0⟩,
   ⟨0x35, .event, 4, 4, 1, 0, 0, 0⟩,
   ⟨0x36, .event, 4, 4, 1, 0, 0, 0⟩,
   ⟨0x37, .event, 4, 4, 1, 0, 0, 0⟩,
   ⟨0x38, .event, 3, 3, 1, 0, 0, 0⟩,
   ⟨0x39, .event, 4, 4, 1, 0, 0, 0⟩,
   ⟨0x3A, .condition, 1, 1, 1, 0, 0, 0⟩,
   ⟨0x3B, .condition, 2, 2, 1, 0, 0, 0⟩,
   ⟨0x3C, .event, 1, 1, 1, 0, 0, 0⟩,
   ⟨0x3D, .event, 4, 4, 1, 0, 0, 0⟩,
   ⟨0x3E, .condition, 1, 1, 1, 0, 0, 0⟩,
   ⟨0x3F, .event, 1, 2, 3, 24, 4, 0⟩]

/-- Sources 0x40 to 0x4F. -/
def srcTab4 : List SrcRow :=
  [⟨0x40, .event, 4, 4, 1, 0, 0, 0⟩,
   ⟨0x41, .event, 0, 1, 3, 24, 4, 0⟩,
   ⟨0x42, .event, 1, 1, 1, 0, 0, 0⟩,
   ⟨0x43, .condition, 4, 4, 1, 0, 0, 0⟩,
   ⟨0x44, .event, 4, 4, 1, 0, 0, 0⟩,
   ⟨0x45, .condition, 1, 1, 1, 0, 0, 0⟩,
   ⟨0x46, .event, 4, 4, 1, 0, 0, 0⟩]

/-- Sources 0x50 to 0x5F. -/
def srcTab5 : List SrcRow :=
  [⟨0x50, .event, 4, 4, 1, 0, 0, 0⟩,
   ⟨0x51, .event, 3, 4, 2, 1, 4, 0⟩,
   ⟨0x52, .event, 3, 4, 2, 1, 4, 0⟩,
   ⟨0x53, .event, 1, 1, 1, 0, 0, 0⟩,
   ⟨0x54, .event, 3, 3, 1, 0, 0, 0⟩,
   ⟨0x55, .event, 4, 4, 1, 0, 0, 0⟩,
   ⟨0x56, .event, 0, 1, 10, 1, 2, 0⟩,
   ⟨0x57, .event, 0, 0, 1, 0, 0, 0⟩,
   ⟨0x58, .event, 0, 1, 20, 1, 2, 0⟩,
   ⟨0x59, .condition, 1, 2, 3, 1, 4, 0⟩,
   ⟨0x5A, .condition, 1, 2, 2, 1, 4, 0⟩,
   ⟨0x5B, .event, 2, 2, 1, 0, 0, 0⟩,
   ⟨0x5C, .event, 1, 2, 3, 1, 4, 0⟩,
   ⟨0x5D, .condition, 3, 3, 1, 0, 0, 0⟩,
   ⟨0x5E, .condition, 1, 1, 1, 0, 0, 0⟩,
   ⟨0x5F, .condition, 2, 2, 1, 0, 0, 0⟩]

/-- Sources 0x60 to 0x6F. -/
def srcTab6 : List SrcRow :=
  [⟨0x60, .condition, 2, 2, 1, 0, 0, 0⟩,
   ⟨0x61, .event, 0, 1, 3, 1, 4, 0⟩,
   ⟨0x62, .condition, 1, 1, 1, 0, 0, 0⟩,
   ⟨0x63, .event, 3, 4, 2, 24, 4, 0⟩]

/-- Sources 0x70 to 0x7F. -/
def srcTab7 : List SrcRow :=
  [⟨0x70, .condition, 1, 1, 1, 0, 0, 0⟩,
   ⟨0x71, .event, 0, 1, 3, 30, 5, 0⟩,
   ⟨0x72, .event, 0, 1, 3, 30, 5, 0⟩,
   ⟨0x73, .condition, 2, 2, 1, 0, 0, 0⟩,
   ⟨0x74, .condition, 4, 4, 1, 0, 0, 0⟩,
   ⟨0x75, .event, 2, 2, 1, 0, 0, 0⟩,
   ⟨0x76, .event, 1, 3, 3, 1, 4, 0⟩,
   ⟨0x77, .event, 1, 1, 1, 0, 0, 0⟩,
   ⟨0x78, .event, 0, 0, 1, 0, 0, 0⟩,
   ⟨0x79, .event, 1, 1, 1, 0, 0, 0⟩]

/-- Sources 0x80 to 0x8F. -/
def srcTab8 : List SrcRow :=
  [⟨0x80, .event, 0, 1, 20, 1, 4, 0⟩,
   ⟨0x81, .event, 0, 1, 10, 1, 4, 0⟩,
   ⟨0x82, .event, 0, 1, 3, 24, 4, 0⟩,
   ⟨0x83, .event, 2, 3, 2, 24, 4, 0⟩,
   ⟨0x84, .condition, 1, 1, 1, 0, 0, 0⟩,
   ⟨0x85, .event, 1, 2, 5, 1, 4, 0⟩]

/-- Sources 0x90 to 0x9F. -/
def srcTab9 : List SrcRow :=
  [⟨0x90, .condition, 1, 1, 1, 0, 0, 0⟩,
   ⟨0x91, .condition, 1, 1, 1, 0, 0, 0⟩,
   ⟨0x92, .event, 5, 5, 1, 0, 0, 0⟩,
   ⟨0x93, .condition, 1, 1, 1, 0, 0, 0⟩,
   ⟨0x94, .condition, 1, 1, 1, 0, 0, 0⟩,
   ⟨0x95, .event, 5, 5, 1, 0, 0, 0⟩,
   ⟨0x96, .condition, 1, 1, 1, 0, 0, 0⟩,
   ⟨0x97, .condition, 1, 1, 1, 0, 0, 0⟩,
   ⟨0x98, .event, 5, 5, 1, 0, 0, 0⟩,
   ⟨0x99, .condition, 1, 2, 3, 24, 4, 0⟩,
   ⟨0x9A, .condition, 1, 1, 1, 0, 0, 0⟩,
   ⟨0x9B, .condition, 3, 3, 1, 0, 0, 0⟩,
   ⟨0x9C, .condition, 2, 2, 1, 0, 0, 0⟩,
   ⟨0x9D, .condition, 1, 1, 1, 0, 0, 0⟩]

/-- Sources 0xA0 to 0xAF. -/
def srcTabA : List SrcRow :=
  [⟨0xA0, .condition, 4, 4, 1, 0, 0, 0⟩,
   ⟨0xA1, .condition, 3, 3, 1, 0, 0, 0⟩,
   ⟨0xA2, .condition, 2, 2, 1, 0, 0, 0⟩,
   ⟨0xA3, .condition, 1, 2, 5, 1, 4, 0⟩,
   ⟨0xA4, .condition, 4, 4, 1, 0, 0, 0⟩,
   ⟨0xA5, .condition, 1, 2, 3, 24, 4, 0⟩,
   ⟨0xA6, .event, 1, 2, 2, 24, 4, 0⟩,
   ⟨0xA7, .event, 1, 2, 2, 24, 4, 0⟩,
   ⟨0xA8, .event, 1, 1, 1, 0, 0, 0⟩,
   ⟨0xA9, .event, 1, 2, 3, 24, 4, 0⟩,
   ⟨0xAA, .event, 2, 3, 2, 24, 4, 0⟩,
   ⟨0xAB, .event, 3, 4, 2, 24, 4, 0⟩,
   ⟨0xAC, .condition, 1, 1, 1, 0, 0, 0⟩,
   ⟨0xAD, .event, 3, 3, 1, 0, 0, 0⟩,
   ⟨0xAE, .condition, 1, 1, 1, 0, 0, 0⟩,
   ⟨0xAF, .condition, 3, 3, 1, 0, 0, 0⟩]

/-- Sources 0xB0 to 0xBF. -/
def srcTabB : List SrcRow :=
  [⟨0xB0, .event, 3, 4, 3, 24, 4, 0⟩,
   ⟨0xB1, .event, 3, 4, 2, 24, 4, 0⟩,
   ⟨0xB2, .event, 4, 4, 1, 0, 0, 0⟩,
   ⟨0xB3, .event, 3, 4, 2, 24, 4, 0⟩,
   ⟨0xB4, .event, 4, 4, 1, 0, 0, 0⟩,
   ⟨0xB5, .event, 3, 3, 1, 0, 0, 0⟩,
   ⟨0xB6, .event, 4, 4, 1, 0, 0, 0⟩,
   ⟨0xB7, .event, 4, 4, 1, 0, 0, 0⟩,
   ⟨0xB8, .event, 1, 1, 1, 0, 0, 0⟩,
   ⟨0xB9, .event, 4, 4, 1, 0, 0, 0⟩,
   ⟨0xBA, .event, 3, 4, 2, 24, 4, 0⟩,
   ⟨0xBB, .event, 0, 1, 10, 1, 4, 0⟩,
   ⟨0xBC, .event, 0, 1, 100, 1, 2, 0⟩,
   ⟨0xBD, .event, 0, 1, 10, 1, 2, 0⟩,
   ⟨0xBE, .event, 1, 1, 1, 0, 0, 0⟩,
   ⟨0xBF, .condition, 2, 2, 1, 0, 0, 0⟩]

/-- Sources 0xC0 to 0xCF. -/
def srcTabC : List SrcRow :=
  [⟨0xC0, .condition, 1, 1, 1, 0, 0, 0⟩,
   ⟨0xC1, .condition, 1, 1, 1, 0, 0, 0⟩,
   ⟨0xC2, .condition, 1, 1, 1, 0, 0, 0⟩,
   ⟨0xC3, .event, 0, 1, 100, 1, 2, 0⟩,
   ⟨0xC4, .event, 0, 1, 3, 24, 4, 0⟩,
   ⟨0xC5, .condition, 1, 1, 1, 0, 0, 0⟩,
   ⟨0xC6, .condition, 1, 2, 2, 1, 4, 0⟩,
   ⟨0xC7, .condition, 1, 1, 1, 0, 0, 0⟩,
   ⟨0xC8, .condition, 1, 1, 1, 0, 0, 0⟩,
   ⟨0xC9, .condition, 2, 2, 1, 0, 0, 0⟩,
   ⟨0xCA, .event, 1, 1, 1, 0, 0, 0⟩,
   ⟨0xCB, .event, 3, 3, 1, 0, 0, 0⟩,
   ⟨0xCC, .event, 1, 2, 3, 1, 4, 0⟩,
   ⟨0xCD, .condition, 1, 1, 1, 0, 0, 0⟩,
   ⟨0xCE, .event, 1, 1, 1, 0, 0, 0⟩,
   ⟨0xCF, .condition, 1, 2, 3, 1, 4, 0⟩]

/-- Sources 0xD0 to 0xDF. -/
def srcTabD : List SrcRow :=
  [⟨0xD0, .event, 0, 1, 3, 1, 4, 0⟩,
   ⟨0xD1, .condition, 1, 1, 1, 0, 0, 0⟩,
   ⟨0xD2, .event, 0, 1, 10, 1, 3, 0⟩,
   ⟨0xD3, .condition, 1, 1, 1, 0, 0, 0⟩,
   ⟨0xD4, .event, 0, 1, 10, 1, 4, 0⟩,
   ⟨0xD5, .event, 0, 1, 10, 1, 3, 0⟩,
   ⟨0xD6, .event, 0, 1, 10, 1, 3, 0⟩,
   ⟨0xD7, .condition, 1, 1, 1, 0, 0, 0⟩,
   ⟨0xD8, .condition, 1, 1, 1, 0, 0, 0⟩]

/-- Sources 0xE0 to 0xEF. -/
def srcTabE : List SrcRow :=
  [⟨0xE0, .event, 1, 1, 1, 0, 0, 0⟩,
   ⟨0xE1, .event, 0, 1, 3, 24, 4, 0⟩,
   ⟨0xE2, .condition, 2, 2, 1, 0, 0, 0⟩,
   ⟨0xE3, .event, 1, 1, 1, 0, 0, 0⟩,
   ⟨0xE4, .event, 3, 3, 1, 0, 0, 0⟩,
   ⟨0xE5, .event, 1, 1, 1, 0, 0, 0⟩,
   ⟨0xE6, .event, 1, 1, 1, 0, 0, 0⟩,
   ⟨0xE7, .event, 0, 1, 100, 24, 4, 0⟩,
   ⟨0xE8, .event, 1, 2, 2, 24, 4, 0⟩,
   ⟨0xE9, .condition, 1, 1, 1, 0, 0, 0⟩,
   ⟨0xEA, .condition, 2, 2, 1, 0, 0, 0⟩,
   ⟨0xEB, .event, 0, 1, 3, 10, 3, 0⟩,
   ⟨0xEC, .event, 0, 1, 3, 24, 4, 0⟩,
   ⟨0xED, .record, 0, 0, 1, 0, 0, 1⟩]

/-- The table of a source's range (its high hex digit). -/
def srcTab (n : Nat) : List SrcRow :=
  match n / 16 with
  | 0 => srcTab0
  | 1 => srcTab1
  | 2 => srcTab2
  | 3 => srcTab3
  | 4 => srcTab4
  | 5 => srcTab5
  | 6 => srcTab6
  | 7 => srcTab7
  | 8 => srcTab8
  | 9 => srcTab9
  | 10 => srcTabA
  | 11 => srcTabB
  | 12 => srcTabC
  | 13 => srcTabD
  | 14 => srcTabE
  | _ => []

/-- The table row of source `n`. A number no table lists is unused (R365); the spares 0xF0 to 0xFF are event-kind,
minor L1, severe L1, 1 in any. -/
def srcRow (n : Nat) : SrcRow :=
  if 0xF0 ≤ n ∧ n ≤ 0xFF then ⟨n, .event, 1, 1, 1, 0, 0, 0⟩ else
  match (srcTab n).find? (fun r => r.num == n) with
  | some r => r
  | none => ⟨n, .unused, 0, 0, 1, 0, 0, 0⟩

/-- FLOOR (R342): the default minor level for sources whose default minor level is L3 or above, L0 for the others.
PSF_TIMEOUT's default minor is L1 (WD_REACT 0). -/
def SrcRow.floor (r : SrcRow) : Nat := if 3 ≤ r.minor then r.minor else 0

/-- FIXED entries (R342): CLICK_TRIP, PSF_TIMEOUT and every record-only source. -/
def SrcRow.fixed (r : SrcRow) : Bool :=
  r.num == SRC_CLICK_TRIP || r.num == SRC_PSF_TIMEOUT || r.kind == .record

def SrcRow.fixedBit (r : SrcRow) : Nat := if r.fixed then 1 else 0

/-- The EVT_EN bit of a source whose default minor or severe reaction is L3 or above is fixed at 1 (R98). -/
def SrcRow.enFixed (r : SrcRow) : Bool := decide (3 ≤ r.minor) || decide (3 ≤ r.severe)

/-- The page whose EVT register holds a source's flag, and the first source of that page (R99). -/
def evtPage (n : Nat) : Nat × Nat :=
  if n ≤ 0x03 then (0x0000, 0x00) else if n ≤ 0x0F then (0xC000, 0x04)
  else if n ≤ 0x17 then (0x1000, 0x10) else if n ≤ 0x23 then (0x2000, 0x20)
  else if n ≤ 0x2F then (0x3000, 0x24) else if n ≤ 0x3F then (0x4000, 0x30)
  else if n ≤ 0x4F then (0x5000, 0x40) else if n ≤ 0x6F then (0x6000, 0x50)
  else if n ≤ 0x7F then (0x7000, 0x70) else if n ≤ 0x8F then (0x8000, 0x80)
  else if n ≤ 0x9F then (0x9000, 0x90) else if n ≤ 0xBF then (0xA000, 0xA0)
  else if n ≤ 0xC5 then (0xD000, 0xC0) else if n ≤ 0xCF then (0xE000, 0xC6)
  else if n ≤ 0xDF then (0xF000, 0xD0) else if n ≤ 0xEF then (0x10000, 0xE0)
  else (0xB000, 0xF0)

end Sys2Proof.Machine
end

