-- ==== Sys2Proof/Machine/Regs.lean ====
section
/-! DEFINITION. The registers' fields: address, bits, access, reset value and range, as the register tables of the spec
give them (files 03 to 16). A register map keeps, per field, the value last written; a field it does not list reads its
reset value (R17). -/

namespace Sys2Proof.Machine

/-- The access types of R14. `rwe` is an RW field that an engine also changes; `lw1s` is RWL and W1S. -/
inductive Acc where
  | ro | rw | rwe | rwl | w1c | w1s | wo | lw1s
deriving DecidableEq, Repr

/-- One field of a register: byte address of its word, lowest bit, width, access, reset value, range (R16; signed
where the field is two's complement). -/
structure Fld where
  addr : Nat
  lo : Nat
  w : Nat
  acc : Acc
  reset : Nat
  rng : Option (Int × Int)
  signed : Bool
deriving DecidableEq, Repr

/-- A field's key: the bit address of its lowest bit. -/
def Fld.key (f : Fld) : Nat := f.addr * 8 + f.lo

/-- The number a field's raw bits stand for (R17: two's complement where signed). -/
def Fld.val (f : Fld) (v : Nat) : Int :=
  if f.signed ∧ 2 ^ (f.w - 1) ≤ v then (v : Int) - 2 ^ f.w else v

/-- R16: both ends of a range are included. -/
def Fld.inRange (f : Fld) (v : Nat) : Bool :=
  match f.rng with
  | none => true
  | some (a, b) => decide (a ≤ f.val v) && decide (f.val v ≤ b)

/-- The raw bits of a number in a field of `w` bits. -/
def rawBits (w : Nat) (v : Int) : Nat := (v % (2 ^ w : Int)).toNat

/-- A register map: (key, value) pairs with rising keys. -/
abbrev RegMap := List (Nat × Nat)

/-- The value at a key, `d` where none is listed. -/
def RegMap.find : RegMap → Nat → Nat → Nat
  | [], _, d => d
  | (k, v) :: m, key, d => if k = key then v else RegMap.find m key d

/-- Insert or replace the value at a key, keys rising. -/
def RegMap.insert : RegMap → Nat → Nat → RegMap
  | [], key, x => [(key, x)]
  | (k, v) :: m, key, x =>
    if key < k then (key, x) :: (k, v) :: m
    else if k = key then (key, x) :: m
    else (k, v) :: RegMap.insert m key x

/-- Take a key out of a map. -/
def RegMap.erase (m : RegMap) (key : Nat) : RegMap := m.filter (fun p => p.1 != key)

/-- Set the value at a key; a value equal to `d` (the reset value) is not listed. -/
def RegMap.set (m : RegMap) (key d x : Nat) : RegMap := if x = d then m.erase key else m.insert key x

/-- The value of a field. -/
def RegMap.get (m : RegMap) (f : Fld) : Nat := m.find f.key f.reset

/-- Write a field; the value keeps the field's width. -/
def RegMap.put (m : RegMap) (f : Fld) (v : Nat) : RegMap := m.set f.key f.reset (v % 2 ^ f.w)

/-- The canonical form of a register map: its keys rise strictly. -/
abbrev RegMap.wf (m : RegMap) : Prop := m.Pairwise (fun p q => p.1 < q.1)

/-- R253: the factory charge table is 0.50 C, and 0 at −20 and 0 °C. -/
def tblChgReset (i : Nat) : Nat := if i < 16 then 0 else 50
/-- R253: the factory discharge table is 1.00 C everywhere. -/
def tblDsgReset (_ : Nat) : Nat := 100
/-- R253: temperature breakpoints −20, 0, 10, 20, 30, 40, 50 and 60 °C, in 0.1 °C. -/
def tBpReset (i : Nat) : Nat :=
  match i with
  | 0 => 0x10000 - 200 | 1 => 0 | 2 => 100 | 3 => 200 | 4 => 300 | 5 => 400 | 6 => 500 | _ => 600
/-- R253: SoC breakpoints 0, 10, 30, 50, 70, 90, 95 and 100 %, in 0.01 %. -/
def socBpReset (i : Nat) : Nat :=
  match i with
  | 0 => 0 | 1 => 1000 | 2 => 3000 | 3 => 5000 | 4 => 7000 | 5 => 9000 | 6 => 9500 | _ => 10000
/-- R287: the default shuttle pauses, ms. -/
def pauseCellReset (n : Nat) : Nat :=
  match n with
  | 0 => 100 | 1 => 200 | 2 => 300 | 3 => 500 | 4 => 700 | 5 => 1000 | 6 => 1500 | 7 => 2000 | 8 => 3000 | _ => 5000
/-- R287: the default transaction pauses, µs. -/
def pauseModReset (n : Nat) : Nat :=
  match n with
  | 0 => 10 | 1 => 20 | 2 => 50 | 3 => 100 | 4 => 200 | 5 => 500 | 6 => 1000 | 7 => 2000 | 8 => 5000 | _ => 10000

def PWR_STA_PSTATE : Fld := ⟨0x100C, 0, 1, .ro, 0, none, false⟩
def PWR_STA_HOLD_READY : Fld := ⟨0x100C, 1, 1, .ro, 0, none, false⟩
def PWR_STA_BOOST_ON : Fld := ⟨0x100C, 2, 1, .ro, 0, none, false⟩
def PWR_STA_CAP_VALID : Fld := ⟨0x100C, 3, 1, .ro, 0, none, false⟩
def PWR_STA_RIDE_EXPIRED : Fld := ⟨0x100C, 4, 1, .ro, 0, none, false⟩
def PWR_STA_VCOIL_OK : Fld := ⟨0x100C, 5, 1, .ro, 0, none, false⟩
def PWR_STA_DISCHARGE_ON : Fld := ⟨0x100C, 6, 1, .ro, 0, none, false⟩
def PWR_SUPPLY_VIN : Fld := ⟨0x1040, 0, 16, .ro, 0, none, false⟩
def PWR_SUPPLY_VCOIL : Fld := ⟨0x1040, 16, 16, .ro, 0, none, false⟩
def PWR_HOLD_V_HOLD : Fld := ⟨0x1044, 0, 16, .ro, 0, none, false⟩
def PWR_HOLD_V_V_COMMIT_EFF : Fld := ⟨0x1044, 16, 16, .ro, 5000, none, false⟩
def PWR_CAP_CAP_UF : Fld := ⟨0x1048, 0, 16, .ro, 0, none, false⟩
def PWR_CAP_REMEASURE : Fld := ⟨0x1048, 16, 1, .w1s, 0, none, false⟩
def PWR_CAP_MIN : Fld := ⟨0x104C, 0, 16, .rwl, 1000, some (1000, 4700), false⟩
def PWR_V_COMMIT : Fld := ⟨0x1050, 0, 16, .rwl, 5000, some (4500, 9000), false⟩
def PWR_RIDE_TIME : Fld := ⟨0x1054, 0, 8, .rwl, 20, some (0, 20), false⟩
def PWR_HOLDUP_LOG_ENTRIES : Fld := ⟨0x1058, 0, 8, .ro, 0, none, false⟩
def PWR_HOLDUP_LOG_ABANDONED : Fld := ⟨0x1058, 8, 8, .ro, 0, none, false⟩
def PWR_HOLDUP_LOG_LAST_MS : Fld := ⟨0x1058, 16, 16, .ro, 0, none, false⟩
def PWR_BOOT_BOOT_NUMBER : Fld := ⟨0x1060, 0, 8, .ro, 0, none, false⟩
def PWR_BOOT_CAUSE : Fld := ⟨0x1060, 8, 4, .ro, 0, none, false⟩
def PWR_BOOT_LATCH_KEPT : Fld := ⟨0x1060, 12, 1, .ro, 0, none, false⟩
def PWR_POWER_P_IN : Fld := ⟨0x1064, 0, 16, .ro, 0, none, false⟩
def CLK_STA_REF_OK : Fld := ⟨0x200C, 0, 1, .ro, 0, none, false⟩
def CLK_STA_PLLC_LOCK : Fld := ⟨0x200C, 1, 1, .ro, 0, none, false⟩
def CLK_STA_PLLN_LOCK : Fld := ⟨0x200C, 2, 1, .ro, 0, none, false⟩
def CLK_STA_TRIP_FWD_OK : Fld := ⟨0x200C, 3, 1, .ro, 0, none, false⟩
def CLK_STA_SAMP_FWD_OK : Fld := ⟨0x200C, 4, 1, .ro, 0, none, false⟩
def CLK_STA_CORE_SRC : Fld := ⟨0x200C, 5, 2, .ro, 0, none, false⟩
def CLK_STA_COMP_VALID : Fld := ⟨0x200C, 7, 1, .ro, 0, none, false⟩
def CLK_UNLOCK_CNT_REF_LOSS : Fld := ⟨0x2040, 0, 8, .ro, 0, none, false⟩
def CLK_UNLOCK_CNT_PLLC : Fld := ⟨0x2040, 8, 8, .ro, 0, none, false⟩
def CLK_UNLOCK_CNT_PLLN : Fld := ⟨0x2040, 16, 8, .ro, 0, none, false⟩
def CLK_REF_TEMP_TEMP : Fld := ⟨0x2044, 0, 16, .ro, 0, none, true⟩
def CLK_REF_PPB_PPB : Fld := ⟨0x2048, 0, 32, .ro, 0, none, true⟩
def CLK_COMP_PT_PPB (n : Nat) : Fld := ⟨0x2050 + 4*n, 0, 32, .ro, 0, none, true⟩
def SYS_STA_CFG_DEFAULTED : Fld := ⟨0xC, 0, 1, .ro, 0, none, false⟩
def SYS_STA_CFG_CONFLICT : Fld := ⟨0xC, 1, 1, .ro, 0, none, false⟩
def SYS_STA_TWIN_CFG_FAULT : Fld := ⟨0xC, 2, 1, .ro, 0, none, false⟩
def SYS_MODE : Fld := ⟨0x40, 0, 4, .ro, 0, none, false⟩
def SYS_MODE_PREV : Fld := ⟨0x40, 4, 4, .ro, 0, none, false⟩
def SYS_STATE_ROLE : Fld := ⟨0x44, 0, 2, .ro, 0, none, false⟩
def SYS_STATE_PSTATE : Fld := ⟨0x44, 2, 1, .ro, 0, none, false⟩
def SYS_STATE_THERMAL : Fld := ⟨0x44, 4, 2, .ro, 0, none, false⟩
def SYS_STATE_SECURITY : Fld := ⟨0x44, 8, 2, .ro, 0, none, false⟩
def SYS_STATE_EPOCH : Fld := ⟨0x44, 16, 16, .ro, 0, none, false⟩
def SYS_CONFLICT_ID_TABLE : Fld := ⟨0x48, 0, 16, .ro, 0, none, false⟩
def SYS_CONFLICT_ID_ENTRY : Fld := ⟨0x48, 16, 16, .ro, 0, none, false⟩
def SYS_RESERVE_USED_USED : Fld := ⟨0x4C, 0, 8, .ro, 0, none, false⟩
def SYS_VARIANT : Fld := ⟨0x50, 0, 8, .ro, 0, none, false⟩
def SYS_VARIANT_HW_REV : Fld := ⟨0x50, 8, 8, .ro, 0, none, false⟩
def SYS_STRAPS_ADDR : Fld := ⟨0x54, 0, 4, .ro, 0, none, false⟩
def SYS_STRAPS_TWIN_ID : Fld := ⟨0x54, 4, 1, .ro, 0, none, false⟩
def SYS_STRAPS_TWIN_CFG : Fld := ⟨0x54, 5, 1, .ro, 0, none, false⟩
def SYS_SERIAL_LO : Fld := ⟨0x58, 0, 32, .ro, 0, none, false⟩
def SYS_SERIAL_HI : Fld := ⟨0x5C, 0, 32, .ro, 0, none, false⟩
def SYS_MAC_A_LO : Fld := ⟨0x60, 0, 32, .ro, 0, none, false⟩
def SYS_MAC_A_HI : Fld := ⟨0x64, 0, 16, .ro, 0, none, false⟩
def SYS_MAC_B_LO : Fld := ⟨0x68, 0, 32, .ro, 0, none, false⟩
def SYS_MAC_B_HI : Fld := ⟨0x6C, 0, 16, .ro, 0, none, false⟩
def SYS_GRA_CACHE_TIME_TIME : Fld := ⟨0x70, 0, 12, .rwl, 400, some (100, 2000), false⟩
def SYS_GRA_STAT_AUTHFAIL : Fld := ⟨0x74, 0, 8, .ro, 0, none, false⟩
def SYS_GRA_STAT_BUSY : Fld := ⟨0x74, 8, 8, .ro, 0, none, false⟩
def SYS_GRA_STAT_REPLAY : Fld := ⟨0x74, 16, 8, .ro, 0, none, false⟩
def SYS_GRA_STAT_DISCARDED : Fld := ⟨0x74, 24, 8, .ro, 0, none, false⟩
def SYS_GRA_OUTSTANDING_S0 : Fld := ⟨0x78, 0, 5, .ro, 0, none, false⟩
def SYS_GRA_OUTSTANDING_S1 : Fld := ⟨0x78, 8, 5, .ro, 0, none, false⟩
def SYS_GRA_OUTSTANDING_S2 : Fld := ⟨0x78, 16, 5, .ro, 0, none, false⟩
def SYS_GRA_OUTSTANDING_S3 : Fld := ⟨0x78, 24, 5, .ro, 0, none, false⟩
def SYS_GRA_CACHE_USE01_LOW : Fld := ⟨0x7C, 0, 12, .ro, 0, none, false⟩
def SYS_GRA_CACHE_USE01_HIGH : Fld := ⟨0x7C, 16, 12, .ro, 0, none, false⟩
def SYS_GRA_CACHE_USE23_LOW : Fld := ⟨0x80, 0, 12, .ro, 0, none, false⟩
def SYS_GRA_CACHE_USE23_HIGH : Fld := ⟨0x80, 16, 12, .ro, 0, none, false⟩
def SAFE_SEQ_CMD_CMD : Fld := ⟨0xA200, 0, 4, .wo, 0, none, false⟩
def SAFE_SEQ_CMD_ARG : Fld := ⟨0xA200, 16, 3, .wo, 0, none, false⟩
def SAFE_SEQ_STA_STEP : Fld := ⟨0xA204, 0, 5, .ro, 0, none, false⟩
def SAFE_SEQ_STA_LAST_RESULT : Fld := ⟨0xA204, 5, 3, .ro, 0, none, false⟩
def SAFE_SEQ_STA_ABORT_SRC : Fld := ⟨0xA204, 8, 8, .ro, 0, none, false⟩
def SAFE_SEQ_STA_REFUSE : Fld := ⟨0xA204, 16, 15, .ro, 0, none, false⟩
def SAFE_SW_STATE_KP_CMD : Fld := ⟨0xA208, 0, 1, .ro, 0, none, false⟩
def SAFE_SW_STATE_KN_CMD : Fld := ⟨0xA208, 1, 1, .ro, 0, none, false⟩
def SAFE_SW_STATE_KC_CMD : Fld := ⟨0xA208, 2, 1, .ro, 0, none, false⟩
def SAFE_SW_STATE_SSBP_CMD : Fld := ⟨0xA208, 3, 1, .ro, 0, none, false⟩
def SAFE_SW_STATE_SSBN_CMD : Fld := ⟨0xA208, 4, 1, .ro, 0, none, false⟩
def SAFE_SW_STATE_KP_FB : Fld := ⟨0xA208, 8, 1, .ro, 0, none, false⟩
def SAFE_SW_STATE_KN_FB : Fld := ⟨0xA208, 9, 1, .ro, 0, none, false⟩
def SAFE_SW_STATE_KC_FB : Fld := ⟨0xA208, 10, 1, .ro, 0, none, false⟩
def SAFE_SW_STATE_BK_FB1 : Fld := ⟨0xA208, 11, 1, .ro, 0, none, false⟩
def SAFE_SW_STATE_BK_FB2 : Fld := ⟨0xA208, 12, 1, .ro, 0, none, false⟩
def SAFE_SW_STATE_KP_BROKEN : Fld := ⟨0xA208, 16, 1, .ro, 0, none, false⟩
def SAFE_SW_STATE_KN_BROKEN : Fld := ⟨0xA208, 17, 1, .ro, 0, none, false⟩
def SAFE_SW_STATE_KC_BROKEN : Fld := ⟨0xA208, 18, 1, .ro, 0, none, false⟩
def SAFE_WELD_RESULT_KP : Fld := ⟨0xA20C, 0, 2, .ro, 0, none, false⟩
def SAFE_WELD_RESULT_KN : Fld := ⟨0xA20C, 2, 2, .ro, 0, none, false⟩
def SAFE_WELD_RESULT_KC : Fld := ⟨0xA20C, 4, 2, .ro, 0, none, false⟩
def SAFE_WELD_RESULT_PENDING : Fld := ⟨0xA20C, 8, 1, .ro, 0, none, false⟩
def SAFE_WELD_RESULT_TRIES : Fld := ⟨0xA20C, 16, 8, .ro, 0, none, false⟩
def SAFE_FB_TIME_CLOSE : Fld := ⟨0xA210, 0, 16, .rwl, 100, some (20, 500), false⟩
def SAFE_FB_TIME_OPEN : Fld := ⟨0xA210, 16, 16, .rwl, 10, some (5, 14), false⟩
def SAFE_SSB_TIME_CONFIRM : Fld := ⟨0xA214, 0, 16, .rwl, 200, some (50, 1000), false⟩
def SAFE_SSB_TIME_STAGGER : Fld := ⟨0xA214, 16, 16, .rwl, 1000, some (100, 10000), false⟩
def SAFE_PC_DV_DV : Fld := ⟨0xA218, 0, 16, .rwl, 1000, some (200, 5000), false⟩
def SAFE_PC_HOLD_HOLD : Fld := ⟨0xA21C, 0, 16, .rwl, 20, some (5, 200), false⟩
def SAFE_PC_HOLD_TIMEOUT : Fld := ⟨0xA21C, 16, 16, .rwl, 500, some (50, 3000), false⟩
def SAFE_PC_R_RPC : Fld := ⟨0xA220, 0, 16, .rwl, 400, some (10, 10000), false⟩
def SAFE_PC_R_COOL : Fld := ⟨0xA220, 16, 16, .rwl, 60, some (10, 600), false⟩
def SAFE_I_ZERO : Fld := ⟨0xA224, 0, 16, .rwl, 2000, some (500, 20000), false⟩
def SAFE_WELD_CTL_RETRY : Fld := ⟨0xA228, 0, 8, .rwl, 10, some (1, 100), false⟩
def SAFE_WELD_CTL_WINDOW : Fld := ⟨0xA228, 16, 10, .rwl, 60, some (10, 600), false⟩
def SAFE_COIL_PICK_PICK : Fld := ⟨0xA22C, 0, 8, .rwl, 100, some (20, 200), false⟩
def SAFE_PC_LAST_DURATION : Fld := ⟨0xA230, 0, 16, .ro, 0, none, false⟩
def SAFE_PC_LAST_PEAK : Fld := ⟨0xA230, 16, 16, .ro, 0, none, false⟩
def SAFE_COIL_KP_CURRENT : Fld := ⟨0xA234, 0, 16, .ro, 0, none, false⟩
def SAFE_COIL_KP_RESISTANCE : Fld := ⟨0xA234, 16, 16, .ro, 0, none, false⟩
def SAFE_COIL_KN_CURRENT : Fld := ⟨0xA238, 0, 16, .ro, 0, none, false⟩
def SAFE_COIL_KN_RESISTANCE : Fld := ⟨0xA238, 16, 16, .ro, 0, none, false⟩
def SAFE_COIL_KC_CURRENT : Fld := ⟨0xA23C, 0, 16, .ro, 0, none, false⟩
def SAFE_COIL_KC_RESISTANCE : Fld := ⟨0xA23C, 16, 16, .ro, 0, none, false⟩
def SAFE_COIL_TIMES_CLOSE_MS : Fld := ⟨0xA240, 0, 8, .ro, 0, none, false⟩
def SAFE_COIL_TIMES_OPEN_MS : Fld := ⟨0xA240, 8, 8, .ro, 0, none, false⟩
def SAFE_COIL_TIMES_COIL : Fld := ⟨0xA240, 16, 2, .ro, 0, none, false⟩
def HVS_STA_ISLAND_OK : Fld := ⟨0x400C, 0, 1, .ro, 0, none, false⟩
def HVS_STA_SAMP_OK : Fld := ⟨0x400C, 1, 1, .ro, 0, none, false⟩
def HVS_STA_SHUNT_OK : Fld := ⟨0x400C, 2, 1, .ro, 0, none, false⟩
def HVS_STA_HALL_OK : Fld := ⟨0x400C, 3, 1, .ro, 0, none, false⟩
def HVS_STA_ZERO_VALID : Fld := ⟨0x400C, 4, 1, .ro, 0, none, false⟩
def HVS_STA_IMD_INJECTING : Fld := ⟨0x400C, 5, 1, .ro, 0, none, false⟩
def HVS_STA_IMD_VALID : Fld := ⟨0x400C, 6, 1, .ro, 0, none, false⟩
def HVS_STA_IMD_FOREIGN : Fld := ⟨0x400C, 7, 1, .ro, 0, none, false⟩
def HVS_STA_SUM_CHECKED : Fld := ⟨0x400C, 8, 1, .ro, 0, none, false⟩
def HVS_STA_OVERRANGE : Fld := ⟨0x400C, 9, 1, .ro, 0, none, false⟩
def HVS_STA_LIMIT_LATCH : Fld := ⟨0x400C, 10, 1, .ro, 0, none, false⟩
def HVS_STA_FOLLOW_P : Fld := ⟨0x400C, 11, 1, .ro, 0, none, false⟩
def HVS_STA_FOLLOW_N : Fld := ⟨0x400C, 12, 1, .ro, 0, none, false⟩
def HVS_V_NODE (n : Nat) : Fld := ⟨0x4040 + 4*n, 0, 32, .ro, 0, none, true⟩
def HVS_V_STRING_V : Fld := ⟨0x4058, 0, 32, .ro, 0, none, true⟩
def HVS_V_BUS_V : Fld := ⟨0x405C, 0, 32, .ro, 0, none, true⟩
def HVS_I_SHUNT_I : Fld := ⟨0x4060, 0, 32, .ro, 0, none, true⟩
def HVS_I_HALL_I : Fld := ⟨0x4064, 0, 32, .ro, 0, none, true⟩
def HVS_T_SAMPLE_T : Fld := ⟨0x4068, 0, 32, .ro, 0, none, false⟩
def HVS_SHUNT_R_R : Fld := ⟨0x4080, 0, 32, .rwl, 50000, some (10000, 200000), false⟩
def HVS_SHUNT_TRIM_GAIN : Fld := ⟨0x4084, 0, 16, .rwl, 0, some (-500, 500), true⟩
def HVS_SHUNT_TRIM_TC : Fld := ⟨0x4084, 16, 16, .rwl, 0, some (-100, 100), true⟩
def HVS_HALL_SCALE_SCALE : Fld := ⟨0x4088, 0, 32, .rwl, 1000000, none, true⟩
def HVS_ZERO_SHUNT_OFS : Fld := ⟨0x408C, 0, 16, .ro, 0, none, true⟩
def HVS_ZERO_HALL_OFS : Fld := ⟨0x408C, 16, 16, .ro, 0, none, true⟩
def HVS_XCHK_WIN_PCT : Fld := ⟨0x4090, 0, 8, .rwl, 10, some (5, 50), false⟩
def HVS_XCHK_WIN_A : Fld := ⟨0x4090, 8, 8, .rwl, 5, some (2, 50), false⟩
def HVS_XCHK_WIN_TIME : Fld := ⟨0x4090, 16, 16, .rwl, 100, some (20, 1000), false⟩
def HVS_SUM_TOL_PCT : Fld := ⟨0x4094, 0, 16, .rwl, 50, some (20, 200), false⟩
def HVS_SUM_TOL_ABS : Fld := ⟨0x4094, 16, 16, .rwl, 200, some (100, 2000), false⟩
def HVS_LIM_OC_DSG : Fld := ⟨0x4098, 0, 16, .rwl, 4000, some (100, 9900), false⟩
def HVS_LIM_OC_CHG : Fld := ⟨0x4098, 16, 16, .rwl, 3000, some (100, 9900), false⟩
def HVS_LIM_OC_TIME_TIME : Fld := ⟨0x409C, 0, 16, .rwl, 10, some (1, 1000), false⟩
def HVS_LIM_DIDT_RATE : Fld := ⟨0x40A0, 0, 16, .rwl, 200, some (10, 2000), false⟩
def HVS_LIM_DIDT_COUNT : Fld := ⟨0x40A0, 16, 8, .rwl, 3, some (1, 10), false⟩
def HVS_LIM_V_OV : Fld := ⟨0x40A4, 0, 16, .rwl, 21000, some (1000, 21500), false⟩
def HVS_LIM_V_UV : Fld := ⟨0x40A4, 16, 16, .rwl, 0, some (0, 20000), false⟩
def HVS_LIM_BUS_BUS_OV : Fld := ⟨0x40A8, 0, 16, .rwl, 21500, some (1000, 22000), false⟩
def HVS_IMD_CFG_ROLE : Fld := ⟨0x40AC, 0, 2, .rwl, 0, some (0, 2), false⟩
def HVS_IMD_THR_WARN : Fld := ⟨0x40B0, 0, 16, .rwl, 200, some (20, 5000), false⟩
def HVS_IMD_THR_FAULT : Fld := ⟨0x40B0, 16, 16, .rwl, 100, some (10, 2000), false⟩
def HVS_IMD_RES_R_ISO : Fld := ⟨0x40B4, 0, 16, .ro, 0, none, false⟩
def HVS_IMD_RES_BELOW : Fld := ⟨0x40B4, 16, 1, .ro, 0, none, false⟩
def HVS_IMD_RES_ABOVE : Fld := ⟨0x40B4, 17, 1, .ro, 0, none, false⟩
def HVS_IMD_RES_VALID : Fld := ⟨0x40B4, 18, 1, .ro, 0, none, false⟩
def HVS_IMD_RES_CYCLES : Fld := ⟨0x40B4, 24, 8, .ro, 0, none, false⟩
def HVS_IMD_DETAIL_PERIOD : Fld := ⟨0x40B8, 0, 16, .ro, 0, none, false⟩
def HVS_IMD_DETAIL_CAP : Fld := ⟨0x40B8, 16, 16, .ro, 0, none, false⟩
def HVS_NTC_NTC_A : Fld := ⟨0x40BC, 0, 16, .ro, 0, none, true⟩
def HVS_NTC_NTC_B : Fld := ⟨0x40BC, 16, 16, .ro, 0, none, true⟩
def HVS_HALL_SUP_CURRENT : Fld := ⟨0x40C0, 0, 16, .ro, 0, none, false⟩
def HVS_HALL_SUP_VOLTAGE : Fld := ⟨0x40C0, 16, 16, .ro, 0, none, false⟩
def HVS_ISLAND_TEMP_TEMP : Fld := ⟨0x40C4, 0, 16, .ro, 0, none, true⟩
def TRIP_STA_LATCH_A : Fld := ⟨0x500C, 0, 1, .ro, 0, none, false⟩
def TRIP_STA_LATCH_B : Fld := ⟨0x500C, 1, 1, .ro, 0, none, false⟩
def TRIP_STA_LATCH_C : Fld := ⟨0x500C, 2, 1, .ro, 0, none, false⟩
def TRIP_STA_ON_PATH_A : Fld := ⟨0x500C, 3, 1, .ro, 0, none, false⟩
def TRIP_STA_ON_PATH_B : Fld := ⟨0x500C, 4, 1, .ro, 0, none, false⟩
def TRIP_STA_ON_PATH_C : Fld := ⟨0x500C, 5, 1, .ro, 0, none, false⟩
def TRIP_STA_TEST_ACTIVE : Fld := ⟨0x500C, 6, 1, .ro, 0, none, false⟩
def TRIP_STA_TEST_LANE : Fld := ⟨0x500C, 7, 2, .ro, 0, none, false⟩
def TRIP_STA_C_ROLE : Fld := ⟨0x500C, 9, 2, .ro, 0, none, false⟩
def TRIP_STA_INSUFFICIENT : Fld := ⟨0x500C, 11, 1, .ro, 0, none, false⟩
def TRIP_STA_GATE_FORCED : Fld := ⟨0x500C, 12, 1, .ro, 0, none, false⟩
def TRIP_THR_A : Fld := ⟨0x5040, 0, 10, .rwl, 384, some (16, 511), false⟩
def TRIP_THR_B : Fld := ⟨0x5044, 0, 10, .rwl, 384, some (16, 511), false⟩
def TRIP_THR_C : Fld := ⟨0x5048, 0, 10, .rwl, 384, some (16, 511), false⟩
def TRIP_TEST_CTL_INTERVAL : Fld := ⟨0x504C, 0, 8, .rwl, 10, some (10, 50), false⟩
def TRIP_TEST_CTL_MARGIN : Fld := ⟨0x504C, 8, 8, .rwl, 16, some (8, 64), false⟩
def TRIP_TEST_RES_FAIL_A : Fld := ⟨0x5050, 0, 2, .ro, 0, none, false⟩
def TRIP_TEST_RES_FAIL_B : Fld := ⟨0x5050, 2, 2, .ro, 0, none, false⟩
def TRIP_TEST_RES_FAIL_C : Fld := ⟨0x5050, 4, 2, .ro, 0, none, false⟩
def TRIP_TEST_RES_RETIRED_A : Fld := ⟨0x5050, 8, 1, .ro, 0, none, false⟩
def TRIP_TEST_RES_RETIRED_B : Fld := ⟨0x5050, 9, 1, .ro, 0, none, false⟩
def TRIP_TEST_RES_RETIRED_C : Fld := ⟨0x5050, 10, 1, .ro, 0, none, false⟩
def TRIP_TEST_RES_TESTS : Fld := ⟨0x5050, 16, 16, .ro, 0, none, false⟩
def TRIP_TEST_TIME_A : Fld := ⟨0x5054, 0, 8, .ro, 0, none, false⟩
def TRIP_TEST_TIME_B : Fld := ⟨0x5054, 8, 8, .ro, 0, none, false⟩
def TRIP_TEST_TIME_C : Fld := ⟨0x5054, 16, 8, .ro, 0, none, false⟩
def TRIP_TRIP_CNT_BOOT : Fld := ⟨0x5060, 0, 16, .ro, 0, none, false⟩
def TRIP_TRIP_CNT_LIFE : Fld := ⟨0x5060, 16, 16, .ro, 0, none, false⟩
def TRIP_BK_TIME_FALL : Fld := ⟨0x5064, 0, 16, .rwl, 50, some (10, 500), false⟩
def TRIP_BK_TIME_ON_LOSS : Fld := ⟨0x5064, 16, 16, .rwl, 50, some (10, 500), false⟩
def TRIP_BK_LAST_FB1 : Fld := ⟨0x5068, 0, 16, .ro, 0, none, false⟩
def TRIP_BK_LAST_FB2 : Fld := ⟨0x5068, 16, 16, .ro, 0, none, false⟩
def TRIP_CAP_CTL_MANUAL : Fld := ⟨0x506C, 0, 1, .w1s, 0, none, false⟩
def TRIP_CAP_CTL_HVS_L4 : Fld := ⟨0x506C, 1, 1, .rwl, 1, none, false⟩
def TRIP_CAP_CTL_RUNNING : Fld := ⟨0x506C, 2, 1, .ro, 0, none, false⟩
def CHAIN_STA_RING1_OK : Fld := ⟨0x600C, 0, 1, .ro, 0, none, false⟩
def CHAIN_STA_RING2_OK : Fld := ⟨0x600C, 1, 1, .ro, 0, none, false⟩
def CHAIN_STA_ENUM_RUNNING : Fld := ⟨0x600C, 2, 1, .ro, 0, none, false⟩
def CHAIN_STA_ALIGNED : Fld := ⟨0x600C, 3, 1, .ro, 0, none, false⟩
def CHAIN_STA_SYNC_LOCKED : Fld := ⟨0x600C, 4, 1, .ro, 0, none, false⟩
def CHAIN_STA_REPAIR_RUNNING : Fld := ⟨0x600C, 5, 1, .ro, 0, none, false⟩
def CHAIN_STA_UNCONFIRMED : Fld := ⟨0x600C, 6, 1, .ro, 0, none, false⟩
def CHAIN_STA_FOREIGN : Fld := ⟨0x600C, 7, 1, .ro, 0, none, false⟩
def CHAIN_STA_BURST_RUNNING : Fld := ⟨0x600C, 8, 1, .ro, 0, none, false⟩
def CHAIN_STA_OW_DEFERRING : Fld := ⟨0x600C, 9, 1, .ro, 0, none, false⟩
def CHAIN_SWEEP_CTL_SRC : Fld := ⟨0x6040, 0, 2, .rwl, 0, some (0, 2), false⟩
def CHAIN_SWEEP_CTL_LEAD : Fld := ⟨0x6040, 16, 9, .rwl, 50, some (5, 400), false⟩
def CHAIN_SWEEP_DEADLINE_DEADLINE : Fld := ⟨0x6044, 0, 16, .rwl, 250, some (80, 900), false⟩
def CHAIN_CMU_COUNT_COUNT : Fld := ⟨0x6048, 0, 6, .rwl, 36, some (1, 36), false⟩
def CHAIN_PORT_MAP_END_1A : Fld := ⟨0x604C, 0, 3, .rwl, 1, some (0, 4), false⟩
def CHAIN_PORT_MAP_END_1B : Fld := ⟨0x604C, 4, 3, .rwl, 2, some (0, 4), false⟩
def CHAIN_PORT_MAP_END_2A : Fld := ⟨0x604C, 8, 3, .rwl, 3, some (0, 4), false⟩
def CHAIN_PORT_MAP_END_2B : Fld := ⟨0x604C, 12, 3, .rwl, 4, some (0, 4), false⟩
def CHAIN_SYNC_CFG_DIV : Fld := ⟨0x6050, 0, 8, .rwl, 1, some (1, 255), false⟩
def CHAIN_SYNC_CFG_K : Fld := ⟨0x6050, 8, 5, .rwl, 1, some (1, 16), false⟩
def CHAIN_SYNC_OFFSET_OFFSET : Fld := ⟨0x6054, 0, 32, .rwl, 0, some (-1000000, 1000000), true⟩
def CHAIN_SYNC_PERIOD_VALUE : Fld := ⟨0x6058, 0, 32, .ro, 0, none, false⟩
def CHAIN_SYNC_LAST_VALUE : Fld := ⟨0x605C, 0, 32, .ro, 0, none, false⟩
def CHAIN_SCHED_VALID : Fld := ⟨0x6060, 0, 32, .w1s, 0, none, false⟩
def CHAIN_STALE_T_STALE : Fld := ⟨0x6064, 0, 16, .rwl, 50, some (20, 500), false⟩
def CHAIN_STALE_HOLD : Fld := ⟨0x6064, 16, 16, .rwl, 100, some (20, 1000), false⟩
def CHAIN_CELL_LIM_OV : Fld := ⟨0x6068, 0, 16, .rwl, 42500, some (20000, 45000), false⟩
def CHAIN_CELL_LIM_UV : Fld := ⟨0x6068, 16, 16, .rwl, 25000, some (15000, 35000), false⟩
def CHAIN_TONE_LIM_OV : Fld := ⟨0x6070, 0, 16, .rwl, 43000, some (20000, 45000), false⟩
def CHAIN_TONE_LIM_UV : Fld := ⟨0x6070, 16, 16, .rwl, 24000, some (15000, 35000), false⟩
def CHAIN_CELL_LIM_N_N : Fld := ⟨0x606C, 0, 4, .rwl, 3, some (1, 10), false⟩
def CHAIN_OW_CFG_THR : Fld := ⟨0x6074, 0, 8, .rwl, 20, some (10, 50), false⟩
def CHAIN_OW_CFG_MARGIN : Fld := ⟨0x6074, 8, 8, .rwl, 5, some (0, 20), false⟩
def CHAIN_OW_CFG_PERIOD : Fld := ⟨0x6074, 16, 8, .rwl, 10, some (10, 100), false⟩
def CHAIN_OW_CFG_DEFER : Fld := ⟨0x6074, 24, 8, .rwl, 10, some (1, 60), false⟩
def CHAIN_OW_STA_TESTS : Fld := ⟨0x6078, 0, 16, .ro, 0, none, false⟩
def CHAIN_OW_STA_SINCE : Fld := ⟨0x6078, 16, 8, .ro, 0, none, false⟩
def CHAIN_OW_STA_LAST_TOOK : Fld := ⟨0x6078, 24, 1, .ro, 0, none, false⟩
def CHAIN_SWEEP_STA_ID : Fld := ⟨0x607C, 0, 8, .ro, 0, none, false⟩
def CHAIN_SWEEP_STA_FLAGS : Fld := ⟨0x607C, 8, 6, .ro, 0, none, false⟩
def CHAIN_SWEEP_STA_FRESH : Fld := ⟨0x607C, 16, 6, .ro, 0, none, false⟩
def CHAIN_SWEEP_STA_FLIGHT1 : Fld := ⟨0x607C, 24, 3, .ro, 0, none, false⟩
def CHAIN_SWEEP_STA_FLIGHT2 : Fld := ⟨0x607C, 28, 3, .ro, 0, none, false⟩
def CHAIN_SWEEP_T_T : Fld := ⟨0x6080, 0, 32, .ro, 0, none, false⟩
def CHAIN_SWEEP_CNT_LOW : Fld := ⟨0x6084, 0, 16, .ro, 0, none, false⟩
def CHAIN_SWEEP_CNT_HIGH : Fld := ⟨0x6084, 16, 16, .ro, 0, none, false⟩
def CHAIN_RETRY_CNT_LOW : Fld := ⟨0x6088, 0, 16, .ro, 0, none, false⟩
def CHAIN_RETRY_CNT_HIGH : Fld := ⟨0x6088, 16, 16, .ro, 0, none, false⟩
def CHAIN_BREAK_1_FIRST : Fld := ⟨0x608C, 0, 8, .ro, 255, none, false⟩
def CHAIN_BREAK_1_SECOND : Fld := ⟨0x608C, 8, 8, .ro, 255, none, false⟩
def CHAIN_BREAK_1_END_A_SILENT : Fld := ⟨0x608C, 16, 1, .ro, 0, none, false⟩
def CHAIN_BREAK_1_END_B_SILENT : Fld := ⟨0x608C, 17, 1, .ro, 0, none, false⟩
def CHAIN_BREAK_2_FIRST : Fld := ⟨0x6090, 0, 8, .ro, 255, none, false⟩
def CHAIN_BREAK_2_SECOND : Fld := ⟨0x6090, 8, 8, .ro, 255, none, false⟩
def CHAIN_BREAK_2_END_A_SILENT : Fld := ⟨0x6090, 16, 1, .ro, 0, none, false⟩
def CHAIN_BREAK_2_END_B_SILENT : Fld := ⟨0x6090, 17, 1, .ro, 0, none, false⟩
def CHAIN_ENUM_CMD_ENUMERATE : Fld := ⟨0x6094, 0, 1, .w1s, 0, none, false⟩
def CHAIN_ENUM_STA_RESULT : Fld := ⟨0x6098, 0, 4, .ro, 0, none, false⟩
def CHAIN_ENUM_STA_FOUND1 : Fld := ⟨0x6098, 8, 6, .ro, 0, none, false⟩
def CHAIN_ENUM_STA_FOUND2 : Fld := ⟨0x6098, 16, 6, .ro, 0, none, false⟩
def CHAIN_ENUM_STA_DURATION : Fld := ⟨0x6098, 24, 8, .ro, 0, none, false⟩
def CHAIN_RETIRE_POSITION : Fld := ⟨0x609C, 0, 6, .rwl, 0, none, false⟩
def CHAIN_RETIRE_GO : Fld := ⟨0x609C, 31, 1, .lw1s, 0, none, false⟩
def CHAIN_SPARE_DETAIL_SPARES : Fld := ⟨0x60A0, 0, 4, .ro, 0, none, false⟩
def CHAIN_SPARE_DETAIL_ENDS : Fld := ⟨0x60A0, 4, 4, .ro, 0, none, false⟩
def CHAIN_CONFIRM_POSITION : Fld := ⟨0x60A4, 0, 6, .wo, 0, none, false⟩
def CHAIN_CONFIRM_SERIAL16 : Fld := ⟨0x60A4, 16, 16, .wo, 0, none, false⟩
def CHAIN_BAND : Fld := ⟨0x60A8, 0, 3, .ro, 0, none, false⟩
def CHAIN_BAND_APERTURE : Fld := ⟨0x60A8, 4, 4, .ro, 0, none, false⟩
def CHAIN_BAND_PRESET : Fld := ⟨0x60A8, 8, 4, .ro, 0, none, false⟩
def CHAIN_SCHED (n : Nat) : Fld := ⟨0x6100 + 4*n, 0, 32, .rw, 0, none, false⟩
def LEDGER_CTL_EN : Fld := ⟨0x7008, 0, 1, .ro, 1, none, false⟩
def LEDGER_CTL_COMPAT288 : Fld := ⟨0x7008, 16, 1, .rwl, 0, none, false⟩
def LEDGER_CTL_LEARN_EN : Fld := ⟨0x7008, 17, 1, .rwl, 1, none, false⟩
def LEDGER_STA_FULL : Fld := ⟨0x700C, 0, 1, .ro, 0, none, false⟩
def LEDGER_STA_EMPTY : Fld := ⟨0x700C, 1, 1, .ro, 0, none, false⟩
def LEDGER_STA_ANCHOR_REQUEST : Fld := ⟨0x700C, 2, 1, .ro, 0, none, false⟩
def LEDGER_STA_SRC_HALL : Fld := ⟨0x700C, 3, 1, .ro, 0, none, false⟩
def LEDGER_STA_NO_CURRENT : Fld := ⟨0x700C, 4, 1, .ro, 0, none, false⟩
def LEDGER_STA_DERATED : Fld := ⟨0x700C, 5, 1, .ro, 0, none, false⟩
def LEDGER_STA_TAPER_RUN : Fld := ⟨0x700C, 6, 1, .ro, 0, none, false⟩
def LEDGER_STA_SOC_UNKNOWN : Fld := ⟨0x700C, 7, 1, .ro, 0, none, false⟩
def LEDGER_STA_Z_VALID : Fld := ⟨0x700C, 8, 1, .ro, 0, none, false⟩
def LEDGER_STA_LEARN_PENDING : Fld := ⟨0x700C, 9, 1, .ro, 0, none, false⟩
def LEDGER_C_NOM : Fld := ⟨0x7040, 0, 32, .rwl, 360000000, some (1000000, 4294967295), false⟩
def LEDGER_ANCHOR_V_FULL : Fld := ⟨0x7044, 0, 16, .rwl, 41500, some (15000, 45000), false⟩
def LEDGER_ANCHOR_V_EMPTY : Fld := ⟨0x7044, 16, 16, .rwl, 30000, some (15000, 45000), false⟩
def LEDGER_ANCHOR_I_I : Fld := ⟨0x7048, 0, 16, .rwl, 50, some (5, 100), false⟩
def LEDGER_RESERVE_HIGH : Fld := ⟨0x704C, 0, 16, .rwl, 300, some (0, 2000), false⟩
def LEDGER_RESERVE_LOW : Fld := ⟨0x704C, 16, 16, .rwl, 300, some (0, 2000), false⟩
def LEDGER_ANCHOR_LIMIT_LIMIT : Fld := ⟨0x7050, 0, 16, .rwl, 200, some (50, 1000), false⟩
def LEDGER_DRIFT_SHUNT_OFFSET : Fld := ⟨0x7054, 0, 16, .rwl, 20, some (1, 1000), false⟩
def LEDGER_DRIFT_SHUNT_GAIN : Fld := ⟨0x7054, 16, 16, .rwl, 500, some (50, 5000), false⟩
def LEDGER_DRIFT_HALL_OFFSET : Fld := ⟨0x7058, 0, 16, .rwl, 2000, some (100, 20000), false⟩
def LEDGER_DRIFT_HALL_GAIN : Fld := ⟨0x7058, 16, 16, .rwl, 10000, some (1000, 50000), false⟩
def LEDGER_DRIFT_BOOT_BOOT : Fld := ⟨0x705C, 0, 16, .rwl, 50, some (0, 1000), false⟩
def LEDGER_DRIFT_BOOT_UNFINAL : Fld := ⟨0x705C, 16, 16, .rwl, 500, some (100, 5000), false⟩
def LEDGER_DRIFT_SHUTTLE_SHUTTLE : Fld := ⟨0x7060, 0, 16, .rwl, 100, some (0, 1000), false⟩
def LEDGER_TAPER_I_TAPER : Fld := ⟨0x7064, 0, 16, .rwl, 5, some (1, 50), false⟩
def LEDGER_TAPER_T_TAPER : Fld := ⟨0x7064, 16, 16, .rwl, 300, some (10, 3600), false⟩
def LEDGER_TAPER_V_V_CV : Fld := ⟨0x7068, 0, 16, .rwl, 41000, some (15000, 45000), false⟩
def LEDGER_TAPER_V_ELAPSED : Fld := ⟨0x7068, 16, 16, .ro, 0, none, false⟩
def LEDGER_RIPPLE_F : Fld := ⟨0x706C, 0, 16, .rwl, 0, none, false⟩
def LEDGER_RIPPLE_MIN : Fld := ⟨0x706C, 16, 16, .rwl, 5, some (1, 100), false⟩
def LEDGER_Z_CFG_MAXAGE : Fld := ⟨0x7070, 0, 16, .rwl, 60, some (10, 3600), false⟩
def LEDGER_Z_CFG_DEFAULT : Fld := ⟨0x7070, 16, 16, .rwl, 1000, some (10, 65535), false⟩
def LEDGER_LIM_V_CHG_V : Fld := ⟨0x7074, 0, 16, .rwl, 42000, some (15000, 45000), false⟩
def LEDGER_LIM_V_DSG_V : Fld := ⟨0x7074, 16, 16, .rwl, 26000, some (15000, 45000), false⟩
def LEDGER_DERATE_FACTOR : Fld := ⟨0x7078, 0, 8, .rwl, 50, some (0, 100), false⟩
def LEDGER_DERATE_OC_MARGIN : Fld := ⟨0x7078, 8, 8, .rwl, 90, some (50, 100), false⟩
def LEDGER_JRN_CFG_PERIOD : Fld := ⟨0x707C, 0, 16, .rwl, 60, some (10, 3600), false⟩
def LEDGER_LIM_CHG_LIMIT : Fld := ⟨0x7090, 0, 32, .ro, 0, none, false⟩
def LEDGER_LIM_DSG_LIMIT : Fld := ⟨0x7094, 0, 32, .ro, 0, none, false⟩
def LEDGER_LIM_CAUSE_CHG_CELL : Fld := ⟨0x7098, 0, 10, .ro, 0, none, false⟩
def LEDGER_LIM_CAUSE_CHG_TERM : Fld := ⟨0x7098, 10, 3, .ro, 0, none, false⟩
def LEDGER_LIM_CAUSE_DSG_CELL : Fld := ⟨0x7098, 16, 10, .ro, 0, none, false⟩
def LEDGER_LIM_CAUSE_DSG_TERM : Fld := ⟨0x7098, 26, 3, .ro, 0, none, false⟩
def LEDGER_SOC_RANGE_MIN : Fld := ⟨0x709C, 0, 16, .ro, 0, none, false⟩
def LEDGER_SOC_RANGE_MAX : Fld := ⟨0x709C, 16, 16, .ro, 0, none, false⟩
def LEDGER_BOUND_MAX_BOUND : Fld := ⟨0x70A0, 0, 16, .ro, 0, none, false⟩
def LEDGER_BOUND_MAX_CELL : Fld := ⟨0x70A0, 16, 10, .ro, 0, none, false⟩
def LEDGER_ANCHOR_STA_OVER : Fld := ⟨0x70A4, 0, 10, .ro, 0, none, false⟩
def LEDGER_ANCHOR_STA_UNKNOWN : Fld := ⟨0x70A4, 16, 10, .ro, 0, none, false⟩
def LEDGER_AVAIL_DSG_Q : Fld := ⟨0x70B0, 0, 32, .ro, 0, none, false⟩
def LEDGER_AVAIL_CHG_Q : Fld := ⟨0x70B4, 0, 32, .ro, 0, none, false⟩
def LEDGER_LEARN_STA_OPEN : Fld := ⟨0x70B8, 0, 10, .ro, 0, none, false⟩
def LEDGER_LEARN_STA_PENDING : Fld := ⟨0x70B8, 10, 10, .ro, 0, none, false⟩
def LEDGER_LEARN_STA_LOST : Fld := ⟨0x70B8, 20, 10, .ro, 0, none, false⟩
def LEDGER_LEARN_CNT_ACCEPTED : Fld := ⟨0x70BC, 0, 16, .ro, 0, none, false⟩
def LEDGER_LEARN_CNT_REJECTED : Fld := ⟨0x70BC, 16, 16, .ro, 0, none, false⟩
def LEDGER_JRN_STA_SEQ : Fld := ⟨0x70C0, 0, 16, .ro, 0, none, false⟩
def LEDGER_JRN_STA_SLOT : Fld := ⟨0x70C0, 16, 1, .ro, 0, none, false⟩
def LEDGER_JRN_STA_BOOT_FINAL : Fld := ⟨0x70C0, 17, 1, .ro, 0, none, false⟩
def LEDGER_JRN_STA_BOTH_INVALID : Fld := ⟨0x70C0, 18, 1, .ro, 0, none, false⟩
def LEDGER_JRN_STA_AGE : Fld := ⟨0x70C0, 24, 8, .ro, 0, none, false⟩
def LEDGER_TFACTOR_CHG : Fld := ⟨0x70C4, 0, 8, .ro, 100, none, false⟩
def LEDGER_TFACTOR_DSG : Fld := ⟨0x70C4, 8, 8, .ro, 100, none, false⟩
def LEDGER_TBL_CHG_EVEN (n : Nat) : Fld := ⟨0x7100 + 4*n, 0, 16, .rwl, tblChgReset (2*n), none, false⟩
def LEDGER_TBL_CHG_ODD (n : Nat) : Fld := ⟨0x7100 + 4*n, 16, 16, .rwl, tblChgReset (2*n+1), none, false⟩
def LEDGER_TBL_DSG_EVEN (n : Nat) : Fld := ⟨0x7180 + 4*n, 0, 16, .rwl, tblDsgReset (2*n), none, false⟩
def LEDGER_TBL_DSG_ODD (n : Nat) : Fld := ⟨0x7180 + 4*n, 16, 16, .rwl, tblDsgReset (2*n+1), none, false⟩
def LEDGER_T_BP_EVEN (n : Nat) : Fld := ⟨0x7200 + 4*n, 0, 16, .rwl, tBpReset (2*n), none, true⟩
def LEDGER_T_BP_ODD (n : Nat) : Fld := ⟨0x7200 + 4*n, 16, 16, .rwl, tBpReset (2*n+1), none, true⟩
def LEDGER_SOC_BP_EVEN (n : Nat) : Fld := ⟨0x7210 + 4*n, 0, 16, .rwl, socBpReset (2*n), none, false⟩
def LEDGER_SOC_BP_ODD (n : Nat) : Fld := ⟨0x7210 + 4*n, 16, 16, .rwl, socBpReset (2*n+1), none, false⟩
def SHUTTLE_CTL_EN : Fld := ⟨0x8008, 0, 1, .rwl, 1, none, false⟩
def SHUTTLE_CTL_MAINT_RUN : Fld := ⟨0x8008, 16, 1, .rwe, 0, none, false⟩
def SHUTTLE_CTL_RUN_TRIPPED : Fld := ⟨0x8008, 17, 1, .rwl, 0, none, false⟩
def SHUTTLE_CTL_DIR_FORCE : Fld := ⟨0x8008, 18, 2, .rwl, 0, some (0, 2), false⟩
def SHUTTLE_STA_ORDERING : Fld := ⟨0x800C, 0, 1, .ro, 0, none, false⟩
def SHUTTLE_STA_DIR : Fld := ⟨0x800C, 1, 2, .ro, 1, none, false⟩
def SHUTTLE_STA_DIR_FORCED : Fld := ⟨0x800C, 3, 1, .ro, 0, none, false⟩
def SHUTTLE_STA_PAUSED : Fld := ⟨0x800C, 4, 1, .ro, 0, none, false⟩
def SHUTTLE_STA_BUS_FULL : Fld := ⟨0x800C, 5, 1, .ro, 0, none, false⟩
def SHUTTLE_STA_SLOTS_FULL : Fld := ⟨0x800C, 6, 1, .ro, 0, none, false⟩
def SHUTTLE_STA_HALTED : Fld := ⟨0x800C, 7, 1, .ro, 0, none, false⟩
def SHUTTLE_QUANTUM : Fld := ⟨0x8040, 0, 16, .rwl, 100, some (10, 2000), false⟩
def SHUTTLE_I_CELL_I : Fld := ⟨0x8044, 0, 8, .rwl, 50, some (5, 50), false⟩
def SHUTTLE_I_CELL_BUS_LIM : Fld := ⟨0x8044, 16, 8, .rwl, 24, some (0, 72), false⟩
def SHUTTLE_DIR_TAU : Fld := ⟨0x8048, 0, 16, .rwl, 600, some (60, 3600), false⟩
def SHUTTLE_DIR_HYST : Fld := ⟨0x8048, 16, 16, .rwl, 20, some (1, 500), false⟩
def SHUTTLE_DEADBAND_DB : Fld := ⟨0x804C, 0, 16, .rwl, 20, some (5, 500), false⟩
def SHUTTLE_DEADBAND_V_GUARD : Fld := ⟨0x804C, 16, 16, .rwl, 50, some (0, 500), false⟩
def SHUTTLE_PLAN_MAX_ORDERS : Fld := ⟨0x8050, 0, 8, .rwl, 36, some (1, 144), false⟩
def SHUTTLE_PLAN_EFF_MIN : Fld := ⟨0x8050, 8, 8, .rwl, 80, some (50, 99), false⟩
def SHUTTLE_PLAN_SPREAD_ALARM : Fld := ⟨0x8050, 16, 16, .rwl, 500, some (50, 2000), false⟩
def SHUTTLE_I_FILT_I : Fld := ⟨0x8054, 0, 32, .ro, 0, none, true⟩
def SHUTTLE_COUNTS_ACTIVE : Fld := ⟨0x8058, 0, 8, .ro, 0, none, false⟩
def SHUTTLE_COUNTS_BUS : Fld := ⟨0x8058, 8, 8, .ro, 0, none, false⟩
def SHUTTLE_COUNTS_ORDERS_LAST : Fld := ⟨0x8058, 16, 8, .ro, 0, none, false⟩
def SHUTTLE_COUNTS_ELIGIBLE_LOW : Fld := ⟨0x8058, 24, 8, .ro, 0, none, false⟩
def SHUTTLE_PAUSE : Fld := ⟨0x805C, 0, 16, .ro, 0, none, false⟩
def SHUTTLE_PAUSE_STEP : Fld := ⟨0x805C, 16, 4, .ro, 0, none, false⟩
def SHUTTLE_SPREAD : Fld := ⟨0x8060, 0, 16, .ro, 0, none, false⟩
def SHUTTLE_TOP_DONOR : Fld := ⟨0x8064, 0, 10, .ro, 1023, none, false⟩
def SHUTTLE_TOP_RECEIVER : Fld := ⟨0x8064, 16, 10, .ro, 1023, none, false⟩
def SHUTTLE_CNT_ORDERS : Fld := ⟨0x8078, 0, 16, .ro, 0, none, false⟩
def SHUTTLE_CNT_NACKS : Fld := ⟨0x8078, 16, 16, .ro, 0, none, false⟩
def SHUTTLE_CNT2_TIMEOUTS : Fld := ⟨0x807C, 0, 16, .ro, 0, none, false⟩
def SHUTTLE_CNT2_STOPS : Fld := ⟨0x807C, 16, 16, .ro, 0, none, false⟩
def SHUTTLE_CMU_BLOCK_LO : Fld := ⟨0x8080, 0, 32, .w1c, 0, none, false⟩
def SHUTTLE_CMU_BLOCK_HI : Fld := ⟨0x8084, 0, 8, .w1c, 0, none, false⟩
def SHUTTLE_PLAN_DIGEST_DIGEST : Fld := ⟨0x8088, 0, 32, .ro, 0, none, false⟩
def SHUTTLE_NEXT_ID_ID : Fld := ⟨0x808C, 0, 16, .ro, 0, none, false⟩
def THERM_STA_CELL : Fld := ⟨0x900C, 0, 2, .ro, 0, none, false⟩
def THERM_STA_BUS : Fld := ⟨0x900C, 2, 2, .ro, 0, none, false⟩
def THERM_STA_MOD : Fld := ⟨0x900C, 4, 2, .ro, 0, none, false⟩
def THERM_STA_LATCH : Fld := ⟨0x900C, 6, 1, .ro, 0, none, false⟩
def THERM_STA_LATCH_GROUPS : Fld := ⟨0x900C, 7, 3, .ro, 0, none, false⟩
def THERM_STA_RELATCHED : Fld := ⟨0x900C, 10, 1, .ro, 0, none, false⟩
def THERM_STA_BAND : Fld := ⟨0x900C, 11, 3, .ro, 0, none, false⟩
def THERM_STA_COOL_LEVEL : Fld := ⟨0x900C, 14, 2, .ro, 0, none, false⟩
def THERM_CELL_THR_WARN : Fld := ⟨0x9040, 0, 16, .rwl, 450, some (-200, 800), true⟩
def THERM_CELL_THR_THROTTLE : Fld := ⟨0x9040, 16, 16, .rwl, 500, some (-200, 800), true⟩
def THERM_BUS_THR_WARN : Fld := ⟨0x904C, 0, 16, .rwl, 800, some (0, 1500), true⟩
def THERM_BUS_THR_THROTTLE : Fld := ⟨0x904C, 16, 16, .rwl, 900, some (0, 1500), true⟩
def THERM_MOD_THR_WARN : Fld := ⟨0x9058, 0, 16, .rwl, 950, some (500, 1250), true⟩
def THERM_MOD_THR_THROTTLE : Fld := ⟨0x9058, 16, 16, .rwl, 1050, some (500, 1250), true⟩
def THERM_CELL_THR2_SHUTDOWN : Fld := ⟨0x9044, 0, 16, .rwl, 600, some (-200, 800), true⟩
def THERM_CELL_THR2_STEP_W : Fld := ⟨0x9044, 16, 16, .rwl, 10, some (5, 100), false⟩
def THERM_BUS_THR2_SHUTDOWN : Fld := ⟨0x9050, 0, 16, .rwl, 1050, some (0, 1500), true⟩
def THERM_BUS_THR2_STEP_W : Fld := ⟨0x9050, 16, 16, .rwl, 15, some (5, 100), false⟩
def THERM_MOD_THR2_SHUTDOWN : Fld := ⟨0x905C, 0, 16, .rwl, 1200, some (500, 1250), true⟩
def THERM_MOD_THR2_STEP_W : Fld := ⟨0x905C, 16, 16, .rwl, 15, some (5, 100), false⟩
def THERM_CELL_HYS_WARN_HYS : Fld := ⟨0x9048, 0, 8, .rwl, 20, some (5, 100), false⟩
def THERM_CELL_HYS_THR_HYS : Fld := ⟨0x9048, 8, 8, .rwl, 20, some (5, 100), false⟩
def THERM_CELL_HYS_SD_HYS : Fld := ⟨0x9048, 16, 8, .rwl, 50, some (10, 250), false⟩
def THERM_BUS_HYS_WARN_HYS : Fld := ⟨0x9054, 0, 8, .rwl, 30, some (5, 100), false⟩
def THERM_BUS_HYS_THR_HYS : Fld := ⟨0x9054, 8, 8, .rwl, 30, some (5, 100), false⟩
def THERM_BUS_HYS_SD_HYS : Fld := ⟨0x9054, 16, 8, .rwl, 100, some (10, 250), false⟩
def THERM_MOD_HYS_WARN_HYS : Fld := ⟨0x9060, 0, 8, .rwl, 50, some (5, 100), false⟩
def THERM_MOD_HYS_THR_HYS : Fld := ⟨0x9060, 8, 8, .rwl, 50, some (5, 100), false⟩
def THERM_MOD_HYS_SD_HYS : Fld := ⟨0x9060, 16, 8, .rwl, 100, some (10, 250), false⟩
def THERM_DERATE_CHG_STEP : Fld := ⟨0x9064, 0, 8, .rwl, 10, some (0, 10), false⟩
def THERM_DERATE_DSG_STEP : Fld := ⟨0x9064, 8, 8, .rwl, 8, some (0, 10), false⟩
def THERM_DERATE_DSG_FLOOR : Fld := ⟨0x9064, 16, 8, .rwl, 20, some (0, 100), false⟩
def THERM_COOL_COOL_ON : Fld := ⟨0x9068, 0, 16, .rwl, 350, some (-200, 800), true⟩
def THERM_COOL_COOL_HYS : Fld := ⟨0x9068, 16, 8, .rwl, 30, some (5, 100), false⟩
def THERM_MAX_CELL_TEMP : Fld := ⟨0x906C, 0, 16, .ro, 0, none, true⟩
def THERM_MAX_CELL_CELL : Fld := ⟨0x906C, 16, 10, .ro, 0, none, false⟩
def THERM_MAX_BUS_TEMP : Fld := ⟨0x9070, 0, 16, .ro, 0, none, true⟩
def THERM_MAX_BUS_SRC : Fld := ⟨0x9070, 16, 2, .ro, 0, none, false⟩
def THERM_MOD_T01_LOW : Fld := ⟨0x9074, 0, 16, .ro, 0, none, true⟩
def THERM_MOD_T01_HIGH : Fld := ⟨0x9074, 16, 16, .ro, 0, none, true⟩
def THERM_MOD_T23_LOW : Fld := ⟨0x9078, 0, 16, .ro, 0, none, true⟩
def THERM_MOD_T23_HIGH : Fld := ⟨0x9078, 16, 16, .ro, 0, none, true⟩
def THERM_MOD_T45_LOW : Fld := ⟨0x907C, 0, 16, .ro, 0, none, true⟩
def THERM_MOD_T45_HIGH : Fld := ⟨0x907C, 16, 16, .ro, 0, none, true⟩
def THERM_PAUSE_CELL (n : Nat) : Fld := ⟨0x9080 + 4*n, 0, 16, .rwl, pauseCellReset n, some (0, 60000), false⟩
def THERM_PAUSE_MOD (n : Nat) : Fld := ⟨0x90A8 + 4*n, 0, 16, .rwl, pauseModReset n, some (0, 50000), false⟩
def THERM_STEPS_CELL : Fld := ⟨0x90D0, 0, 4, .ro, 0, none, false⟩
def THERM_STEPS_BUS : Fld := ⟨0x90D0, 4, 4, .ro, 0, none, false⟩
def THERM_STEPS_MOD : Fld := ⟨0x90D0, 8, 4, .ro, 0, none, false⟩
def THERM_STEPS_MOD_PAUSE : Fld := ⟨0x90D0, 16, 16, .ro, 0, none, false⟩
def THERM_PAUSE_STA_TELEM_SKIPPED : Fld := ⟨0x90D4, 0, 16, .ro, 0, none, false⟩
def THERM_PAUSE_STA_CHAIN_DELAYED : Fld := ⟨0x90D4, 16, 16, .ro, 0, none, false⟩
def THERM_COIL_R20_KP : Fld := ⟨0x90D8, 0, 16, .rwl, 0, none, false⟩
def THERM_COIL_R20_KN : Fld := ⟨0x90D8, 16, 16, .rwl, 0, none, false⟩
def THERM_COIL_R20_KC : Fld := ⟨0x90DC, 0, 16, .rwl, 0, none, false⟩
def THERM_COIL_KP_TEMP : Fld := ⟨0x90E0, 0, 16, .ro, 0x8000, none, true⟩
def THERM_COIL_KP_DUTY : Fld := ⟨0x90E0, 16, 8, .ro, 0, none, false⟩
def THERM_COIL_KN_TEMP : Fld := ⟨0x90E4, 0, 16, .ro, 0x8000, none, true⟩
def THERM_COIL_KN_DUTY : Fld := ⟨0x90E4, 16, 8, .ro, 0, none, false⟩
def THERM_COIL_KC_TEMP : Fld := ⟨0x90E8, 0, 16, .ro, 0x8000, none, true⟩
def THERM_COIL_KC_DUTY : Fld := ⟨0x90E8, 16, 8, .ro, 0, none, false⟩
def THERM_COIL_T_MAX_T_MAX : Fld := ⟨0x90EC, 0, 16, .rwl, 1300, some (600, 1800), false⟩
def SAFE_STA_PCV_CONFIRMED : Fld := ⟨0xA00C, 0, 1, .ro, 0, none, false⟩
def SAFE_STA_PERMIT : Fld := ⟨0xA00C, 1, 1, .ro, 0, none, false⟩
def SAFE_STA_WD_EXPIRED : Fld := ⟨0xA00C, 2, 1, .ro, 0, none, false⟩
def SAFE_STA_NET_A_OK : Fld := ⟨0xA00C, 3, 1, .ro, 0, none, false⟩
def SAFE_STA_NET_B_OK : Fld := ⟨0xA00C, 4, 1, .ro, 0, none, false⟩
def SAFE_STA_SINGLE_NET : Fld := ⟨0xA00C, 5, 1, .ro, 0, none, false⟩
def SAFE_STA_ZERO_REQUEST : Fld := ⟨0xA00C, 6, 1, .ro, 0, none, false⟩
def SAFE_STA_TESTS_SUSPENDED : Fld := ⟨0xA00C, 7, 1, .ro, 0, none, false⟩
def SAFE_SI_FUNC_P (n : Nat) : Fld := ⟨0xA040, 4*n, 4, .rwl, 0, some (0, 6), false⟩
def SAFE_SI_STATE_CH_A : Fld := ⟨0xA044, 0, 6, .ro, 0, none, false⟩
def SAFE_SI_STATE_CH_B : Fld := ⟨0xA044, 8, 6, .ro, 0, none, false⟩
def SAFE_SI_STATE_DEMANDED : Fld := ⟨0xA044, 16, 6, .ro, 0, none, false⟩
def SAFE_SI_STATE_LOCKED : Fld := ⟨0xA044, 24, 6, .ro, 0, none, false⟩
def SAFE_SI_STATE_EVALUATING : Fld := ⟨0xA044, 30, 1, .ro, 0, none, false⟩
def SAFE_DISC_TIME_DISC : Fld := ⟨0xA048, 0, 16, .rwl, 50, some (5, 500), false⟩
def SAFE_TPS_CFG_PERIOD : Fld := ⟨0xA04C, 0, 16, .rwl, 100, some (20, 1000), false⟩
def SAFE_TPS_CFG_WIDTH : Fld := ⟨0xA04C, 16, 8, .rwl, 50, some (20, 100), false⟩
def SAFE_TPS_CFG_RECOVERY : Fld := ⟨0xA04C, 24, 8, .rwl, 70, some (10, 100), false⟩
def SAFE_SRST_STA_A_PRESSED : Fld := ⟨0xA050, 0, 1, .ro, 0, none, false⟩
def SAFE_SRST_STA_B_PRESSED : Fld := ⟨0xA050, 1, 1, .ro, 0, none, false⟩
def SAFE_SRST_STA_BLOCKED : Fld := ⟨0xA050, 2, 1, .ro, 0, none, false⟩
def SAFE_SRST_STA_FAULT : Fld := ⟨0xA050, 3, 1, .ro, 0, none, false⟩
def SAFE_SRST_STA_LOCAL : Fld := ⟨0xA050, 8, 8, .ro, 0, none, false⟩
def SAFE_SRST_STA_REMOTE : Fld := ⟨0xA050, 16, 8, .ro, 0, none, false⟩
def SAFE_SO_FUNC_SO (n : Nat) : Fld := ⟨0xA054, 4*n, 4, .rwl, 0, some (0, 6), false⟩
def SAFE_SO_HOST_ON : Fld := ⟨0xA058, 0, 8, .rw, 0, none, false⟩
def SAFE_SO_TEST_WIDTH : Fld := ⟨0xA05C, 0, 16, .rwl, 300, some (200, 500), false⟩
def SAFE_SO_TEST_PERIOD : Fld := ⟨0xA05C, 16, 16, .rwl, 2000, some (1000, 10000), false⟩
def SAFE_SO_STATE_ON : Fld := ⟨0xA060, 0, 8, .ro, 0, none, false⟩
def SAFE_SO_STATE_READBACK : Fld := ⟨0xA060, 8, 8, .ro, 0, none, false⟩
def SAFE_SO_STATE_FAILED : Fld := ⟨0xA060, 16, 8, .ro, 0, none, false⟩
def SAFE_COIL_TEST_WIDTH : Fld := ⟨0xA064, 0, 8, .rwl, 100, some (50, 200), false⟩
def SAFE_COIL_TEST_PERIOD : Fld := ⟨0xA064, 16, 16, .rwl, 10, some (1, 60), false⟩
def SAFE_COIL_TEST_STA_PASS : Fld := ⟨0xA068, 0, 6, .ro, 0, none, false⟩
def SAFE_COIL_TEST_STA_FAILED : Fld := ⟨0xA068, 8, 6, .ro, 0, none, false⟩
def SAFE_COIL_TEST_STA_TESTS : Fld := ⟨0xA068, 16, 16, .ro, 0, none, false⟩
def SAFE_PSF_CID_STA : Fld := ⟨0xA070, 0, 32, .rwl, 0, none, false⟩
def SAFE_PSF_CID_CMD : Fld := ⟨0xA074, 0, 32, .rwl, 0, none, false⟩
def SAFE_PSF_CFG_PERIOD : Fld := ⟨0xA078, 0, 8, .rwl, 1, some (1, 100), false⟩
def SAFE_PSF_CFG_REMOTE_RESET : Fld := ⟨0xA078, 8, 1, .rwl, 0, none, false⟩
def SAFE_PSF_CFG_WD_REACT : Fld := ⟨0xA078, 9, 2, .rwl, 0, some (0, 2), false⟩
def SAFE_PSF_CFG_VID : Fld := ⟨0xA078, 16, 12, .rwl, 0, some (0, 4094), false⟩
def SAFE_PSF_CFG_PCP : Fld := ⟨0xA078, 28, 3, .rwl, 6, none, false⟩
def SAFE_PSF_TIME_T_SF : Fld := ⟨0xA07C, 0, 16, .rwl, 20, some (5, 1000), false⟩
def SAFE_PSF_TIME_SKEW : Fld := ⟨0xA07C, 16, 16, .rwl, 500, some (100, 5000), false⟩
def SAFE_PSF_SINGLE_T_SINGLE : Fld := ⟨0xA080, 0, 8, .rwl, 24, some (1, 168), false⟩
def SAFE_PSF_SINGLE_ELAPSED : Fld := ⟨0xA080, 16, 16, .ro, 0, none, false⟩
def SAFE_PSF_OFFSET_OFFSET : Fld := ⟨0xA084, 0, 16, .rwl, 500, some (100, 950), false⟩
def SAFE_PSF_DST_LO : Fld := ⟨0xA088, 0, 32, .rwl, 1347634947, none, false⟩
def SAFE_PSF_DST_HI : Fld := ⟨0xA08C, 0, 16, .rwl, 18003, none, false⟩
def SAFE_PSF_RX_FLAGS : Fld := ⟨0xA090, 0, 16, .ro, 0, none, false⟩
def SAFE_PSF_CNT_MISSING_A : Fld := ⟨0xA094, 0, 8, .ro, 0, none, false⟩
def SAFE_PSF_CNT_MISSING_B : Fld := ⟨0xA094, 8, 8, .ro, 0, none, false⟩
def SAFE_PSF_CNT_COMPARE : Fld := ⟨0xA094, 16, 8, .ro, 0, none, false⟩
def SAFE_PSF_CNT_DISCARDED : Fld := ⟨0xA094, 24, 8, .ro, 0, none, false⟩
def SAFE_PSF_SEQ_TX : Fld := ⟨0xA098, 0, 32, .ro, 0, none, false⟩
def SAFE_PSF_SEQ_RX : Fld := ⟨0xA09C, 0, 32, .ro, 0, none, false⟩
def SAFE_PSF_SKEW_LAST : Fld := ⟨0xA0A0, 0, 16, .ro, 0, none, false⟩
def SAFE_PSF_SKEW_MAX : Fld := ⟨0xA0A0, 16, 16, .ro, 0, none, false⟩
def SAFE_PCV_CONFIRM : Fld := ⟨0xA0B4, 0, 32, .wo, 0, none, false⟩
def SAFE_PCV : Fld := ⟨0xA0B0, 0, 32, .ro, 0, none, false⟩
def SAFE_PCV_CONF : Fld := ⟨0xA0B8, 0, 32, .ro, 0, none, false⟩
def FAULT_STA_ERR_ASSERTED : Fld := ⟨0xB00C, 0, 1, .ro, 1, none, false⟩
def FAULT_STA_RELEASE_ARMED : Fld := ⟨0xB00C, 1, 1, .ro, 0, none, false⟩
def FAULT_STA_SEQ_RUNNING : Fld := ⟨0xB00C, 2, 1, .ro, 0, none, false⟩
def FAULT_STA_HIGHEST : Fld := ⟨0xB00C, 3, 3, .ro, 0, none, false⟩
def FAULT_STA_FF_VALID : Fld := ⟨0xB00C, 6, 1, .ro, 0, none, false⟩
def FAULT_STA_TCTRL_RUNNING : Fld := ⟨0xB00C, 7, 1, .ro, 0, none, false⟩
def FAULT_ERR_RELEASE_RELEASE : Fld := ⟨0xB040, 0, 1, .w1s, 0, none, false⟩
def FAULT_T_CTRL : Fld := ⟨0xB044, 0, 16, .rwl, 2000, some (200, 10000), false⟩
def FAULT_EVT_HOLD : Fld := ⟨0xB048, 0, 16, .rwl, 10, some (1, 3600), false⟩
def FAULT_FF_CFG_MIN_LEVEL : Fld := ⟨0xB04C, 0, 3, .rwl, 3, some (1, 5), false⟩
def FAULT_FF_ACK_SEQ : Fld := ⟨0xB050, 0, 32, .wo, 0, none, false⟩
def FAULT_RR_SRC_SOURCE : Fld := ⟨0xB080, 0, 8, .ro, 0, none, false⟩
def FAULT_RR_SRC_LEVEL : Fld := ⟨0xB080, 8, 3, .ro, 0, none, false⟩
def FAULT_RR_SRC_RUNNING : Fld := ⟨0xB080, 11, 1, .ro, 0, none, false⟩
def FAULT_RR_SRC_MERGE_COUNT : Fld := ⟨0xB080, 16, 16, .ro, 0, none, false⟩
def FAULT_RR_SEQ_SEQ : Fld := ⟨0xB084, 0, 32, .ro, 0, none, false⟩
def FAULT_HOST_RAISE_SOURCE : Fld := ⟨0xB0E0, 0, 8, .wo, 0, none, false⟩
def FAULT_HOST_RAISE_CODE : Fld := ⟨0xB0E0, 16, 16, .wo, 0, none, false⟩
def FAULT_HOST_DATA : Fld := ⟨0xB0E4, 0, 32, .wo, 0, none, false⟩
def FAULT_SPARE_MAP_PRODUCER (k : Nat) : Fld := ⟨0xB100 + 4*k, 0, 2, .rwl, 0, some (0, 2), false⟩
def FAULT_SPARE_MAP_ENTRY (k : Nat) : Fld := ⟨0xB100 + 4*k, 8, 5, .rwl, 0, none, false⟩
def FAULT_PUSH_CFG_EN : Fld := ⟨0xB140, 0, 1, .rwl, 0, none, false⟩
def FAULT_PUSH_CFG_SESSION : Fld := ⟨0xB140, 1, 2, .rwl, 0, none, false⟩
def FAULT_PUSH_CFG_MIN_SEV : Fld := ⟨0xB140, 4, 2, .rwl, 2, none, false⟩
def FAULT_PUSH_CFG_PCP : Fld := ⟨0xB140, 8, 3, .rwl, 5, none, false⟩
def FAULT_PUSH_DST_LO : Fld := ⟨0xB144, 0, 32, .rwl, 0, none, false⟩
def FAULT_PUSH_DST_HI : Fld := ⟨0xB148, 0, 16, .rwl, 0, none, false⟩
def FAULT_PUSH_CNT_FRAMES : Fld := ⟨0xB14C, 0, 16, .ro, 0, none, false⟩
def FAULT_PUSH_CNT_SKIPPED : Fld := ⟨0xB14C, 16, 16, .ro, 0, none, false⟩
def FAULT_REACT_MINOR (n : Nat) : Fld := ⟨0xB800 + 8*n, 0, 3, .rwl, (srcRow n).minor, some (0, 5), false⟩
def FAULT_REACT_SEVERE (n : Nat) : Fld := ⟨0xB800 + 8*n, 4, 3, .rwl, (srcRow n).severe, some (0, 5), false⟩
def FAULT_REACT_N (n : Nat) : Fld := ⟨0xB800 + 8*n, 8, 8, .rwl, (srcRow n).n, some (1, 255), false⟩
def FAULT_REACT_KIND (n : Nat) : Fld := ⟨0xB800 + 8*n, 16, 2, .ro, (srcRow n).kind.code, none, false⟩
def FAULT_REACT_FLOOR (n : Nat) : Fld := ⟨0xB800 + 8*n, 18, 3, .ro, (srcRow n).floor, none, false⟩
def FAULT_REACT_FIXED (n : Nat) : Fld := ⟨0xB800 + 8*n, 21, 1, .ro, (srcRow n).fixedBit, none, false⟩
def FAULT_REACT_W (n : Nat) : Fld := ⟨0xB800 + 8*n + 4, 0, 16, .rwl, (srcRow n).w, some (0, 1000), false⟩
def FAULT_REACT_UNIT (n : Nat) : Fld := ⟨0xB800 + 8*n + 4, 16, 3, .rwl, (srcRow n).unit, some (0, 5), false⟩
def LOG_STA_FULL : Fld := ⟨0xC00C, 0, 1, .ro, 0, none, false⟩
def LOG_STA_CACHE_PENDING : Fld := ⟨0xC00C, 1, 1, .ro, 0, none, false⟩
def LOG_STA_STORING : Fld := ⟨0xC00C, 2, 1, .ro, 0, none, false⟩
def LOG_REPEAT_WIN_WIN : Fld := ⟨0xC054, 0, 12, .rwl, 10, some (0, 3600), false⟩
def LOG_ANCHOR_ABS_LO : Fld := ⟨0xC060, 0, 32, .rw, 0, none, false⟩
def LOG_ANCHOR_ABS_HI : Fld := ⟨0xC064, 0, 32, .rw, 0, none, false⟩
def LOG_ANCHOR_TB0 : Fld := ⟨0xC068, 0, 32, .wo, 0, none, false⟩
def LOG_CAP_VALID : Fld := ⟨0xC070, 0, 12, .ro, 0, none, false⟩
def LOG_CAP_PROTECT : Fld := ⟨0xC074, 0, 12, .rwe, 0, none, false⟩
def LOG_CAP_LAST_SLOT : Fld := ⟨0xC07C, 0, 4, .ro, 0, none, false⟩
def LOG_CAP_LAST_NUMBER : Fld := ⟨0xC07C, 8, 24, .ro, 0, none, false⟩
def TIME_STA_TB0_VALID : Fld := ⟨0x300C, 0, 1, .ro, 1, none, false⟩
def TIME_STA_TB1_VALID : Fld := ⟨0x300C, 1, 1, .ro, 1, none, false⟩
def TIME_STA_TB2_VALID : Fld := ⟨0x300C, 2, 1, .ro, 1, none, false⟩
def TIME_STA_TB0_SET : Fld := ⟨0x300C, 3, 1, .ro, 0, none, false⟩
def TIME_STA_TP0_RUNNING : Fld := ⟨0x300C, 4, 1, .ro, 0, none, false⟩
def TIME_STA_TP1_RUNNING : Fld := ⟨0x300C, 5, 1, .ro, 0, none, false⟩
def TIME_TB0_ADDEND : Fld := ⟨0x3060, 0, 32, .rw, 83886080, some (83844137, 83928023), false⟩
def TIME_TB1_ADDEND : Fld := ⟨0x3064, 0, 32, .rw, 83886080, some (83844137, 83928023), false⟩
def TIME_TB0_STEP_STEP : Fld := ⟨0x3068, 0, 32, .wo, 0, none, true⟩
def TIME_TRIM_CTL_TB0_DIS : Fld := ⟨0x306C, 0, 1, .rw, 0, none, false⟩
def TIME_TRIM_CTL_TB1_DIS : Fld := ⟨0x306C, 1, 1, .rw, 0, none, false⟩
def TIME_TB_TRIM (n : Nat) : Fld := ⟨0x3070 + 4*n, 0, 32, .ro, 0, none, true⟩
def TIME_STEP_CNT_STEPS : Fld := ⟨0x3088, 0, 16, .ro, 0, none, false⟩
def TIME_TIN_CFG_EN : Fld := ⟨0x3090, 0, 1, .rw, 0, none, false⟩
def TIME_TIN_CFG_EDGE : Fld := ⟨0x3090, 1, 1, .rw, 0, none, false⟩
def TIME_TIN_STA_COUNT : Fld := ⟨0x3094, 0, 3, .ro, 0, none, false⟩
def TIME_TIN_STA_OVERFLOW : Fld := ⟨0x3094, 3, 1, .w1c, 0, none, false⟩
def TIME_TIN_POP_POP : Fld := ⟨0x30A8, 0, 1, .w1s, 0, none, false⟩
def TIME_MU_OWN (n : Nat) : Fld := ⟨0x30C0, 2*n, 2, .rwl, (if n < 4 then 0 else 1), none, false⟩
def TIME_TP_CTL_GO (n : Nat) : Fld := ⟨0x30D0 + 16*n, 0, 1, .lw1s, 0, none, false⟩
def TIME_TP_CTL_STOP (n : Nat) : Fld := ⟨0x30D0 + 16*n, 1, 1, .lw1s, 0, none, false⟩
def TIME_TP_CTL_BASE (n : Nat) : Fld := ⟨0x30D0 + 16*n, 2, 2, .rwl, 0, some (0, 2), false⟩
def TIME_TP_CTL_PERIODIC (n : Nat) : Fld := ⟨0x30D0 + 16*n, 4, 1, .rwl, 0, none, false⟩
def TIME_TP_START (n : Nat) : Fld := ⟨0x30D4 + 16*n, 0, 32, .rwl, 0, none, false⟩
def TIME_TP_WIDTH (n : Nat) : Fld := ⟨0x30D8 + 16*n, 0, 32, .rwl, 10, some (10, 1000000000), false⟩
def TIME_TP_PERIOD (n : Nat) : Fld := ⟨0x30DC + 16*n, 0, 32, .rwl, 0, some (0, 4000000000), false⟩
def TIME_LQ_PUSH_T (p : Nat) : Fld := ⟨0x3100 + 0x40*p, 0, 32, .rw, 0, none, false⟩
def TIME_LQ_CANCEL (p : Nat) : Fld := ⟨0x3108 + 0x40*p, 0, 16, .wo, 0, none, false⟩
def TIME_LQ_STA_PENDING (p : Nat) : Fld := ⟨0x310C + 0x40*p, 0, 6, .ro, 0, none, false⟩
def TIME_LQ_STA_TXTS_LOST (p : Nat) : Fld := ⟨0x310C + 0x40*p, 6, 1, .w1c, 0, none, false⟩
def TIME_LQ_STA_FREE_BLOCKS (p : Nat) : Fld := ⟨0x310C + 0x40*p, 8, 10, .ro, 1020, none, false⟩
def TIME_LQ_CNT_LOW (p : Nat) : Fld := ⟨0x3110 + 0x40*p, 0, 16, .ro, 0, none, false⟩
def TIME_LQ_CNT_HIGH (p : Nat) : Fld := ⟨0x3110 + 0x40*p, 16, 16, .ro, 0, none, false⟩
def TIME_LQ_MISS_LOW (p : Nat) : Fld := ⟨0x3114 + 0x40*p, 0, 16, .ro, 0, none, false⟩
def TIME_LQ_MISS_HIGH (p : Nat) : Fld := ⟨0x3114 + 0x40*p, 16, 16, .ro, 0, none, false⟩
def TIME_LQ_SLIP_MAX (p : Nat) : Fld := ⟨0x3118 + 0x40*p, 0, 16, .ro, 0, none, false⟩
def TIME_LQ_CFG_SLIP : Fld := ⟨0x3180, 0, 16, .rwl, 20, some (0, 500), false⟩
def PORT_CFG_ADV_2G5 (p : Nat) : Fld := ⟨0xD040 + 0x40*p, 0, 1, .rwl, 1, none, false⟩
def PORT_CFG_ADV_1G (p : Nat) : Fld := ⟨0xD040 + 0x40*p, 1, 1, .rwl, 1, none, false⟩
def PORT_CFG_PAUSE_TX (p : Nat) : Fld := ⟨0xD040 + 0x40*p, 2, 1, .rwl, 1, none, false⟩
def PORT_CFG_RESTART (p : Nat) : Fld := ⟨0xD040 + 0x40*p, 3, 1, .w1s, 0, none, false⟩
def PORT_LINK_UP (p : Nat) : Fld := ⟨0xD044 + 0x40*p, 0, 1, .ro, 0, none, false⟩
def PORT_LINK_SPEED (p : Nat) : Fld := ⟨0xD044 + 0x40*p, 1, 2, .ro, 0, none, false⟩
def PORT_LINK_MDIX (p : Nat) : Fld := ⟨0xD044 + 0x40*p, 3, 1, .ro, 0, none, false⟩
def PORT_LINK_PARTNER_PAUSE (p : Nat) : Fld := ⟨0xD044 + 0x40*p, 4, 1, .ro, 0, none, false⟩
def PORT_LINK_DOWN_CNT (p : Nat) : Fld := ⟨0xD044 + 0x40*p, 8, 8, .ro, 0, none, false⟩
def PORT_LINK_UP_TIME (p : Nat) : Fld := ⟨0xD044 + 0x40*p, 16, 16, .ro, 0, none, false⟩
def PORT_PHY_SNR_MARGIN (p : Nat) : Fld := ⟨0xD048 + 0x40*p, 0, 8, .ro, 0, none, false⟩
def PORT_PHY_CABLE_M (p : Nat) : Fld := ⟨0xD048 + 0x40*p, 8, 8, .ro, 0, none, false⟩
def PORT_PHY_BAD_BLOCKS (p : Nat) : Fld := ⟨0xD048 + 0x40*p, 16, 16, .ro, 0, none, false⟩
def PORT_RX_CLASS_LOW (p : Nat) : Fld := ⟨0xD04C + 0x40*p, 0, 16, .ro, 0, none, false⟩
def PORT_RX_CLASS_HIGH (p : Nat) : Fld := ⟨0xD04C + 0x40*p, 16, 16, .ro, 0, none, false⟩
def PORT_RX_OTHER_LOW (p : Nat) : Fld := ⟨0xD050 + 0x40*p, 0, 16, .ro, 0, none, false⟩
def PORT_RX_OTHER_HIGH (p : Nat) : Fld := ⟨0xD050 + 0x40*p, 16, 16, .ro, 0, none, false⟩
def PORT_RX_ERR_LOW (p : Nat) : Fld := ⟨0xD054 + 0x40*p, 0, 16, .ro, 0, none, false⟩
def PORT_RX_ERR_HIGH (p : Nat) : Fld := ⟨0xD054 + 0x40*p, 16, 16, .ro, 0, none, false⟩
def PORT_TX_FRAMES (p : Nat) : Fld := ⟨0xD058 + 0x40*p, 0, 32, .ro, 0, none, false⟩
def PORT_PAUSE_RX (p : Nat) : Fld := ⟨0xD05C + 0x40*p, 0, 16, .ro, 0, none, false⟩
def PORT_PAUSE_TX (p : Nat) : Fld := ⟨0xD05C + 0x40*p, 16, 16, .ro, 0, none, false⟩
def PORT_BUF_FILL (p : Nat) : Fld := ⟨0xD060 + 0x40*p, 0, 7, .ro, 0, none, false⟩
def PORT_BUF_PEAK (p : Nat) : Fld := ⟨0xD060 + 0x40*p, 8, 7, .ro, 0, none, false⟩
def PORT_DESC_SPARE_IN_USE (p : Nat) : Fld := ⟨0xD064 + 0x40*p, 0, 4, .ro, 0, none, false⟩
def PORT_DESC_CAPACITY (p : Nat) : Fld := ⟨0xD064 + 0x40*p, 8, 8, .ro, 0, none, false⟩
def PORT_DESC_RETIRED (p : Nat) : Fld := ⟨0xD064 + 0x40*p, 16, 8, .ro, 0, none, false⟩
def TWIN_STA_TL_PATH_OK : Fld := ⟨0xE00C, 0, 1, .ro, 0, none, false⟩
def TWIN_STA_FF_PATH_OK : Fld := ⟨0xE00C, 1, 1, .ro, 0, none, false⟩
def TWIN_STA_PARTNER_SEEN : Fld := ⟨0xE00C, 2, 1, .ro, 0, none, false⟩
def TWIN_STA_ORPHAN : Fld := ⟨0xE00C, 3, 1, .ro, 0, none, false⟩
def TWIN_STA_HANDOVER_RUNNING : Fld := ⟨0xE00C, 4, 1, .ro, 0, none, false⟩
def TWIN_STA_WARM_EXPECTED : Fld := ⟨0xE00C, 5, 1, .ro, 0, none, false⟩
def TWIN_STA_TAKEOVER_HOLD : Fld := ⟨0xE00C, 6, 1, .ro, 0, none, false⟩
def TWIN_CMD : Fld := ⟨0xE040, 0, 2, .wo, 0, none, false⟩
def TWIN_CMD_RESULT : Fld := ⟨0xE040, 8, 2, .ro, 0, none, false⟩
def TWIN_HEALTH_BITS : Fld := ⟨0xE044, 0, 7, .ro, 0, none, false⟩
def TWIN_HEALTH_HEALTHY : Fld := ⟨0xE044, 7, 1, .ro, 0, none, false⟩
def TWIN_PARTNER_BITS : Fld := ⟨0xE048, 0, 7, .ro, 0, none, false⟩
def TWIN_PARTNER_HEALTHY : Fld := ⟨0xE048, 7, 1, .ro, 0, none, false⟩
def TWIN_PARTNER_ROLE : Fld := ⟨0xE048, 8, 2, .ro, 0, none, false⟩
def TWIN_PARTNER_HOLDUP : Fld := ⟨0xE048, 10, 1, .ro, 0, none, false⟩
def TWIN_PARTNER_EPOCH : Fld := ⟨0xE048, 16, 16, .ro, 0, none, false⟩
def TWIN_FF_STA_LAST : Fld := ⟨0xE04C, 0, 8, .ro, 0, none, false⟩
def TWIN_FF_STA_BAD : Fld := ⟨0xE04C, 8, 8, .ro, 0, none, false⟩
def TWIN_FF_STA_LOSSES : Fld := ⟨0xE04C, 16, 16, .ro, 0, none, false⟩
def TWIN_TB1_OFS_OFS : Fld := ⟨0xE050, 0, 32, .ro, 0, none, true⟩
def TWIN_ALIGN_RESIDUAL : Fld := ⟨0xE054, 0, 16, .ro, 0, none, true⟩
def TWIN_ALIGN_DELAY : Fld := ⟨0xE054, 16, 16, .ro, 0, none, false⟩
def TWIN_SHADOW_LAST_MISMATCH : Fld := ⟨0xE058, 0, 5, .ro, 0, none, false⟩
def TWIN_SHADOW_MATCH_RUN : Fld := ⟨0xE058, 16, 16, .ro, 0, none, false⟩
def TWIN_SHADOW_CNT_MISMATCH : Fld := ⟨0xE05C, 0, 16, .ro, 0, none, false⟩
def TWIN_SHADOW_CNT_NOT_COMPARED : Fld := ⟨0xE05C, 16, 16, .ro, 0, none, false⟩
def TWIN_LANE_STA_L0 : Fld := ⟨0xE060, 0, 2, .ro, 0, none, false⟩
def TWIN_LANE_STA_L1 : Fld := ⟨0xE060, 2, 2, .ro, 0, none, false⟩
def TWIN_LANE_STA_REPLAY_MAX : Fld := ⟨0xE060, 8, 8, .ro, 0, none, false⟩
def TWIN_LANE_STA_VC_BLOCKED : Fld := ⟨0xE060, 16, 5, .ro, 0, none, false⟩
def TWIN_LANE_CNT_CRC_L0 : Fld := ⟨0xE064, 0, 8, .ro, 0, none, false⟩
def TWIN_LANE_CNT_CRC_L1 : Fld := ⟨0xE064, 8, 8, .ro, 0, none, false⟩
def TWIN_LANE_CNT_REPLAY_L0 : Fld := ⟨0xE064, 16, 8, .ro, 0, none, false⟩
def TWIN_LANE_CNT_REPLAY_L1 : Fld := ⟨0xE064, 24, 8, .ro, 0, none, false⟩
def TWIN_TAKEOVER_COUNT : Fld := ⟨0xE068, 0, 16, .ro, 0, none, false⟩
def TWIN_TAKEOVER_CAUSE : Fld := ⟨0xE068, 16, 3, .ro, 0, none, false⟩
def TWIN_TAKEOVER_T_NS : Fld := ⟨0xE06C, 0, 32, .ro, 0, none, false⟩
def TWIN_PARTNER_TB0_ADDEND : Fld := ⟨0xE070, 0, 32, .rw, 83886080, some (83844137, 83928023), false⟩
def TWIN_PARTNER_TB0_STEP : Fld := ⟨0xE074, 0, 32, .wo, 0, none, false⟩
def RACK_CTL_EN : Fld := ⟨0xF008, 0, 1, .rwl, 1, none, false⟩
def RACK_STA_IDLE : Fld := ⟨0xF00C, 0, 1, .ro, 0, none, false⟩
def RACK_STA_BUSY : Fld := ⟨0xF00C, 1, 1, .ro, 0, none, false⟩
def RACK_STA_RECOVERING : Fld := ⟨0xF00C, 2, 1, .ro, 0, none, false⟩
def RACK_STA_RB_STUCK : Fld := ⟨0xF00C, 3, 1, .ro, 0, none, false⟩
def RACK_STA_FAULTED : Fld := ⟨0xF00C, 4, 1, .ro, 0, none, false⟩
def RACK_STA_ALERT_LOW : Fld := ⟨0xF00C, 5, 1, .ro, 0, none, false⟩
def RACK_STA_ALERT_PAUSED : Fld := ⟨0xF00C, 6, 1, .ro, 0, none, false⟩
def RACK_CFG_SPEED : Fld := ⟨0xF040, 0, 2, .rwl, 0, some (0, 2), false⟩
def RACK_CFG_ALERT_EN : Fld := ⟨0xF040, 2, 1, .rwl, 1, none, false⟩
def RACK_CFG_ARA_PEC : Fld := ⟨0xF040, 3, 1, .rwl, 0, none, false⟩
def RACK_ARB_CFG_RETRIES : Fld := ⟨0xF044, 0, 3, .rwl, 3, some (0, 7), false⟩
def RACK_ARB_CFG_FAIL_N : Fld := ⟨0xF044, 8, 8, .rwl, 3, some (1, 100), false⟩
def RACK_CNT_LOW : Fld := ⟨0xF048, 0, 16, .ro, 0, none, false⟩
def RACK_CNT_HIGH : Fld := ⟨0xF048, 16, 16, .ro, 0, none, false⟩
def RACK_ARB_CNT_LOW : Fld := ⟨0xF04C, 0, 16, .ro, 0, none, false⟩
def RACK_ARB_CNT_HIGH : Fld := ⟨0xF04C, 16, 16, .ro, 0, none, false⟩
def RACK_RECOVERY_ATTEMPTS : Fld := ⟨0xF050, 0, 8, .ro, 0, none, false⟩
def RACK_RECOVERY_FAULTS : Fld := ⟨0xF050, 8, 8, .ro, 0, none, false⟩
def RACK_ALERT_LAST_ADDR : Fld := ⟨0xF054, 0, 7, .ro, 0, none, false⟩
def RACK_ALERT_LAST_COUNT : Fld := ⟨0xF054, 8, 16, .ro, 0, none, false⟩
def RACK_ALARM : Fld := ⟨0xF058, 0, 32, .ro, 0, none, false⟩
def RACK_FAILED : Fld := ⟨0xF05C, 0, 32, .ro, 0, none, false⟩
def RACK_VALID : Fld := ⟨0xF060, 0, 32, .ro, 0, none, false⟩
def RACK_ENTRY_ADDR (n : Nat) : Fld := ⟨0xF100 + 32*n, 0, 7, .rwl, 0, some (0x08, 0x77), false⟩
def RACK_ENTRY_EN (n : Nat) : Fld := ⟨0xF100 + 32*n, 7, 1, .rwl, 0, none, false⟩
def RACK_ENTRY_CMD (n : Nat) : Fld := ⟨0xF100 + 32*n, 8, 8, .rwl, 0, none, false⟩
def RACK_ENTRY_TYPE (n : Nat) : Fld := ⟨0xF100 + 32*n, 16, 2, .rwl, 0, none, false⟩
def RACK_ENTRY_WRITE (n : Nat) : Fld := ⟨0xF100 + 32*n, 18, 1, .rwl, 0, none, false⟩
def RACK_ENTRY_PEC (n : Nat) : Fld := ⟨0xF100 + 32*n, 19, 1, .rwl, 0, none, false⟩
def RACK_ENTRY_ALERT (n : Nat) : Fld := ⟨0xF100 + 32*n, 20, 1, .rwl, 0, none, false⟩
def RACK_ENTRY_SRC (n : Nat) : Fld := ⟨0xF100 + 32*n, 21, 2, .rwl, 0, some (0, 2), false⟩
def RACK_ENTRY_LEN (n : Nat) : Fld := ⟨0xF100 + 32*n, 24, 6, .rwl, 1, some (1, 32), false⟩
def RACK_ENTRY_PERIOD (n : Nat) : Fld := ⟨0xF100 + 32*n + 4, 0, 16, .rwl, 100, some (1, 6000), false⟩
def RACK_ENTRY_RETRY_TOTAL (n : Nat) : Fld := ⟨0xF100 + 32*n + 4, 16, 16, .ro, 0, none, false⟩
def RACK_ENTRY_OP (n : Nat) : Fld := ⟨0xF100 + 32*n + 8, 0, 3, .rwl, 0, none, false⟩
def RACK_ENTRY_SIGNED (n : Nat) : Fld := ⟨0xF100 + 32*n + 8, 3, 1, .rwl, 0, none, false⟩
def RACK_ENTRY_OFFSET (n : Nat) : Fld := ⟨0xF100 + 32*n + 8, 4, 5, .rwl, 0, none, false⟩
def RACK_ENTRY_WIDE (n : Nat) : Fld := ⟨0xF100 + 32*n + 8, 9, 1, .rwl, 0, none, false⟩
def RACK_ENTRY_PERSIST (n : Nat) : Fld := ⟨0xF100 + 32*n + 8, 12, 4, .rwl, 1, some (1, 15), false⟩
def RACK_ENTRY_LOW (n : Nat) : Fld := ⟨0xF100 + 32*n + 12, 0, 16, .rwl, 0, none, false⟩
def RACK_ENTRY_HIGH (n : Nat) : Fld := ⟨0xF100 + 32*n + 12, 16, 16, .rwl, 0, none, false⟩
def RACK_ENTRY_WDATA (n : Nat) : Fld := ⟨0xF100 + 32*n + 16, 0, 16, .rwl, 0, none, false⟩
def RACK_ENTRY_MASK (n : Nat) : Fld := ⟨0xF100 + 32*n + 16, 16, 16, .rwl, 65535, none, false⟩
def RACK_ENTRY_RESULT (n : Nat) : Fld := ⟨0xF100 + 32*n + 20, 0, 4, .ro, 0, none, false⟩
def RACK_ENTRY_FAILS (n : Nat) : Fld := ⟨0xF100 + 32*n + 20, 8, 8, .ro, 0, none, false⟩
def RACK_ENTRY_COUNT (n : Nat) : Fld := ⟨0xF100 + 32*n + 20, 16, 6, .ro, 0, none, false⟩
def RACK_ENTRY_LAST_T (n : Nat) : Fld := ⟨0xF100 + 32*n + 24, 0, 32, .ro, 0, none, false⟩
def KEEP_STA_RUN_BANK : Fld := ⟨0x1000C, 0, 1, .ro, 0, none, false⟩
def KEEP_STA_FALLBACK : Fld := ⟨0x1000C, 1, 1, .ro, 0, none, false⟩
def KEEP_STA_RECOVERY : Fld := ⟨0x1000C, 2, 1, .ro, 0, none, false⟩
def KEEP_STA_STREAMING : Fld := ⟨0x1000C, 3, 1, .ro, 0, none, false⟩
def KEEP_STA_ACTIVATING : Fld := ⟨0x1000C, 4, 1, .ro, 0, none, false⟩
def KEEP_STA_COLD_PENDING : Fld := ⟨0x1000C, 5, 1, .ro, 0, none, false⟩
def KEEP_STA_IP_STATE : Fld := ⟨0x1000C, 6, 2, .ro, 0, none, false⟩
def KEEP_STA_IP_EN : Fld := ⟨0x1000C, 8, 1, .ro, 0, none, false⟩
def KEEP_CMD : Fld := ⟨0x10040, 0, 4, .wo, 0, none, false⟩
def KEEP_CMD_SAME : Fld := ⟨0x10040, 16, 1, .wo, 0, none, false⟩
def KEEP_CMD_HANDOVER : Fld := ⟨0x10040, 17, 1, .wo, 0, none, false⟩
def KEEP_CMD_COLD : Fld := ⟨0x10040, 18, 1, .wo, 0, none, false⟩
def KEEP_CMD_STA_LAST : Fld := ⟨0x10044, 0, 4, .ro, 0, none, false⟩
def KEEP_CMD_STA_RESULT : Fld := ⟨0x10044, 4, 4, .ro, 0, none, false⟩
def KEEP_CMD_STA_REASON : Fld := ⟨0x10044, 8, 8, .ro, 0, none, false⟩
def KEEP_BANK_STATE (n : Nat) : Fld := ⟨0x10048 + 4*n, 0, 3, .ro, 0, none, false⟩
def KEEP_BANK_STEP (n : Nat) : Fld := ⟨0x10048 + 4*n, 3, 4, .ro, 0, none, false⟩
def KEEP_BANK_VERSION (n : Nat) : Fld := ⟨0x10048 + 4*n, 16, 16, .ro, 0, none, false⟩
def KEEP_RUN_VERSION : Fld := ⟨0x10050, 0, 32, .ro, 0, none, false⟩
def KEEP_MIN_VERSION : Fld := ⟨0x10054, 0, 32, .ro, 0, none, false⟩
def KEEP_STREAM_POS : Fld := ⟨0x10058, 0, 32, .ro, 0, none, false⟩
def KEEP_STREAM_OUT : Fld := ⟨0x1005C, 0, 32, .ro, 0, none, false⟩
def KEEP_BOOT_INFO_RESTARTS : Fld := ⟨0x10060, 0, 4, .ro, 0, none, false⟩
def KEEP_BOOT_INFO_FALLBACKS : Fld := ⟨0x10060, 8, 8, .ro, 0, none, false⟩
def KEEP_BOOT_INFO_LAST_GAP : Fld := ⟨0x10060, 16, 16, .ro, 0, none, false⟩
def KEEP_PARAM_STA_SLOT : Fld := ⟨0x10064, 0, 1, .ro, 0, none, false⟩
def KEEP_PARAM_STA_ROLLBACK : Fld := ⟨0x10064, 1, 1, .ro, 0, none, false⟩
def KEEP_PARAM_STA_PENDING : Fld := ⟨0x10064, 2, 1, .ro, 0, none, false⟩
def KEEP_PARAM_STA_FORMAT : Fld := ⟨0x10064, 16, 16, .ro, 0, none, false⟩
def KEEP_SVC_NONCE (n : Nat) : Fld := ⟨0x10070 + 4*n, 0, 32, .ro, 0, none, false⟩
def KEEP_SVC_RESP (n : Nat) : Fld := ⟨0x10080 + 4*n, 0, 32, .wo, 0, none, false⟩
def KEEP_SVC_STA_SESSION : Fld := ⟨0x10090, 0, 2, .ro, 0, none, false⟩
def KEEP_SVC_STA_FAILS : Fld := ⟨0x10090, 4, 2, .ro, 0, none, false⟩
def KEEP_SVC_STA_BLOCKED : Fld := ⟨0x10090, 6, 1, .ro, 0, none, false⟩
def KEEP_SVC_STA_REMAIN : Fld := ⟨0x10090, 16, 16, .ro, 0, none, false⟩
def KEEP_SVC_TIME_TIME : Fld := ⟨0x10094, 0, 16, .rwl, 240, some (10, 720), false⟩
def KEEP_SEAL_CODE_CODE : Fld := ⟨0x10098, 0, 32, .wo, 0, none, false⟩
def KEEP_KEY_CTL_SLOT : Fld := ⟨0x100A0, 0, 3, .rw, 0, some (0, 6), false⟩
def KEEP_KEY_STA_PRESENT : Fld := ⟨0x100A4, 0, 7, .ro, 0, none, false⟩
def KEEP_KEY_KCV (n : Nat) : Fld := ⟨0x100B0 + 4*n, 0, 16, .ro, 0, none, false⟩
def KEEP_KEY_DATA (n : Nat) : Fld := ⟨0x100C0 + 4*n, 0, 32, .wo, 0, none, false⟩
def KEEP_NV_STA_LOW : Fld := ⟨0x10100, 0, 16, .ro, 0, none, false⟩
def KEEP_NV_STA_HIGH : Fld := ⟨0x10100, 16, 16, .ro, 0, none, false⟩
def KEEP_NV_CNT_LOW : Fld := ⟨0x10104, 0, 16, .ro, 0, none, false⟩
def KEEP_NV_CNT_HIGH : Fld := ⟨0x10104, 16, 16, .ro, 0, none, false⟩

/-- The EVT_EN bit of a source (R98, R99): default 1. -/
def EVT_EN_BIT (src : Nat) : Fld := ⟨(evtPage src).1 + 0x14, src - (evtPage src).2, 1, .rwl, 1, none, false⟩

/-- The single fields of page 0x0. -/
def pageFlds0 : List Fld :=
  [SYS_STA_CFG_DEFAULTED, SYS_STA_CFG_CONFLICT, SYS_STA_TWIN_CFG_FAULT, SYS_MODE, SYS_MODE_PREV,
   SYS_STATE_ROLE, SYS_STATE_PSTATE, SYS_STATE_THERMAL, SYS_STATE_SECURITY, SYS_STATE_EPOCH,
   SYS_CONFLICT_ID_TABLE, SYS_CONFLICT_ID_ENTRY, SYS_RESERVE_USED_USED, SYS_VARIANT, SYS_VARIANT_HW_REV,
   SYS_STRAPS_ADDR, SYS_STRAPS_TWIN_ID, SYS_STRAPS_TWIN_CFG, SYS_SERIAL_LO, SYS_SERIAL_HI, SYS_MAC_A_LO,
   SYS_MAC_A_HI, SYS_MAC_B_LO, SYS_MAC_B_HI, SYS_GRA_CACHE_TIME_TIME, SYS_GRA_STAT_AUTHFAIL, SYS_GRA_STAT_BUSY,
   SYS_GRA_STAT_REPLAY, SYS_GRA_STAT_DISCARDED, SYS_GRA_OUTSTANDING_S0, SYS_GRA_OUTSTANDING_S1,
   SYS_GRA_OUTSTANDING_S2, SYS_GRA_OUTSTANDING_S3, SYS_GRA_CACHE_USE01_LOW, SYS_GRA_CACHE_USE01_HIGH,
   SYS_GRA_CACHE_USE23_LOW, SYS_GRA_CACHE_USE23_HIGH]

/-- The single fields of page 0x1. -/
def pageFlds1 : List Fld :=
  [PWR_STA_PSTATE, PWR_STA_HOLD_READY, PWR_STA_BOOST_ON, PWR_STA_CAP_VALID, PWR_STA_RIDE_EXPIRED,
   PWR_STA_VCOIL_OK, PWR_STA_DISCHARGE_ON, PWR_SUPPLY_VIN, PWR_SUPPLY_VCOIL, PWR_HOLD_V_HOLD,
   PWR_HOLD_V_V_COMMIT_EFF, PWR_CAP_CAP_UF, PWR_CAP_REMEASURE, PWR_CAP_MIN, PWR_V_COMMIT, PWR_RIDE_TIME,
   PWR_HOLDUP_LOG_ENTRIES, PWR_HOLDUP_LOG_ABANDONED, PWR_HOLDUP_LOG_LAST_MS, PWR_BOOT_BOOT_NUMBER,
   PWR_BOOT_CAUSE, PWR_BOOT_LATCH_KEPT, PWR_POWER_P_IN]

/-- The single fields of page 0x2. -/
def pageFlds2 : List Fld :=
  [CLK_STA_REF_OK, CLK_STA_PLLC_LOCK, CLK_STA_PLLN_LOCK, CLK_STA_TRIP_FWD_OK, CLK_STA_SAMP_FWD_OK,
   CLK_STA_CORE_SRC, CLK_STA_COMP_VALID, CLK_UNLOCK_CNT_REF_LOSS, CLK_UNLOCK_CNT_PLLC, CLK_UNLOCK_CNT_PLLN,
   CLK_REF_TEMP_TEMP, CLK_REF_PPB_PPB]

/-- The single fields of page 0x3. -/
def pageFlds3 : List Fld :=
  [TIME_STA_TB0_VALID, TIME_STA_TB1_VALID, TIME_STA_TB2_VALID, TIME_STA_TB0_SET, TIME_STA_TP0_RUNNING,
   TIME_STA_TP1_RUNNING, TIME_TB0_ADDEND, TIME_TB1_ADDEND, TIME_TB0_STEP_STEP, TIME_TRIM_CTL_TB0_DIS,
   TIME_TRIM_CTL_TB1_DIS, TIME_STEP_CNT_STEPS, TIME_TIN_CFG_EN, TIME_TIN_CFG_EDGE, TIME_TIN_STA_COUNT,
   TIME_TIN_STA_OVERFLOW, TIME_TIN_POP_POP, TIME_LQ_CFG_SLIP]

/-- The single fields of page 0x4. -/
def pageFlds4 : List Fld :=
  [HVS_STA_ISLAND_OK, HVS_STA_SAMP_OK, HVS_STA_SHUNT_OK, HVS_STA_HALL_OK, HVS_STA_ZERO_VALID,
   HVS_STA_IMD_INJECTING, HVS_STA_IMD_VALID, HVS_STA_IMD_FOREIGN, HVS_STA_SUM_CHECKED, HVS_STA_OVERRANGE,
   HVS_STA_LIMIT_LATCH, HVS_STA_FOLLOW_P, HVS_STA_FOLLOW_N, HVS_V_STRING_V, HVS_V_BUS_V, HVS_I_SHUNT_I,
   HVS_I_HALL_I, HVS_T_SAMPLE_T, HVS_SHUNT_R_R, HVS_SHUNT_TRIM_GAIN, HVS_SHUNT_TRIM_TC, HVS_HALL_SCALE_SCALE,
   HVS_ZERO_SHUNT_OFS, HVS_ZERO_HALL_OFS, HVS_XCHK_WIN_PCT, HVS_XCHK_WIN_A, HVS_XCHK_WIN_TIME, HVS_SUM_TOL_PCT,
   HVS_SUM_TOL_ABS, HVS_LIM_OC_DSG, HVS_LIM_OC_CHG, HVS_LIM_OC_TIME_TIME, HVS_LIM_DIDT_RATE,
   HVS_LIM_DIDT_COUNT, HVS_LIM_V_OV, HVS_LIM_V_UV, HVS_LIM_BUS_BUS_OV, HVS_IMD_CFG_ROLE, HVS_IMD_THR_WARN,
   HVS_IMD_THR_FAULT, HVS_IMD_RES_R_ISO, HVS_IMD_RES_BELOW, HVS_IMD_RES_ABOVE, HVS_IMD_RES_VALID,
   HVS_IMD_RES_CYCLES, HVS_IMD_DETAIL_PERIOD, HVS_IMD_DETAIL_CAP, HVS_NTC_NTC_A, HVS_NTC_NTC_B,
   HVS_HALL_SUP_CURRENT, HVS_HALL_SUP_VOLTAGE, HVS_ISLAND_TEMP_TEMP]

/-- The single fields of page 0x5. -/
def pageFlds5 : List Fld :=
  [TRIP_STA_LATCH_A, TRIP_STA_LATCH_B, TRIP_STA_LATCH_C, TRIP_STA_ON_PATH_A, TRIP_STA_ON_PATH_B,
   TRIP_STA_ON_PATH_C, TRIP_STA_TEST_ACTIVE, TRIP_STA_TEST_LANE, TRIP_STA_C_ROLE, TRIP_STA_INSUFFICIENT,
   TRIP_STA_GATE_FORCED, TRIP_THR_A, TRIP_THR_B, TRIP_THR_C, TRIP_TEST_CTL_INTERVAL, TRIP_TEST_CTL_MARGIN,
   TRIP_TEST_RES_FAIL_A, TRIP_TEST_RES_FAIL_B, TRIP_TEST_RES_FAIL_C, TRIP_TEST_RES_RETIRED_A,
   TRIP_TEST_RES_RETIRED_B, TRIP_TEST_RES_RETIRED_C, TRIP_TEST_RES_TESTS, TRIP_TEST_TIME_A, TRIP_TEST_TIME_B,
   TRIP_TEST_TIME_C, TRIP_TRIP_CNT_BOOT, TRIP_TRIP_CNT_LIFE, TRIP_BK_TIME_FALL, TRIP_BK_TIME_ON_LOSS,
   TRIP_BK_LAST_FB1, TRIP_BK_LAST_FB2, TRIP_CAP_CTL_MANUAL, TRIP_CAP_CTL_HVS_L4, TRIP_CAP_CTL_RUNNING]

/-- The single fields of page 0x6. -/
def pageFlds6 : List Fld :=
  [CHAIN_STA_RING1_OK, CHAIN_STA_RING2_OK, CHAIN_STA_ENUM_RUNNING, CHAIN_STA_ALIGNED, CHAIN_STA_SYNC_LOCKED,
   CHAIN_STA_REPAIR_RUNNING, CHAIN_STA_UNCONFIRMED, CHAIN_STA_FOREIGN, CHAIN_STA_BURST_RUNNING,
   CHAIN_STA_OW_DEFERRING, CHAIN_SWEEP_CTL_SRC, CHAIN_SWEEP_CTL_LEAD, CHAIN_SWEEP_DEADLINE_DEADLINE,
   CHAIN_CMU_COUNT_COUNT, CHAIN_PORT_MAP_END_1A, CHAIN_PORT_MAP_END_1B, CHAIN_PORT_MAP_END_2A,
   CHAIN_PORT_MAP_END_2B, CHAIN_SYNC_CFG_DIV, CHAIN_SYNC_CFG_K, CHAIN_SYNC_OFFSET_OFFSET,
   CHAIN_SYNC_PERIOD_VALUE, CHAIN_SYNC_LAST_VALUE, CHAIN_SCHED_VALID, CHAIN_STALE_T_STALE, CHAIN_STALE_HOLD,
   CHAIN_CELL_LIM_OV, CHAIN_CELL_LIM_UV, CHAIN_TONE_LIM_OV, CHAIN_TONE_LIM_UV, CHAIN_CELL_LIM_N_N,
   CHAIN_OW_CFG_THR, CHAIN_OW_CFG_MARGIN, CHAIN_OW_CFG_PERIOD, CHAIN_OW_CFG_DEFER, CHAIN_OW_STA_TESTS,
   CHAIN_OW_STA_SINCE, CHAIN_OW_STA_LAST_TOOK, CHAIN_SWEEP_STA_ID, CHAIN_SWEEP_STA_FLAGS,
   CHAIN_SWEEP_STA_FRESH, CHAIN_SWEEP_STA_FLIGHT1, CHAIN_SWEEP_STA_FLIGHT2, CHAIN_SWEEP_T_T,
   CHAIN_SWEEP_CNT_LOW, CHAIN_SWEEP_CNT_HIGH, CHAIN_RETRY_CNT_LOW, CHAIN_RETRY_CNT_HIGH, CHAIN_BREAK_1_FIRST,
   CHAIN_BREAK_1_SECOND, CHAIN_BREAK_1_END_A_SILENT, CHAIN_BREAK_1_END_B_SILENT, CHAIN_BREAK_2_FIRST,
   CHAIN_BREAK_2_SECOND, CHAIN_BREAK_2_END_A_SILENT, CHAIN_BREAK_2_END_B_SILENT, CHAIN_ENUM_CMD_ENUMERATE,
   CHAIN_ENUM_STA_RESULT, CHAIN_ENUM_STA_FOUND1, CHAIN_ENUM_STA_FOUND2, CHAIN_ENUM_STA_DURATION,
   CHAIN_RETIRE_POSITION, CHAIN_RETIRE_GO, CHAIN_SPARE_DETAIL_SPARES, CHAIN_SPARE_DETAIL_ENDS,
   CHAIN_CONFIRM_POSITION, CHAIN_CONFIRM_SERIAL16, CHAIN_BAND, CHAIN_BAND_APERTURE, CHAIN_BAND_PRESET]

/-- The single fields of page 0x7. -/
def pageFlds7 : List Fld :=
  [LEDGER_CTL_EN, LEDGER_CTL_COMPAT288, LEDGER_CTL_LEARN_EN, LEDGER_STA_FULL, LEDGER_STA_EMPTY,
   LEDGER_STA_ANCHOR_REQUEST, LEDGER_STA_SRC_HALL, LEDGER_STA_NO_CURRENT, LEDGER_STA_DERATED,
   LEDGER_STA_TAPER_RUN, LEDGER_STA_SOC_UNKNOWN, LEDGER_STA_Z_VALID, LEDGER_STA_LEARN_PENDING, LEDGER_C_NOM,
   LEDGER_ANCHOR_V_FULL, LEDGER_ANCHOR_V_EMPTY, LEDGER_ANCHOR_I_I, LEDGER_RESERVE_HIGH, LEDGER_RESERVE_LOW,
   LEDGER_ANCHOR_LIMIT_LIMIT, LEDGER_DRIFT_SHUNT_OFFSET, LEDGER_DRIFT_SHUNT_GAIN, LEDGER_DRIFT_HALL_OFFSET,
   LEDGER_DRIFT_HALL_GAIN, LEDGER_DRIFT_BOOT_BOOT, LEDGER_DRIFT_BOOT_UNFINAL, LEDGER_DRIFT_SHUTTLE_SHUTTLE,
   LEDGER_TAPER_I_TAPER, LEDGER_TAPER_T_TAPER, LEDGER_TAPER_V_V_CV, LEDGER_TAPER_V_ELAPSED, LEDGER_RIPPLE_F,
   LEDGER_RIPPLE_MIN, LEDGER_Z_CFG_MAXAGE, LEDGER_Z_CFG_DEFAULT, LEDGER_LIM_V_CHG_V, LEDGER_LIM_V_DSG_V,
   LEDGER_DERATE_FACTOR, LEDGER_DERATE_OC_MARGIN, LEDGER_JRN_CFG_PERIOD, LEDGER_LIM_CHG_LIMIT,
   LEDGER_LIM_DSG_LIMIT, LEDGER_LIM_CAUSE_CHG_CELL, LEDGER_LIM_CAUSE_CHG_TERM, LEDGER_LIM_CAUSE_DSG_CELL,
   LEDGER_LIM_CAUSE_DSG_TERM, LEDGER_SOC_RANGE_MIN, LEDGER_SOC_RANGE_MAX, LEDGER_BOUND_MAX_BOUND,
   LEDGER_BOUND_MAX_CELL, LEDGER_ANCHOR_STA_OVER, LEDGER_ANCHOR_STA_UNKNOWN, LEDGER_AVAIL_DSG_Q,
   LEDGER_AVAIL_CHG_Q, LEDGER_LEARN_STA_OPEN, LEDGER_LEARN_STA_PENDING, LEDGER_LEARN_STA_LOST,
   LEDGER_LEARN_CNT_ACCEPTED, LEDGER_LEARN_CNT_REJECTED, LEDGER_JRN_STA_SEQ, LEDGER_JRN_STA_SLOT,
   LEDGER_JRN_STA_BOOT_FINAL, LEDGER_JRN_STA_BOTH_INVALID, LEDGER_JRN_STA_AGE, LEDGER_TFACTOR_CHG,
   LEDGER_TFACTOR_DSG]

/-- The single fields of page 0x8. -/
def pageFlds8 : List Fld :=
  [SHUTTLE_CTL_EN, SHUTTLE_CTL_MAINT_RUN, SHUTTLE_CTL_RUN_TRIPPED, SHUTTLE_CTL_DIR_FORCE, SHUTTLE_STA_ORDERING,
   SHUTTLE_STA_DIR, SHUTTLE_STA_DIR_FORCED, SHUTTLE_STA_PAUSED, SHUTTLE_STA_BUS_FULL, SHUTTLE_STA_SLOTS_FULL,
   SHUTTLE_STA_HALTED, SHUTTLE_QUANTUM, SHUTTLE_I_CELL_I, SHUTTLE_I_CELL_BUS_LIM, SHUTTLE_DIR_TAU,
   SHUTTLE_DIR_HYST, SHUTTLE_DEADBAND_DB, SHUTTLE_DEADBAND_V_GUARD, SHUTTLE_PLAN_MAX_ORDERS,
   SHUTTLE_PLAN_EFF_MIN, SHUTTLE_PLAN_SPREAD_ALARM, SHUTTLE_I_FILT_I, SHUTTLE_COUNTS_ACTIVE,
   SHUTTLE_COUNTS_BUS, SHUTTLE_COUNTS_ORDERS_LAST, SHUTTLE_COUNTS_ELIGIBLE_LOW, SHUTTLE_PAUSE,
   SHUTTLE_PAUSE_STEP, SHUTTLE_SPREAD, SHUTTLE_TOP_DONOR, SHUTTLE_TOP_RECEIVER, SHUTTLE_CNT_ORDERS,
   SHUTTLE_CNT_NACKS, SHUTTLE_CNT2_TIMEOUTS, SHUTTLE_CNT2_STOPS, SHUTTLE_CMU_BLOCK_LO, SHUTTLE_CMU_BLOCK_HI,
   SHUTTLE_PLAN_DIGEST_DIGEST, SHUTTLE_NEXT_ID_ID]

/-- The single fields of page 0x9. -/
def pageFlds9 : List Fld :=
  [THERM_STA_CELL, THERM_STA_BUS, THERM_STA_MOD, THERM_STA_LATCH, THERM_STA_LATCH_GROUPS, THERM_STA_RELATCHED,
   THERM_STA_BAND, THERM_STA_COOL_LEVEL, THERM_CELL_THR_WARN, THERM_CELL_THR_THROTTLE, THERM_BUS_THR_WARN,
   THERM_BUS_THR_THROTTLE, THERM_MOD_THR_WARN, THERM_MOD_THR_THROTTLE, THERM_CELL_THR2_SHUTDOWN,
   THERM_CELL_THR2_STEP_W, THERM_BUS_THR2_SHUTDOWN, THERM_BUS_THR2_STEP_W, THERM_MOD_THR2_SHUTDOWN,
   THERM_MOD_THR2_STEP_W, THERM_CELL_HYS_WARN_HYS, THERM_CELL_HYS_THR_HYS, THERM_CELL_HYS_SD_HYS,
   THERM_BUS_HYS_WARN_HYS, THERM_BUS_HYS_THR_HYS, THERM_BUS_HYS_SD_HYS, THERM_MOD_HYS_WARN_HYS,
   THERM_MOD_HYS_THR_HYS, THERM_MOD_HYS_SD_HYS, THERM_DERATE_CHG_STEP, THERM_DERATE_DSG_STEP,
   THERM_DERATE_DSG_FLOOR, THERM_COOL_COOL_ON, THERM_COOL_COOL_HYS, THERM_MAX_CELL_TEMP, THERM_MAX_CELL_CELL,
   THERM_MAX_BUS_TEMP, THERM_MAX_BUS_SRC, THERM_MOD_T01_LOW, THERM_MOD_T01_HIGH, THERM_MOD_T23_LOW,
   THERM_MOD_T23_HIGH, THERM_MOD_T45_LOW, THERM_MOD_T45_HIGH, THERM_STEPS_CELL, THERM_STEPS_BUS,
   THERM_STEPS_MOD, THERM_STEPS_MOD_PAUSE, THERM_PAUSE_STA_TELEM_SKIPPED, THERM_PAUSE_STA_CHAIN_DELAYED,
   THERM_COIL_R20_KP, THERM_COIL_R20_KN, THERM_COIL_R20_KC, THERM_COIL_KP_TEMP, THERM_COIL_KP_DUTY,
   THERM_COIL_KN_TEMP, THERM_COIL_KN_DUTY, THERM_COIL_KC_TEMP, THERM_COIL_KC_DUTY, THERM_COIL_T_MAX_T_MAX]

/-- The single fields of page 0xA. -/
def pageFldsA : List Fld :=
  [SAFE_SEQ_CMD_CMD, SAFE_SEQ_CMD_ARG, SAFE_SEQ_STA_STEP, SAFE_SEQ_STA_LAST_RESULT, SAFE_SEQ_STA_ABORT_SRC,
   SAFE_SEQ_STA_REFUSE, SAFE_SW_STATE_KP_CMD, SAFE_SW_STATE_KN_CMD, SAFE_SW_STATE_KC_CMD,
   SAFE_SW_STATE_SSBP_CMD, SAFE_SW_STATE_SSBN_CMD, SAFE_SW_STATE_KP_FB, SAFE_SW_STATE_KN_FB,
   SAFE_SW_STATE_KC_FB, SAFE_SW_STATE_BK_FB1, SAFE_SW_STATE_BK_FB2, SAFE_SW_STATE_KP_BROKEN,
   SAFE_SW_STATE_KN_BROKEN, SAFE_SW_STATE_KC_BROKEN, SAFE_WELD_RESULT_KP, SAFE_WELD_RESULT_KN,
   SAFE_WELD_RESULT_KC, SAFE_WELD_RESULT_PENDING, SAFE_WELD_RESULT_TRIES, SAFE_FB_TIME_CLOSE,
   SAFE_FB_TIME_OPEN, SAFE_SSB_TIME_CONFIRM, SAFE_SSB_TIME_STAGGER, SAFE_PC_DV_DV, SAFE_PC_HOLD_HOLD,
   SAFE_PC_HOLD_TIMEOUT, SAFE_PC_R_RPC, SAFE_PC_R_COOL, SAFE_I_ZERO, SAFE_WELD_CTL_RETRY, SAFE_WELD_CTL_WINDOW,
   SAFE_COIL_PICK_PICK, SAFE_PC_LAST_DURATION, SAFE_PC_LAST_PEAK, SAFE_COIL_KP_CURRENT,
   SAFE_COIL_KP_RESISTANCE, SAFE_COIL_KN_CURRENT, SAFE_COIL_KN_RESISTANCE, SAFE_COIL_KC_CURRENT,
   SAFE_COIL_KC_RESISTANCE, SAFE_COIL_TIMES_CLOSE_MS, SAFE_COIL_TIMES_OPEN_MS, SAFE_COIL_TIMES_COIL,
   SAFE_STA_PCV_CONFIRMED, SAFE_STA_PERMIT, SAFE_STA_WD_EXPIRED, SAFE_STA_NET_A_OK, SAFE_STA_NET_B_OK,
   SAFE_STA_SINGLE_NET, SAFE_STA_ZERO_REQUEST, SAFE_STA_TESTS_SUSPENDED, SAFE_SI_STATE_CH_A,
   SAFE_SI_STATE_CH_B, SAFE_SI_STATE_DEMANDED, SAFE_SI_STATE_LOCKED, SAFE_SI_STATE_EVALUATING,
   SAFE_DISC_TIME_DISC, SAFE_TPS_CFG_PERIOD, SAFE_TPS_CFG_WIDTH, SAFE_TPS_CFG_RECOVERY,
   SAFE_SRST_STA_A_PRESSED, SAFE_SRST_STA_B_PRESSED, SAFE_SRST_STA_BLOCKED, SAFE_SRST_STA_FAULT,
   SAFE_SRST_STA_LOCAL, SAFE_SRST_STA_REMOTE, SAFE_SO_HOST_ON, SAFE_SO_TEST_WIDTH, SAFE_SO_TEST_PERIOD,
   SAFE_SO_STATE_ON, SAFE_SO_STATE_READBACK, SAFE_SO_STATE_FAILED, SAFE_COIL_TEST_WIDTH, SAFE_COIL_TEST_PERIOD,
   SAFE_COIL_TEST_STA_PASS, SAFE_COIL_TEST_STA_FAILED, SAFE_COIL_TEST_STA_TESTS, SAFE_PSF_CID_STA,
   SAFE_PSF_CID_CMD, SAFE_PSF_CFG_PERIOD, SAFE_PSF_CFG_REMOTE_RESET, SAFE_PSF_CFG_WD_REACT, SAFE_PSF_CFG_VID,
   SAFE_PSF_CFG_PCP, SAFE_PSF_TIME_T_SF, SAFE_PSF_TIME_SKEW, SAFE_PSF_SINGLE_T_SINGLE, SAFE_PSF_SINGLE_ELAPSED,
   SAFE_PSF_OFFSET_OFFSET, SAFE_PSF_DST_LO, SAFE_PSF_DST_HI, SAFE_PSF_RX_FLAGS, SAFE_PSF_CNT_MISSING_A,
   SAFE_PSF_CNT_MISSING_B, SAFE_PSF_CNT_COMPARE, SAFE_PSF_CNT_DISCARDED, SAFE_PSF_SEQ_TX, SAFE_PSF_SEQ_RX,
   SAFE_PSF_SKEW_LAST, SAFE_PSF_SKEW_MAX, SAFE_PCV_CONFIRM, SAFE_PCV, SAFE_PCV_CONF]

/-- The single fields of page 0xB. -/
def pageFldsB : List Fld :=
  [FAULT_STA_ERR_ASSERTED, FAULT_STA_RELEASE_ARMED, FAULT_STA_SEQ_RUNNING, FAULT_STA_HIGHEST,
   FAULT_STA_FF_VALID, FAULT_STA_TCTRL_RUNNING, FAULT_ERR_RELEASE_RELEASE, FAULT_T_CTRL, FAULT_EVT_HOLD,
   FAULT_FF_CFG_MIN_LEVEL, FAULT_FF_ACK_SEQ, FAULT_RR_SRC_SOURCE, FAULT_RR_SRC_LEVEL, FAULT_RR_SRC_RUNNING,
   FAULT_RR_SRC_MERGE_COUNT, FAULT_RR_SEQ_SEQ, FAULT_HOST_RAISE_SOURCE, FAULT_HOST_RAISE_CODE, FAULT_HOST_DATA,
   FAULT_PUSH_CFG_EN, FAULT_PUSH_CFG_SESSION, FAULT_PUSH_CFG_MIN_SEV, FAULT_PUSH_CFG_PCP, FAULT_PUSH_DST_LO,
   FAULT_PUSH_DST_HI, FAULT_PUSH_CNT_FRAMES, FAULT_PUSH_CNT_SKIPPED]

/-- The single fields of page 0xC. -/
def pageFldsC : List Fld :=
  [LOG_STA_FULL, LOG_STA_CACHE_PENDING, LOG_STA_STORING, LOG_REPEAT_WIN_WIN, LOG_ANCHOR_ABS_LO,
   LOG_ANCHOR_ABS_HI, LOG_ANCHOR_TB0, LOG_CAP_VALID, LOG_CAP_PROTECT, LOG_CAP_LAST_SLOT, LOG_CAP_LAST_NUMBER]

/-- The single fields of page 0xD. -/
def pageFldsD : List Fld :=
  []

/-- The single fields of page 0xE. -/
def pageFldsE : List Fld :=
  [TWIN_STA_TL_PATH_OK, TWIN_STA_FF_PATH_OK, TWIN_STA_PARTNER_SEEN, TWIN_STA_ORPHAN, TWIN_STA_HANDOVER_RUNNING,
   TWIN_STA_WARM_EXPECTED, TWIN_STA_TAKEOVER_HOLD, TWIN_CMD, TWIN_CMD_RESULT, TWIN_HEALTH_BITS,
   TWIN_HEALTH_HEALTHY, TWIN_PARTNER_BITS, TWIN_PARTNER_HEALTHY, TWIN_PARTNER_ROLE, TWIN_PARTNER_HOLDUP,
   TWIN_PARTNER_EPOCH, TWIN_FF_STA_LAST, TWIN_FF_STA_BAD, TWIN_FF_STA_LOSSES, TWIN_TB1_OFS_OFS,
   TWIN_ALIGN_RESIDUAL, TWIN_ALIGN_DELAY, TWIN_SHADOW_LAST_MISMATCH, TWIN_SHADOW_MATCH_RUN,
   TWIN_SHADOW_CNT_MISMATCH, TWIN_SHADOW_CNT_NOT_COMPARED, TWIN_LANE_STA_L0, TWIN_LANE_STA_L1,
   TWIN_LANE_STA_REPLAY_MAX, TWIN_LANE_STA_VC_BLOCKED, TWIN_LANE_CNT_CRC_L0, TWIN_LANE_CNT_CRC_L1,
   TWIN_LANE_CNT_REPLAY_L0, TWIN_LANE_CNT_REPLAY_L1, TWIN_TAKEOVER_COUNT, TWIN_TAKEOVER_CAUSE,
   TWIN_TAKEOVER_T_NS, TWIN_PARTNER_TB0_ADDEND, TWIN_PARTNER_TB0_STEP]

/-- The single fields of page 0xF. -/
def pageFldsF : List Fld :=
  [RACK_CTL_EN, RACK_STA_IDLE, RACK_STA_BUSY, RACK_STA_RECOVERING, RACK_STA_RB_STUCK, RACK_STA_FAULTED, RACK_STA_ALERT_LOW,
   RACK_STA_ALERT_PAUSED, RACK_CFG_SPEED, RACK_CFG_ALERT_EN, RACK_CFG_ARA_PEC, RACK_ARB_CFG_RETRIES,
   RACK_ARB_CFG_FAIL_N, RACK_CNT_LOW, RACK_CNT_HIGH, RACK_ARB_CNT_LOW, RACK_ARB_CNT_HIGH,
   RACK_RECOVERY_ATTEMPTS, RACK_RECOVERY_FAULTS, RACK_ALERT_LAST_ADDR, RACK_ALERT_LAST_COUNT, RACK_ALARM,
   RACK_FAILED, RACK_VALID]

/-- The single fields of page 0x10. -/
def pageFlds10 : List Fld :=
  [KEEP_STA_RUN_BANK, KEEP_STA_FALLBACK, KEEP_STA_RECOVERY, KEEP_STA_STREAMING, KEEP_STA_ACTIVATING,
   KEEP_STA_COLD_PENDING, KEEP_STA_IP_STATE, KEEP_STA_IP_EN, KEEP_CMD, KEEP_CMD_SAME, KEEP_CMD_HANDOVER,
   KEEP_CMD_COLD, KEEP_CMD_STA_LAST, KEEP_CMD_STA_RESULT, KEEP_CMD_STA_REASON, KEEP_RUN_VERSION,
   KEEP_MIN_VERSION, KEEP_STREAM_POS, KEEP_STREAM_OUT, KEEP_BOOT_INFO_RESTARTS, KEEP_BOOT_INFO_FALLBACKS,
   KEEP_BOOT_INFO_LAST_GAP, KEEP_PARAM_STA_SLOT, KEEP_PARAM_STA_ROLLBACK, KEEP_PARAM_STA_PENDING,
   KEEP_PARAM_STA_FORMAT, KEEP_SVC_STA_SESSION, KEEP_SVC_STA_FAILS, KEEP_SVC_STA_BLOCKED, KEEP_SVC_STA_REMAIN,
   KEEP_SVC_TIME_TIME, KEEP_SEAL_CODE_CODE, KEEP_KEY_CTL_SLOT, KEEP_KEY_STA_PRESENT, KEEP_NV_STA_LOW,
   KEEP_NV_STA_HIGH, KEEP_NV_CNT_LOW, KEEP_NV_CNT_HIGH]

/-- The single fields of a page. -/
def pageFlds (page : Nat) : List Fld :=
  match page with
  | 0 => pageFlds0
  | 1 => pageFlds1
  | 2 => pageFlds2
  | 3 => pageFlds3
  | 4 => pageFlds4
  | 5 => pageFlds5
  | 6 => pageFlds6
  | 7 => pageFlds7
  | 8 => pageFlds8
  | 9 => pageFlds9
  | 10 => pageFldsA
  | 11 => pageFldsB
  | 12 => pageFldsC
  | 13 => pageFldsD
  | 14 => pageFldsE
  | 15 => pageFldsF
  | 16 => pageFlds10
  | _ => []

/-- The fields of an array register: `cnt` words from `base`, `step` bytes apart. -/
def arrayAt (base step cnt : Nat) (fs : Nat → List Fld) (a : Nat) : List Fld :=
  if base ≤ a ∧ (a - base) % step = 0 ∧ (a - base) / step < cnt then fs ((a - base) / step) else []

/-- The fields of the array registers at a word address. -/
def arrayFlds (a : Nat) : List Fld :=
  arrayAt 0x2050 4 16 (fun n => [CLK_COMP_PT_PPB n]) a ++
  arrayAt 0x4040 4 6 (fun n => [HVS_V_NODE n]) a ++
  arrayAt 0x6100 4 32 (fun n => [CHAIN_SCHED n]) a ++
  arrayAt 0x7100 4 32 (fun n => [LEDGER_TBL_CHG_EVEN n, LEDGER_TBL_CHG_ODD n]) a ++
  arrayAt 0x7180 4 32 (fun n => [LEDGER_TBL_DSG_EVEN n, LEDGER_TBL_DSG_ODD n]) a ++
  arrayAt 0x7200 4 4 (fun n => [LEDGER_T_BP_EVEN n, LEDGER_T_BP_ODD n]) a ++
  arrayAt 0x7210 4 4 (fun n => [LEDGER_SOC_BP_EVEN n, LEDGER_SOC_BP_ODD n]) a ++
  arrayAt 0x9080 4 10 (fun n => [THERM_PAUSE_CELL n]) a ++
  arrayAt 0x90A8 4 10 (fun n => [THERM_PAUSE_MOD n]) a ++
  (if a = 0xA040 then (List.range 6).map SAFE_SI_FUNC_P else []) ++
  (if a = 0xA054 then (List.range 8).map SAFE_SO_FUNC_SO else []) ++
  arrayAt 0xB100 4 16 (fun n => [FAULT_SPARE_MAP_PRODUCER n, FAULT_SPARE_MAP_ENTRY n]) a ++
  arrayAt 0xB800 8 256 (fun n => [FAULT_REACT_MINOR n, FAULT_REACT_SEVERE n, FAULT_REACT_N n, FAULT_REACT_KIND n, FAULT_REACT_FLOOR n, FAULT_REACT_FIXED n]) a ++
  arrayAt 0xB804 8 256 (fun n => [FAULT_REACT_W n, FAULT_REACT_UNIT n]) a ++
  arrayAt 0x3070 4 3 (fun n => [TIME_TB_TRIM n]) a ++
  (if a = 0x30C0 then (List.range 8).map TIME_MU_OWN else []) ++
  arrayAt 0x30D0 16 2 (fun n => [TIME_TP_CTL_GO n, TIME_TP_CTL_STOP n, TIME_TP_CTL_BASE n, TIME_TP_CTL_PERIODIC n]) a ++
  arrayAt 0x30D4 16 2 (fun n => [TIME_TP_START n]) a ++
  arrayAt 0x30D8 16 2 (fun n => [TIME_TP_WIDTH n]) a ++
  arrayAt 0x30DC 16 2 (fun n => [TIME_TP_PERIOD n]) a ++
  arrayAt 0x3100 64 2 (fun n => [TIME_LQ_PUSH_T n]) a ++
  arrayAt 0x3108 64 2 (fun n => [TIME_LQ_CANCEL n]) a ++
  arrayAt 0x310C 64 2 (fun n => [TIME_LQ_STA_PENDING n, TIME_LQ_STA_TXTS_LOST n, TIME_LQ_STA_FREE_BLOCKS n]) a ++
  arrayAt 0x3110 64 2 (fun n => [TIME_LQ_CNT_LOW n, TIME_LQ_CNT_HIGH n]) a ++
  arrayAt 0x3114 64 2 (fun n => [TIME_LQ_MISS_LOW n, TIME_LQ_MISS_HIGH n]) a ++
  arrayAt 0x3118 64 2 (fun n => [TIME_LQ_SLIP_MAX n]) a ++
  arrayAt 0xD040 64 2 (fun n => [PORT_CFG_ADV_2G5 n, PORT_CFG_ADV_1G n, PORT_CFG_PAUSE_TX n, PORT_CFG_RESTART n]) a ++
  arrayAt 0xD044 64 2 (fun n => [PORT_LINK_UP n, PORT_LINK_SPEED n, PORT_LINK_MDIX n, PORT_LINK_PARTNER_PAUSE n, PORT_LINK_DOWN_CNT n, PORT_LINK_UP_TIME n]) a ++
  arrayAt 0xD048 64 2 (fun n => [PORT_PHY_SNR_MARGIN n, PORT_PHY_CABLE_M n, PORT_PHY_BAD_BLOCKS n]) a ++
  arrayAt 0xD04C 64 2 (fun n => [PORT_RX_CLASS_LOW n, PORT_RX_CLASS_HIGH n]) a ++
  arrayAt 0xD050 64 2 (fun n => [PORT_RX_OTHER_LOW n, PORT_RX_OTHER_HIGH n]) a ++
  arrayAt 0xD054 64 2 (fun n => [PORT_RX_ERR_LOW n, PORT_RX_ERR_HIGH n]) a ++
  arrayAt 0xD058 64 2 (fun n => [PORT_TX_FRAMES n]) a ++
  arrayAt 0xD05C 64 2 (fun n => [PORT_PAUSE_RX n, PORT_PAUSE_TX n]) a ++
  arrayAt 0xD060 64 2 (fun n => [PORT_BUF_FILL n, PORT_BUF_PEAK n]) a ++
  arrayAt 0xD064 64 2 (fun n => [PORT_DESC_SPARE_IN_USE n, PORT_DESC_CAPACITY n, PORT_DESC_RETIRED n]) a ++
  arrayAt 0xF100 32 32 (fun n => [RACK_ENTRY_ADDR n, RACK_ENTRY_EN n, RACK_ENTRY_CMD n, RACK_ENTRY_TYPE n, RACK_ENTRY_WRITE n, RACK_ENTRY_PEC n, RACK_ENTRY_ALERT n, RACK_ENTRY_SRC n, RACK_ENTRY_LEN n]) a ++
  arrayAt 0xF104 32 32 (fun n => [RACK_ENTRY_PERIOD n, RACK_ENTRY_RETRY_TOTAL n]) a ++
  arrayAt 0xF108 32 32 (fun n => [RACK_ENTRY_OP n, RACK_ENTRY_SIGNED n, RACK_ENTRY_OFFSET n, RACK_ENTRY_WIDE n, RACK_ENTRY_PERSIST n]) a ++
  arrayAt 0xF10C 32 32 (fun n => [RACK_ENTRY_LOW n, RACK_ENTRY_HIGH n]) a ++
  arrayAt 0xF110 32 32 (fun n => [RACK_ENTRY_WDATA n, RACK_ENTRY_MASK n]) a ++
  arrayAt 0xF114 32 32 (fun n => [RACK_ENTRY_RESULT n, RACK_ENTRY_FAILS n, RACK_ENTRY_COUNT n]) a ++
  arrayAt 0xF118 32 32 (fun n => [RACK_ENTRY_LAST_T n]) a ++
  arrayAt 0x10048 4 2 (fun n => [KEEP_BANK_STATE n, KEEP_BANK_STEP n, KEEP_BANK_VERSION n]) a ++
  arrayAt 0x10070 4 4 (fun n => [KEEP_SVC_NONCE n]) a ++
  arrayAt 0x10080 4 4 (fun n => [KEEP_SVC_RESP n]) a ++
  arrayAt 0x100B0 4 7 (fun n => [KEEP_KEY_KCV n]) a ++
  arrayAt 0x100C0 4 16 (fun n => [KEEP_KEY_DATA n]) a

/-- The fields of the word at an address of the register pages. -/
def fieldsAt (a : Nat) : List Fld := (pageFlds (a / 0x1000)).filter (fun f => f.addr == a) ++ arrayFlds a

end Sys2Proof.Machine
end

