-- ==== Sys2Proof/Machine/Types.lean ====
section
/-! DEFINITION. The parts of the state, block by block: what each block of the module keeps beside its registers. -/

namespace Sys2Proof.Machine

/-- The modes of R36; `transient` is BOOT and OFF, in which no mode is reported. -/
inductive Mode where
  | transient | commissioning | isolated | connecting | connected | tripped | maintenance
deriving DecidableEq, Repr

/-- The code of SYS.MODE.MODE (R36). -/
def Mode.code : Mode → Nat
  | .transient => 0
  | .commissioning => 1
  | .isolated => 2
  | .connecting => 3
  | .connected => 4
  | .tripped => 5
  | .maintenance => 6

/-- Where the module is between OFF and service (R85, R88, R462). -/
inductive Phase where
  | off | coldBoot | warmBoot | run
deriving DecidableEq, Repr

/-- The twin role (R37, SYS.STATE.ROLE). -/
inductive Role where
  | solo | active | standby
deriving DecidableEq, Repr

def Role.code : Role → Nat
  | .solo => 0
  | .active => 1
  | .standby => 2

/-- The security state (R37, SYS.STATE.SECURITY). -/
inductive Sec where
  | opened | isSealed | service
deriving DecidableEq, Repr

def Sec.code : Sec → Nat
  | .opened => 0
  | .isSealed => 1
  | .service => 2

/-- The status codes of R115. -/
inductive Status where
  | ok | busy | denied | locked | badaddr | conflict | authfail | full
deriving DecidableEq, Repr

def Status.code : Status → Nat
  | .ok => 0
  | .busy => 1
  | .denied => 2
  | .locked => 3
  | .badaddr => 4
  | .conflict => 5
  | .authfail => 6
  | .full => 7

/-- The time counters (R366): `now` counts CORE periods of 5 ns while the module is powered; `tb0`, `tb1` and `tb2`
are 32.24 fixed-point nanoseconds; `wrap` is TB0's wrap tally; `away` counts the CORE periods that VIN has been absent in OFF (R86). -/
structure Clock where
  now : Nat
  tb0 : Nat
  tb1 : Nat
  tb2 : Nat
  wrap : Nat
  away : Nat
deriving DecidableEq, Repr

/-- An event record (R352), field by field. -/
structure Rec where
  seq : Nat
  time : Nat
  wrap : Nat
  src : Nat
  sev : Nat
  severe : Bool
  coFirst : Bool
  merged : Bool
  partner : Bool
  code : Nat
  d0 : Nat
  d1 : Nat
  rep : Nat
  gen : Nat
  boot : Nat
  lastSeen : Nat
deriving DecidableEq, Repr

/-- One raise of a source (R339): source, object CODE, data, and for a forwarded raise the partner's time stamp. -/
structure Raise where
  src : Nat
  code : Nat := 0
  d0 : Nat := 0
  d1 : Nat := 0
  partner : Bool := false
  stamp : Option (Nat × Nat) := none
deriving DecidableEq, Repr

/-- A source's counter (R341): raises since first power-up, and (bucket number, raises) for the buckets in use. -/
structure Cnt where
  src : Nat
  total : Nat
  buckets : List (Nat × Nat)
deriving DecidableEq, Repr

/-- An active source (R340): its level, and for an event below L3 the end of its hold. -/
structure Act where
  src : Nat
  level : Nat
  hold : Option Nat
  partner : Bool
deriving DecidableEq, Repr

/-- What WATCH has ingested in a CORE cycle (R349, R351): the cycle, whether a sequence ran before it or ended in it, whether a
raise at L3 or above was among its raises, the sources raised, and the first record at or above the capture level, as it was raised. -/
structure RaiseCycle where
  cycle : Nat
  ran : Bool
  top : Bool
  srcs : List Nat
  qual : Option Rec
deriving DecidableEq, Repr

/-- What waits in an ingest slot (R354): a new record, or a record that folds into the one of a sequence. -/
inductive Ing where
  | fresh (r : Rec)
  | fold (r : Rec) (seq : Nat) (lastSeen : Nat)
deriving DecidableEq, Repr

/-- One of the island's capture buffers (R187, R360): `at4` is the trigger's time in 1.25 ns, `overflow` whether the edge list
overflowed. -/
structure CapBuf where
  trig : Nat
  tb0 : Nat
  wrap : Nat
  seq : Nat
  further : List (Nat × Nat)
  furtherN : Nat
  endsAt : Nat
  frozen : Bool
  edges : List (Int × Nat)
  lanes : Nat
  warm : Bool
  at4 : Nat
  overflow : Bool
deriving DecidableEq, Repr

/-- A stored capture (R361). `parts` counts the storage commits done, of 35. -/
structure Cap where
  slot : Nat
  number : Nat
  buf : CapBuf
  boot : Nat
  afterWarm : Bool
  incomplete : Bool
  parts : Nat
deriving DecidableEq, Repr

/-- WATCH (file 12). `evtNew` are the event flags that the engines set in the present CORE cycle, with its time (R103). -/
structure Watch where
  evt : List Nat
  evtNew : Nat × List Nat
  cnt : List Cnt
  mcnt : List Cnt
  mff : Option Rec
  mffValid : Bool
  act : List Act
  exc : List (Nat × Nat)
  errOn : Bool
  errArmed : Bool
  errSince : Nat
  rrSrc : Nat
  rrLevel : Nat
  rrSeq : Nat
  rrMerge : Nat
  rrRun : Bool
  rrMap : List Nat
  rrEnd : Option Nat
  cyc : Option RaiseCycle
  ff : Option Rec
  ffValid : Bool
  held : List Raise
  ingest : List Ing
  cache : List (Nat × Rec)
  mram : List (Nat × Rec)
  nextSeq : Nat
  ceiling : Nat
  ceilAsked : Bool
  committed : Nat
  dropped : Nat
  droppedAt : Option Nat
  logAt : Option Nat
  bufs : List CapBuf
  caps : List Cap
  capNum : Nat
  push : List Rec
  pushSeq : Nat
  pushAt : Option Nat
deriving DecidableEq, Repr

/-- Requests to the NV commit queue (R39, R78, R443), with what each carries. -/
inductive NvJob where
  | journal (final : Bool)
  | param (confirm : Option Nat) (clears : Bool)
  | retained
  | key (slot : Nat) (bytes : List Byte)
  | log
  | ceiling (v : Nat)
  | capture (slot : Nat)
  | remap (region : Nat)
  | image (bytes : Nat)
deriving DecidableEq, Repr

/-- The priority of R39 and R443: 0 journal, 1 parameters, 2 log, 3 captures. -/
def NvJob.prio : NvJob → Nat
  | .journal _ => 0
  | .param _ _ => 1
  | .retained => 1
  | .key _ _ => 1
  | .log => 2
  | .ceiling _ => 2
  | .capture _ => 3
  | .remap p => p
  | .image _ => 3

/-- PWR (file 03): end of the last boot, HOLDUP entry, end of the ride-through time, start of the capacitance timer, the 10 s
limits on charging (R75) and on BOOT (R89), a re-measurement in progress, the 85 V supervision; restarts in a row and, of the
bank that the last attempt ran, its number and the restarts on it (R456), a BOOT stopped by undervoltage, a rail fault whose cold boot is due, an exhausted hold-up to report, a
completed power cycle; the thermal latch and its groups (AON retention); the NV commit queue; the MRAM write pulse in ns of the latest
commit (R295). -/
structure Pwr where
  bootAt : Nat
  holdupAt : Nat
  rideBy : Option Nat
  capAt : Option Nat
  chargeBy : Option Nat
  boostBy : Option Nat
  remeasure : Bool
  holdSup : Bool
  restarts : Nat
  onBank : Nat × Nat
  stopped : Bool
  rail : Bool
  exhausted : Bool
  cycled : Bool
  latch : Bool
  latchGroups : Nat
  running : Option NvJob
  queued : List NvJob
  waiting : List NvJob
  pulse : Nat
deriving DecidableEq, Repr

/-- How the module drives a pin that has no level of its own elsewhere (R65, R67). -/
inductive PinDrive where
  | off | low | high | pulsing
deriving DecidableEq, Repr

/-- What starts at the end of the stagger (R125, R132, R135); `ssbP` is connect step 3 after its announcement (R143). -/
inductive After where
  | ssbP | ssbN | precharge | pulse1 | pulse2
deriving DecidableEq, Repr

/-- A running disconnect or connect abort (R129, R135). -/
structure Dis where
  abort : Bool
  fault : Bool
  supply : Bool
  src : Nat
  noWeld : Bool
deriving DecidableEq, Repr

/-- A pulse weld test (R132 to R134). -/
structure Weld where
  inConnect : Bool
  demand : Bool
  pulse : Nat
  retryBy : Option Nat
  windowBy : Option Nat
  kp : Nat
  kn : Nat
  kc : Nat
deriving DecidableEq, Repr

/-- The sequencer of SAFE (file 05). Contactors are numbered 0 KP, 1 KN, 2 KC. `announce` is the switch-test pulse announced to the
standby (R143): 1 SSB-P or 2 SSB-N, its start and its end in TB1 ns. -/
structure Seq where
  dis : Option Dis
  confirmBy : Option Nat
  fbBy : Option Nat
  await : List Nat
  ssbTest : Option Nat
  stagger : Option (Nat × After)
  pcAt : Nat
  pcBy : Option Nat
  pcDone : Bool
  picks : List (Nat × Nat)
  waitPick : List Nat
  coolBy : Option Nat
  tctrl : Option Nat
  weld : Option Weld
  pulseBy : Option Nat
  pulseEnd : Option Nat
  coilTest : Option (Nat × Nat × Nat)
  coilTestBy : Option Nat
  maintFromTripped : Bool
  resetSince : Bool
  partnerRideBy : Option Nat
  announce : Option (Nat × Nat × Nat)
deriving DecidableEq, Repr

/-- One coil in hold (R140, R296): current (mA) and resistance (10 mΩ) at its last pick, the latest resistance in hold, the duty
that the next PWM period applies, and the PWM frequency in kHz that its output latches run at (R141, R295). -/
structure Coil where
  pickI : Nat
  pickR : Nat
  r : Nat
  nextDuty : Nat
  freq : Nat
deriving DecidableEq, Repr

/-- One thermal group (R286): state, consecutive evaluations at or above each threshold, evaluations below the present
state's release level since it was entered, the latest maximum and the pause step. -/
structure Grp where
  st : Nat
  upW : Nat
  upT : Nat
  upS : Nat
  dn : Nat
  max : Option Int
  step : Nat
deriving DecidableEq, Repr

/-- THERM (file 10). -/
structure Therm where
  cell : Grp
  bus : Grp
  mod : Grp
  ownBus : Option Int
  partnerBus : Option Int
  cool1 : Bool
  relatch : List Nat
  bandSet : Bool
  coils : List Coil
  aonDrop : Bool
deriving DecidableEq, Repr

/-- One SI pair (R302 to R309): filtered channels, whether it is demanded (for MAINT_KEY: both channels low), its lock, whether
a discrepancy locked it, and the end of its discrepancy time. -/
structure Pair where
  a : Bool
  b : Bool
  dem : Bool
  locked : Bool
  disc : Bool
  discBy : Option Nat
deriving DecidableEq, Repr

/-- One reset channel (R310). -/
structure Srst where
  high : Bool
  pressAt : Option Nat
  relAt : Option Nat
  fail : Bool
  lowAt : Nat
deriving DecidableEq, Repr

/-- What a test window showed of a channel (R304): high on the last two samples of its own source's pulse, or, for a channel of
the other source, high before and after it and low on two consecutive samples inside. -/
structure TpsRead where
  ch : Nat
  high1 : Bool
  high2 : Bool
  before : Bool
  after : Bool
  low2 : Bool
deriving DecidableEq, Repr

/-- SAFE's inputs and outputs (file 11): `soHeld` the outputs held off, `soStuck` those found stuck on, `testCoil` the coil
tested next, `pcvBy` when a changed block's check value is due; `tps` how TPS0 and TPS1 are driven, `soLatch` the outputs as a warm
boot latched them (R67), `warmDemand` the pairs whose demand dropped the latches in a warm boot (R68), `win` the window in which the
standby may test a coil's switch: the coil, start and end in TB1 ns (R317), `resetAt` the latest accepted edge reset (R312), `lsAt` the
latest LS test (R314), `tpsBy` the ends of the next test windows of TPS0 and TPS1 (R303), `soBy` and `lsBy` when each output's next
test pulse (R314) and the next LS test (R317) are due and by how much they are deferred. -/
structure Safe where
  pairs : List Pair
  evalBy : Option Nat
  a : Srst
  b : Srst
  soHeld : Nat
  soStuck : Nat
  testCoil : Nat
  pcvBy : Option Nat
  tps : PinDrive
  soLatch : Nat
  warmDemand : List Nat
  win : Option (Nat × Nat × Nat)
  resetAt : Option Nat
  lsAt : Option Nat
  tpsBy : List Nat
  soBy : List (Nat × Nat)
  lsBy : Option (Nat × Nat)
deriving DecidableEq, Repr

/-- The receive and send sides of PSF (R320 to R331). -/
structure Psf where
  rxSeq : Option Nat
  rxBytes : List Byte
  rxPort : Nat
  rxAt : Nat
  skewBy : Option Nat
  resetSeq : Option (Nat × Bool)
  wdBy : Option Nat
  wdStartBy : Option Nat
  seenA : Option Nat
  seenB : Option Nat
  lostPort : Option Nat
  singleAt : Option Nat
  matchAt : Option Nat
  lastT : Option Nat
deriving DecidableEq, Repr

/-- The content of an image bank (R447): empty, the image a module leaves the factory with, the recovery image of the factory
region, or bytes streamed in. -/
inductive Content where
  | empty | factory | recovery | bytes (bs : List Byte)
deriving DecidableEq, Repr

/-- A parameter slot (R450): sequence, format, confirmed PCV, flags and the block's values; `ok` whether its magic and check word
agree (R452). -/
structure ParSlot where
  seq : Nat
  format : Nat
  pcvConf : Nat
  defaulted : Bool
  conflict : Bool
  vals : RegMap
  ok : Bool
deriving DecidableEq, Repr

/-- The retained records of R444: register fields (boot number, epoch, marks, verdicts, block map, lifetime counters, minimum
version), session counters, pair locks, confirmed serials, retired positions with their spares, BOOT_BANK and the install flag. -/
structure Retained where
  regs : RegMap
  ctrs : List Nat
  siLocks : Nat
  serials : List (Nat × Nat)
  retired : List (Nat × Nat)
  bootBank : Nat
  install : Bool
deriving DecidableEq, Repr

/-- An operation of a delta stream that waits for its data (R458): code, next source offset, output bytes still to come, stream
bytes still to come with their padding. -/
structure DOp where
  code : Nat
  src : Nat
  out : Nat
  rest : Nat
deriving DecidableEq, Repr

/-- A running delta stream (R457, R458): the bank it builds, the staging ring's bytes not yet decoded, whether its header is
read, the target length, the operation in progress. -/
structure Stream where
  bank : Nat
  pend : List Byte
  headed : Bool
  target : Nat
  op : Option DOp
deriving DecidableEq, Repr

/-- A waiting or running ACTIVATE (R460): its target, ARG.HANDOVER, BOOT_BANK and install flag before it, its timeout, and its stage:
0 waiting, 1 its commits (R462) are asked for, 2 announcements have stopped. -/
structure Activate where
  target : Nat
  handover : Bool
  oldBank : Nat
  oldInstall : Bool
  byT : Nat
  stage : Nat
deriving DecidableEq, Repr

/-- KEEP (file 16): banks, parameter slots, the two copies of the retained records, the latest and the one before, with their validity,
keys by slot, security state, stream, ACTIVATE, install flag and BOOT_BANK in force, the timers of a parameter commit and of SERVICE, the challenge (session, end of its 10 s) and
the response words received, the handover request (next time, end of the 600 s or 0), corrected lines with their time,
uncorrectable lines, reserve sectors in use, end of the last scrub pass, scan access, and while a warm boot runs the RETAIN_FORMAT
of the retention record and the time the engines stopped; `ctrWait` whether the raised session counters wait for their commit (R111). -/
structure Keep where
  bank0 : Content
  bank1 : Content
  slot0 : Option ParSlot
  slot1 : Option ParSlot
  ret : Retained
  retOld : Retained
  retOk : Bool × Bool
  keys : List (Nat × List Byte)
  sec : Sec
  stream : Option Stream
  act : Option Activate
  install : Bool
  bootBank : Nat
  paramBy : Option Nat
  nonce : Option (Nat × Nat)
  svcResp : List (Nat × Nat)
  svcBlockBy : Option Nat
  svcBy : Option Nat
  handReq : Option (Nat × Nat)
  lineFix : List (Nat × Nat)
  lineAt : Option Nat
  badLines : List Nat
  spares : Nat
  scrubAt : Option Nat
  scanned : Bool
  retention : Option Nat
  warmAt : Nat
  ctrWait : Bool
deriving DecidableEq, Repr

/-- A cached GRA response (R114). -/
structure CacheE where
  seq : Nat
  tag : Nat
  mac : List Byte
  resp : List Byte
  until_ : Nat
  hold : Nat
  sent : Bool
deriving DecidableEq, Repr

/-- One GRA session (R110 to R114), with what the spec holds per session (R104, R357, R362, R378, R467). -/
structure Sess where
  ctr : Nat
  high : Option Nat
  seen : List Nat
  outs : List Nat
  cache : List CacheE
  snaps : RegMap
  snapCnt : RegMap
  authAt : List (Nat × Nat)
  lookup : Nat
  capSlot : Nat
  capBlock : Nat
  keyBuf : List Nat
  lqBuf0 : RegMap
  lqBuf1 : RegMap
deriving DecidableEq, Repr

/-- A launch-queue entry (R378): tag, base, programmed time in ns, bytes, flags, the unit it is armed on (R380), and whether its status
payload is still to be filled in as it launches (R35). -/
structure LqE where
  tag : Nat
  base : Nat
  time : Nat
  bytes : List Byte
  imm : Bool
  tsReq : Bool
  telem : Bool
  psf : Bool
  unit : Option Nat
  fill : Bool
deriving DecidableEq, Repr

/-- A transmit timestamp record (R383). -/
structure Txts where
  tag : Nat
  ns : Nat
  frac : Nat
  wrap8 : Nat
deriving DecidableEq, Repr

/-- A received PTP frame (R375). -/
structure PtpE where
  bytes : List Byte
  len : Nat
  ns : Nat
  frac : Nat
  wrap8 : Nat
deriving DecidableEq, Repr

/-- A plant port's queues (R375, R378, R383). -/
structure PortQ where
  lq : List LqE
  txts : List Txts
  ptp : List PtpE
  telemAt : Option Nat
deriving DecidableEq, Repr

/-- A pulse generator (R386): running, pin level, the programmed time of its present or next rise on its base (ns), the CORE period
of its next edge, and whether it has risen since GO. -/
structure Tp where
  go : Bool
  high : Bool
  rise : Nat
  edgeBy : Option Nat
  begun : Bool
deriving DecidableEq, Repr

/-- TIME (file 13). -/
structure Tim where
  qa : PortQ
  qb : PortQ
  tp0 : Tp
  tp1 : Tp
  tin : List (Nat × Nat × Nat × Nat)
  tinAt : Option Nat
deriving DecidableEq, Repr

/-- HVS (file 06): what it keeps beside its registers. Charges in nC. `cal` is the factory calibration per channel: gain, offset and
curvature (R154); `rail` whether the shunt input stands at its rail (R158); `zeroAt` the last open-path zero (R156); `hallPwr`
whether HALL_PWR is on (R67). -/
structure Hvs where
  qS : Int
  qH : Int
  ntcA : Int
  ntcRead : Bool
  zeroS : Bool
  zeroH : Bool
  sumRun : Nat
  imdW : Nat
  imdF : Nat
  imdWUp : Nat
  imdFUp : Nat
  imdBad : Bool
  shuntOkAt : Nat
  cal : List (Int × Int × Int)
  rail : Bool
  zeroAt : Option Nat
  hallPwr : Bool
deriving DecidableEq, Repr

/-- TRIP (file 06). Lanes are numbered 0 A, 1 B, 2 C. `lastHigh` tells per lane whether the last test took the high comparator,
`next` the lane whose test is next, `again` the lanes that take a slot out of turn; `level` the last test level in LSB (R176);
`comp` the lanes with a comparator that asserts (R174); `gateP`, `gateN` the SSB commands that the island holds (R150), `confP`,
`confN` whether SAFE has confirmed that SSB on (R183), `clears` counts the clearings of the latches at a disconnect's step 2 (R185); `recent` the edges of the last 10 ms, in 1.25 ns, with their kind (R187). -/
structure Trip where
  ns : Nat
  frac : Nat
  first : Nat
  lanes : Nat
  at_ : Option Nat
  lastHigh : List Bool
  next : Nat
  again : List Nat
  warmDrop : Bool
  level : Int
  comp : List Bool
  gateP : Bool
  gateN : Bool
  confP : Bool
  confN : Bool
  clears : Nat
  recent : List (Nat × Nat)
deriving DecidableEq, Repr

/-- What HVS latched at a sample instant (R153). Currents in mA, voltages in 10 mV, charges in µC. -/
structure Lat where
  t : Nat
  at_ : Nat
  i : Int
  iH : Int
  qS : Int
  qH : Int
  v : List Int
deriving DecidableEq, Repr

/-- The payload of a SWEEP_DATA frame (R196). -/
structure SwData where
  err : Int
  status : Nat
  v : List Nat
  vsup : Nat
  pair : Nat
  t0 : Int
  t1 : Int
  isup : Option (Nat × Int)
deriving DecidableEq, Repr

/-- A retry sequence of one CMU in one sweep (R212). -/
structure Retry where
  pos : Nat
  at_ : Nat
  n : Nat
  done : Bool
deriving DecidableEq, Repr

/-- A sweep in flight (R209, R212, R213): `debits` are the supply terms its copies brought (cell group, mA, CORE periods), `mlat` what
the partner latched at its instant (R164). -/
structure Sweep where
  id : Nat
  t : Nat
  auto : Bool
  ow : Bool
  owPos : List Nat
  split : Bool
  retried : Bool
  lat : Option Lat
  good : List (Nat × SwData)
  raw : List (Nat × SwData)
  retries : List Retry
  debits : List (Nat × Nat × Nat)
  mlat : Option Lat
deriving DecidableEq, Repr

/-- A cell's record, CHAIN's part (R232), with the counts of R218 and R215. -/
structure CellRec where
  has : Bool
  v : Nat
  sweep : Nat
  t : Nat
  at_ : Nat
  fresh : Bool
  stale : Bool
  unsure : Bool
  endWire : Bool
  via : Bool
  burst : Bool
  ovN : Nat
  uvN : Nat
  temp : Int
  stepLo : Int
  stepHi : Int
  vmin : Nat
  vmax : Nat
  staleAt : Option Nat
deriving DecidableEq, Repr

/-- A position's record (R233), with what CHAIN keeps for it. `state`: 0 absent, 1 present, 2 authenticated, 3 FOREIGN,
4 SWAPPED, 5 retired, 6 idle spare. -/
structure CmuRec where
  index : Option Nat
  serves : Option Nat
  state : Nat
  serial : Nat
  conf : Option Nat
  hopA : Nat
  hopB : Nat
  errNow : Int
  errMax : Nat
  errRun : Nat
  home : Nat
  vsup : Nat
  sumDiff : Int
  isup : Nat
  ntc : List Int
  ntcAt : List (Option Nat)
  crcA : Nat
  crcB : Nat
  retries : Nat
  missed : Nat
  tones : Nat
  toneFlags : Nat
  toneAt : Nat
  wires : Nat
  passes : List (Nat × Nat)
  auth : Nat
  tries : Nat
  die : Int
  nonce : Option (Nat × Nat)
  isupAt : Nat
deriving DecidableEq, Repr

/-- A chain transaction that waits for its time on the line (R229): whether it is of the shuttle class (else diagnostic), the rings it
occupies, the ends that send it, DEST, TYPE and payload, the position it concerns, and whether a pause has held it (R288). -/
structure ChainReq where
  shuttle : Bool
  rings : List Nat
  ends : List Nat
  dest : Nat
  type : Nat
  payload : List Byte
  pos : Nat
  held : Bool
deriving DecidableEq, Repr

/-- The new addresses of a completed enumeration until their ADDRESS_COMMIT's instant (R202): that instant on the module's count of
time once it is named, the CMUs found, the count and the map of ends in force with them. -/
structure AddrCommit where
  at_ : Option Nat
  found : List (Nat × Nat × Nat × Nat × Nat)
  count : Nat
  map : List Nat
deriving DecidableEq, Repr

/-- A running enumeration (R201, R202): when it began, and once its CMUs are found the result and the CMUs of each ring, shown when its
steps are done. -/
structure EnumRun where
  at_ : Nat
  res : Option (Nat × Nat × Nat)
deriving DecidableEq, Repr

/-- A burst (R228): its start on TB1 and on the module's count of time, the positions not yet read back, and whether their read-out
has begun. -/
structure BurstRun where
  startT : Nat
  startAt : Nat
  poss : List Nat
  read : Bool
deriving DecidableEq, Repr

/-- CHAIN (file 07). `base` is the previous instant, announced or skipped, that R33 counts from; `retire` pairs a retired
position with its spare; `gapFrom` the last instant before a warm boot until the first one after it. `wait` are the transactions that
wait for the line, `freeAt` per ring the end of its last transaction, `pausedAt` per ring end that of its last one that a pause
follows (R229, R288), `silent` the ring end ports without a valid symbol (R198), `echo` the latencies that no CONFIG has carried yet
(R204), `beaconAt` the last beacon; `notices` the break notices not yet located (ring, index, side A; R198); `commit` the addresses
of an enumeration until they take effect (R202); `thru` the positions whose through latency did not match (R204); `faulty` the positions that raised CMU_FAULT since it was last inactive (R271); `capFrom` and `captured` the
period of bursts and the positions captured in it (R228). -/
structure Chain where
  count : Nat
  map : List Nat
  cells : List CellRec
  cmus : List CmuRec
  flight : List Sweep
  prevT : Option Nat
  base : Option Nat
  nextId : Nat
  pred : List Nat
  edgeT : Option Nat
  edgeAt : Nat
  gaps : List Nat
  edgeNo : Nat
  enum : Option EnumRun
  noticeAt : List (Nat × Nat)
  owPlan : Option (Nat × Bool)
  owSince : Nat
  owLast : Nat
  burst : Option BurstRun
  retire : List (Nat × Nat)
  seqNo : Nat
  authDue : List Nat
  echo : List (Nat × Nat × Nat)
  gapFrom : Option Nat
  wait : List ChainReq
  freeAt : List Nat
  pausedAt : List Nat
  silent : List Nat
  beaconAt : Option Nat
  notices : List (Nat × Nat × Bool)
  commit : Option AddrCommit
  thru : List Nat
  faulty : List Nat
  captured : List Nat
  capFrom : Nat
deriving DecidableEq, Repr

/-- What a STANDBY takes over of a CMU's record (R231). -/
structure CmuRes where
  index : Option Nat
  serves : Option Nat
  state : Nat
  serial : Nat
  conf : Option Nat
  hopA : Nat
  hopB : Nat
  home : Nat
  wires : Nat
  passes : List (Nat × Nat)
  auth : Nat
  tries : Nat
deriving DecidableEq, Repr

/-- What a STANDBY takes over of enumeration, authentication, open-wire tests and bursts (R231): per CMU; per cell its marks and
steps, and |Z|, its real part and phase with the R_i held and the estimate's age; the pairs that bursts watch; the CORE periods since the
last open-wire test. -/
structure ChainRes where
  count : Nat
  retire : List (Nat × Nat)
  cmus : List CmuRes
  marks : List (Bool × Bool × Int × Int)
  zs : List (Nat × Int × Int × Option Int × Option Nat)
  pairs : List (Nat × Nat × Nat × Nat)
  owAge : Nat
deriving DecidableEq, Repr

/-- An open learning cycle (R250): throughput in µC, temperature sum and count, its age base, and whether it is void. -/
structure Cyc where
  through : Nat
  tSum : Int
  tN : Nat
  at_ : Nat
  void_ : Bool
deriving DecidableEq, Repr

/-- A cell of the ledger (file 08). Charges in µC, capacity in mC, impedance in µΩ. -/
structure LCell where
  q : Int
  cap : Nat
  b : Nat
  capUnk : Bool
  socUnk : Bool
  anchor : Nat
  anchorAt : Option Nat
  fullN : Nat
  emptyN : Nat
  cyc : Option Cyc
  pend : Bool
  lost : Bool
  hall : Bool
  prov : Nat
  z : Nat
  phase : Int
  zAt : Option Nat
  zCos : Int
  rHeld : Option Int
  inQ : Nat
  outQ : Nat
deriving DecidableEq, Repr

/-- A cell's journal record (R260). -/
structure JCell where
  q : Int
  b : Nat
  cap : Nat
  inQ : Nat
  outQ : Nat
  anchor : Nat
  lstate : Nat
  through : Nat
  tSum : Int
  age : Nat
deriving DecidableEq, Repr

/-- A journal slot (R260): `ok` whether its magic and CRC agree. -/
structure Jrn where
  seq : Nat
  boot : Nat
  final : Bool
  hall : Bool
  compat : Bool
  count : Nat
  tb0 : Nat
  wrap : Nat
  cells : List JCell
  ok : Bool
deriving DecidableEq, Repr

/-- The ledger as it stands at the close of a frame's step 6 (R260): Q_common, the cells, the counts of the CMUs' reports that it has
taken up, and whether it is on the Hall path. -/
structure Shot where
  qc : Int
  cells : List LCell
  reps : List (Nat × List (Nat × Nat))
  hall : Bool
deriving DecidableEq, Repr

/-- LEDGER (file 08). `pairs` are the marked pairs that bursts watch (R243): the lower cell, |Z| of both at the mark, the updates since.
`last` holds the values of the latest frame with the accumulators as the ledger counts them; on a STANDBY `own` is what the module itself
latched for it, `mlast` the last values mirrored, and `hold` a closed sweep's frame that waits for the partner's values, with its
supply terms (R164, R262). `snap` is the snapshot of a journal commit that runs, `shot` what the next one takes: the
ledger at the latest frame's close (R260). -/
structure Ledger where
  qc : Int
  last : Option Lat
  diffs : List (Nat × Int × Int)
  cells : List LCell
  taper : Nat
  taperQ : Option Int
  jrnA : Option Jrn
  jrnB : Option Jrn
  jrnAt : Option Nat
  jrnDone : Nat
  repQ : List (Nat × List (Nat × Nat))
  pairs : List (Nat × Nat × Nat × Nat)
  own : Option Lat
  mlast : Option Lat
  hold : Option (Lat × List (Nat × Nat × Nat))
  snap : Option Jrn
  shot : Option Shot
deriving DecidableEq, Repr

/-- A transfer of SHUTTLE (file 09). `st`: 1 waiting, 2 running, 3 ended, 4 stopping; `cur` its current in 0.1 A. Slots are 4 × position +
slot; `doneD`, `doneR` tell that a half has ended, `seenD`, `seenR` that a report has brought its final counts. -/
structure Xfer where
  tid : Nat
  donor : Nat
  rcv : Nat
  q : Nat
  startT : Nat
  startAt : Nat
  limit : Nat
  cur : Nat
  bus : Bool
  st : Nat
  slotD : Option Nat
  slotR : Option Nat
  ackD : Bool
  ackR : Bool
  gave : Nat
  got : Nat
  stopped : Bool
  doneD : Bool
  doneR : Bool
  seenD : Bool
  seenR : Bool
  void : Bool
deriving DecidableEq, Repr

/-- SHUTTLE (file 09). `iF` in nA; `total` and `loss` in mC; `reps` the cumulative counts at each CMU's last report; `lostPos` the
positions whose sweeps bring nothing while they have open transfers (R245); `readAt` when each position's report was last asked for,
`planAt` the last plan cycle (R276); `other` the slots, as 4 × position + slot, that a CMU's last report shows waiting or running for a
transfer the module does not know (R279). -/
structure Shuttle where
  xfers : List Xfer
  freeAt : List (Nat × Nat)
  reps : List (Nat × List (Nat × Nat))
  frames : Nat
  iF : Int
  dir : Nat
  total : Nat
  loss : Int
  spreadAt : Option Nat
  haltPos : List Nat
  readAt : List (Nat × Nat)
  lostPos : List Nat
  planAt : Nat
  other : List Nat
deriving DecidableEq, Repr

/-- The state that the ACTIVE mirrors (R412). `so` are its outputs that are on (R29), `ret` whether MAINTENANCE returns to TRIPPED
(R123), `pulse` the announced switch-test pulse (R143), `frames` the frames since the last plan cycle
(R282), `win` the announced coil test window (R317), `conf` whether each SSB is
confirmed on (R183), `ff` the first fault, `clears` counts the latch clearings at a disconnect's step 2 (R185), `regs` and `chain` the results of
what only the ACTIVE runs (R168, R231). -/
structure Mirror where
  lat : Option Lat
  sweep : Nat
  t : Nat
  complete : Bool
  next : List (Nat × Nat × Bool)
  cmds : List Bool
  mode : Nat
  step : Nat
  busMax : Option Int
  xfers : List Xfer
  nextTid : Nat
  frames : Nat
  dig : Option (List Nat)
  acts : List (Nat × Nat)
  rr : Option (Nat × Nat)
  raises : List Raise
  pulse : Option (Nat × Nat × Nat)
  hreq : Bool
  so : Nat
  ret : Bool
  win : Option (Nat × Nat × Nat)
  ff : Option Rec
  conf : Bool × Bool
  clears : Nat
  regs : RegMap
  chain : ChainRes
deriving DecidableEq, Repr

/-- A REG packet (R411, R415): the parameter block with the confirmed PCV, forwarded fields, and TB0's addend or step. -/
structure RegPkt where
  block : Option (RegMap × Nat)
  fields : RegMap
  addend : Option Nat
  step : Option Int
deriving DecidableEq, Repr

/-- What a Twin Link packet carries (R402), by its virtual channel: a heartbeat's 32 bytes (HB 0), a mirrored state or event
(MIRROR 1), a chain frame (RAW 2), settings (REG 3). -/
inductive TwMsg where
  | hb (bytes : List Byte)
  | mirror (m : Mirror)
  | raw (frame : List Byte)
  | reg (r : RegPkt)
deriving DecidableEq, Repr

/-- A received packet's header (R401): its lane, SEQ, ACK, returned credits (VC, count), and whether its CRC agrees. -/
structure TwHdr where
  lane : Nat
  seq : Nat
  ack : Nat
  credit : Nat × Nat
  crcOk : Bool
deriving DecidableEq, Repr

/-- One lane of the Twin Link (R403, R404): sequences, when the ACK last advanced or a replay began, unacknowledged packets (SEQ, time
first sent, content), the transmitter's credits per VC in use, packets held for credits, the times of recent CRC errors, and since when it is error-free. -/
structure TwLane where
  txSeq : Nat
  rxSeq : Nat
  ackAt : Nat
  unacked : List (Nat × Nat × TwMsg)
  used : List (Nat × Nat)
  held : List TwMsg
  crcAt : List Nat
  okSince : Option Nat
  failAt : Option Nat
deriving DecidableEq, Repr

/-- TWIN (file 14). `ho` is the stage of a planned handover: 0 none, 1 accepted, 2 proposed, 3 accept received, 4 standby has
accepted. `raised` tells which of SAFE's checks of cells and HVS raised their source in the latest frame, `totals` how often each has,
`cmpT` the latest frame that the shadow comparison has counted (R413). -/
structure Twin where
  lanes : List TwLane
  hbAt : Option Nat
  ffAt : Option Nat
  seenAt : Option Nat
  unseenAt : Option Nat
  warmUntil : Option Nat
  yieldBy : Option Nat
  holdBy : Option Nat
  listenBy : Option Nat
  heard : Option (Nat × Nat)
  sameId : Bool
  relSend : Option Nat
  relFf : Bool
  relRx : Option Nat
  relTime : Option (Nat × Nat)
  sent : Option Mirror
  ho : Nat
  hoBound : Nat
  aligned : Bool
  alignOut : Nat
  alignIn : Nat
  rxTb1 : Option (Nat × Nat)
  mir : Option Mirror
  maxEpoch : Nat
  skipTill : Nat
  hvsSince : Option Nat
  raised : List Bool
  totals : List Nat
  cmpT : Option Nat
  pcmds : Option (List Bool)
deriving DecidableEq, Repr

/-- A plant port (R393 to R399): end of its power-up grace, link-up time, end of a received pause, whether it pauses its
partner, when it last sent PAUSE, the frames that wait for the end of the pause with their PCP. -/
structure PortS where
  graceBy : Option Nat
  upAt : Option Nat
  pauseTill : Nat
  pausing : Bool
  pauseAt : Option Nat
  txq : List (Nat × List Byte)
  busyTill : Nat
deriving DecidableEq, Repr

/-- The rack controller's transaction (R430 to R436): the entry, whether it drives the bus now or waits out a back-off, the data
it writes, and its arbitration losses so far. -/
structure RTx where
  entry : Nat
  run : Bool
  data : List Byte
  losses : Nat
deriving DecidableEq, Repr

/-- RACK (file 15): per entry the next due time, the consecutive OK reads that met its rule and that did not, and the data of
its last OK read; the entries that wait for the bus; the transaction; the bus; alert service; recovery. -/
structure Rack where
  due : List (Option Nat)
  met : List (Nat × Nat)
  data : List (List Byte)
  waiting : List Nat
  cur : Option RTx
  backBy : Option Nat
  busy : Bool
  idleAt : Nat
  alertRuns : List Nat
  alertTurn : Bool
  alertSame : Nat
  pauseBy : Option Nat
  check : Bool
  holds : Nat
  holdBy : Option Nat
  retryBy : Option Nat
  once : Bool
deriving DecidableEq, Repr

/-- A measured value, and whether a channel that it comes from saturates (R152). -/
structure Meas where
  v : Int
  sat : Bool
  deriving DecidableEq, Repr

/-- What a cold boot finds: the straps (R66), whether the image selects TWIN (R23), VIN, VCOIL and HOLD in 10 mV, and the trip lanes
that failed a boot test (R181). -/
structure BootPins where
  addr : Nat
  twinId : Nat
  twin : Bool
  vin : Nat
  vcoil : Nat
  hold : Nat
  bad : List Nat
deriving DecidableEq, Repr

/-- What leaves the module's pins during a command. -/
inductive Tx where
  /-- An Ethernet frame from plant port 0 (A) or 1 (B), from its destination address on. -/
  | eth (port : Nat) (bytes : List Byte)
  /-- A chain frame with the logical ends that send it: 0 1A, 1 1B, 2 2A, 3 2B (R195). -/
  | chain (ends : List Nat) (bytes : List Byte)
  /-- A Twin Link packet on a lane with its SEQ and ACK (R401). -/
  | twin (lane seq ack : Nat) (m : TwMsg)
  /-- A link-control packet on a lane: its ACK, and the VC and credits returned (R401, R403). -/
  | twinCtl (lane ack vc credits : Nat)
  /-- A firefly code (R407). -/
  | firefly (code : Nat)
  /-- A rack transaction's start: address, direction, command code and data written; an ARA read has none (R437). -/
  | rack (addr : Nat) (write : Bool) (cmd : Nat) (data : List Byte)
  /-- A STOP of the rack controller, or its recovery pulses (R438, R439). -/
  | rackStop
  | rackRecover
  /-- A coil or SO test pulse with its width in µs, or an edge of TP0 or TP1. -/
  | coilTest (coil width : Nat)
  | soTest (out width : Nat)
  | tpEdge (gen : Nat) (high : Bool)
  /-- A word on the inspection port's SPI (R471). -/
  | ip (word : Nat)
deriving DecidableEq, Repr

end Sys2Proof.Machine
end

