-- ==== Sys2Proof/Syntax.lean ====
section
/-! DEFINITION. The commands of the block: one constructor per row of spec/opcode_table.json. -/

namespace Sys2Proof

/-- A command. Its first operand `dt` is the time since the previous command in CORE periods of 5 ns (notes/assumptions/1.md);
the others are what the row's event, frame or write brings. Ports, coils, pairs and the like are numbered from 0. -/
inductive Instr where
  /-- COLD_BOOT (R88): `pins` what the boot finds at its pins. -/
  | coldBoot (dt : Nat) (pins : Machine.BootPins)
  /-- BOOT_RESTART (R456): `bad` names a trip lane once for each boot test it fails. -/
  | bootRestart (dt : Nat) (bad : List Nat)
  /-- BOOT_END (R89): `hold` HOLD in 10 mV. -/
  | bootEnd (dt : Nat) (hold : Nat)
  /-- CAP_MEASURE_START (R74). -/
  | capMeasureStart (dt : Nat)
  /-- CAP_MEASURE_COMPLETE (R74). -/
  | capMeasureComplete (dt : Nat)
  /-- CAP_REMEASURE (R77). -/
  | capRemeasure (dt : Nat)
  /-- HOLD_CHARGE_FAIL (R75): `hold` HOLD in 10 mV, `held` ms below 85 V. -/
  | holdChargeFail (dt : Nat) (hold : Nat) (held : Nat)
  /-- UNDERVOLTAGE_DETECTION (R80): `vin` VIN in 10 mV. -/
  | undervoltageDetection (dt : Nat) (vin : Nat)
  /-- UNDERVOLTAGE_RELEASE (R82): `vin` VIN in 10 mV. -/
  | undervoltageRelease (dt : Nat) (vin : Nat)
  /-- RIDE_THROUGH_EXPIRY (R81). -/
  | rideThroughExpiry (dt : Nat)
  /-- OFF_ENTRY (R81). -/
  | offEntry (dt : Nat)
  /-- HOLD_EXHAUSTION (R81). -/
  | holdExhaustion (dt : Nat)
  /-- POWER_CYCLE (R86). -/
  | powerCycle (dt : Nat)
  /-- VIN_HIGH (R94): `vin` VIN in 10 mV, `held` ms. -/
  | vinHigh (dt : Nat) (vin : Nat) (held : Nat)
  /-- VCOIL_LOSS (R70): `v` VCOIL in 10 mV. -/
  | vcoilLoss (dt : Nat) (v : Nat)
  /-- RAIL_FAULT (R94). -/
  | railFault (dt : Nat)
  /-- NV_COMMIT_START (R78): `hold` HOLD in 10 mV. -/
  | nvCommitStart (dt : Nat) (hold : Nat)
  /-- NV_COMMIT_COMPLETE (R79): `fails` whether the read-back fails (R446). -/
  | nvCommitComplete (dt : Nat) (fails : Bool)
  /-- COMMIT_ABANDONED (R79): `hold` HOLD in 10 mV. -/
  | commitAbandoned (dt : Nat) (hold : Nat)
  /-- REF_LOSS (R91). -/
  | refLoss (dt : Nat)
  /-- PLLC_UNLOCK (R91). -/
  | pllcUnlock (dt : Nat)
  /-- PLLN_UNLOCK (R91). -/
  | pllnUnlock (dt : Nat)
  /-- REF_COMP_UPDATE (R93): `reading` the TCXO sensor in 0.1 °C, none where it gives no reading. -/
  | refCompUpdate (dt : Nat) (reading : Option Int)
  /-- WARM_BOOT (R462). -/
  | warmBoot (dt : Nat)
  /-- RESUME (R145): `sound` the record's CRC holds and each output latch equals its command or was dropped. -/
  | resume (dt : Nat) (sound : Bool)
  /-- GRA_READ (R108): `port` 0 A or 1 B, `frame` the Ethernet frame without its FCS. -/
  | graRead (dt : Nat) (port : Nat) (frame : List Byte)
  /-- GRA_WRITE (R101): as GRA_READ. -/
  | graWrite (dt : Nat) (port : Nat) (frame : List Byte)
  /-- GRA_RMW (R108): as GRA_READ. -/
  | graRmw (dt : Nat) (port : Nat) (frame : List Byte)
  /-- GRA_SNAP (R104): as GRA_READ. -/
  | graSnap (dt : Nat) (port : Nat) (frame : List Byte)
  /-- GRA_HELLO (R111): as GRA_READ. -/
  | graHello (dt : Nat) (port : Nat) (frame : List Byte)
  /-- GRA_CACHE_EXPIRY (R114): `session` 0 to 3. -/
  | graCacheExpiry (dt : Nat) (session : Nat)
  /-- CTL_SNAP (R104): `who` the session, `page` the page's number. -/
  | ctlSnap (dt : Nat) (who : Nat) (page : Nat)
  /-- PAGE_LOCK (R100): `who` the session, `page` the page's number, `key` the word written. -/
  | pageLock (dt : Nat) (who : Nat) (page : Nat) (key : Nat)
  /-- REGISTER_WRITE (R101): `who` the session, the address and the word written. -/
  | registerWrite (dt : Nat) (who : Nat) (addr : Nat) (value : Nat)
  /-- STAGING_WRITE (R457): `off` the byte offset in the window, `ws` the words. -/
  | stagingWrite (dt : Nat) (off : Nat) (ws : List Nat)
  /-- CONNECT (R125). -/
  | connect (dt : Nat)
  /-- DISCONNECT (R135). -/
  | disconnect (dt : Nat)
  /-- ENTER_MAINT (R122). -/
  | enterMaint (dt : Nat)
  /-- EXIT_MAINT (R122). -/
  | exitMaint (dt : Nat)
  /-- COMMISSION (R122). -/
  | commission (dt : Nat)
  /-- WELD_TEST (R134). -/
  | weldTest (dt : Nat)
  /-- COIL_TEST (R120): `arg` 0 KP, 1 KN, 2 KC. -/
  | coilTest (dt : Nat) (arg : Nat)
  /-- COIL_TEST_END (R120). -/
  | coilTestEnd (dt : Nat)
  /-- ACK_INSPECT (R137): `arg` bits 0 KP, 1 KN, 2 KC. -/
  | ackInspect (dt : Nat) (arg : Nat)
  /-- FEEDBACK_CLOSED (R125): the feedbacks as read, true closed. -/
  | feedbackClosed (dt : Nat) (kp : Bool) (kn : Bool) (kc : Bool)
  /-- FEEDBACK_CLOSE_TIMEOUT (R129). -/
  | feedbackCloseTimeout (dt : Nat)
  /-- FEEDBACK_OPENED (R135): the feedbacks as read, true closed. -/
  | feedbackOpened (dt : Nat) (kp : Bool) (kn : Bool) (kc : Bool)
  /-- FEEDBACK_OPEN_TIMEOUT (R135). -/
  | feedbackOpenTimeout (dt : Nat)
  /-- FEEDBACK_LOST (R147): the feedbacks as read on three samples, true closed. -/
  | feedbackLost (dt : Nat) (kp : Bool) (kn : Bool) (kc : Bool)
  /-- SSB_TEST_END (R130): `bk` BK_FB of the tested pair, `maxI` the largest current of the window in mA, node voltages in
  10 mV. -/
  | ssbTestEnd (dt : Nat) (bk : Bool) (maxI : Nat) (midp : Int) (hvp : Int) (midn : Int) (hvn : Int)
  /-- STAGGER_END (R125). -/
  | staggerEnd (dt : Nat)
  /-- PRECHARGE_HOLD_COMPLETE (R125): `dv` the largest difference of the last `held` µs in 10 mV, `peak` the largest current
  of the step in mA. -/
  | prechargeHoldComplete (dt : Nat) (dv : Int) (held : Nat) (peak : Nat)
  /-- PC_TIMEOUT (R129): `peak` the largest current of the step in mA. -/
  | pcTimeout (dt : Nat) (peak : Nat)
  /-- PC_OVERCURRENT (R126): `cur` in mA, `dv` in 10 mV, `n` samples above the limit, `peak` in mA. -/
  | pcOvercurrent (dt : Nat) (cur : Int) (dv : Int) (n : Nat) (peak : Nat)
  /-- PC_COOL_END (R127). -/
  | pcCoolEnd (dt : Nat)
  /-- PICK_END (R140): `k` 0 KP, 1 KN, 2 KC; `i` the coil current in mA. -/
  | pickEnd (dt : Nat) (k : Nat) (i : Nat)
  /-- HOLD_CURRENT_FAULT (R295): `k` the coil, `i` its hold current in mA for `held` µs. -/
  | holdCurrentFault (dt : Nat) (k : Nat) (i : Nat) (held : Nat)
  /-- ZERO_CURRENT_CONFIRMED (R135): BK_FB1 and BK_FB2, the largest current in mA of `n` samples. -/
  | zeroCurrentConfirmed (dt : Nat) (bk1 : Bool) (bk2 : Bool) (maxI : Nat) (n : Nat)
  /-- DISCONNECT_CONFIRM_TIMEOUT (R137): BK_FB1 and BK_FB2, the current in mA. -/
  | disconnectConfirmTimeout (dt : Nat) (bk1 : Bool) (bk2 : Bool) (i : Int)
  /-- WELD_PULSE_END (R132): bus node and MID node against the pole before (`d`, `midD`) and at the end of the pulse, in 10
  mV; BK_FB; the feedbacks. -/
  | weldPulseEnd (dt : Nat) (d : Int) (ee : Int) (midD : Int) (midE : Int) (bk : Bool) (kp : Bool) (kn : Bool) (kc : Bool)
  /-- WELD_RETRY (R134). -/
  | weldRetry (dt : Nat)
  /-- WELD_WINDOW_END (R134). -/
  | weldWindowEnd (dt : Nat)
  /-- T_CTRL_EXPIRY (R343). -/
  | tCtrlExpiry (dt : Nat)
  /-- ZERO_CURRENT_REACHED (R136): `i` the current in mA. -/
  | zeroCurrentReached (dt : Nat) (i : Int)
  /-- PARTNER_RIDE_EXPIRY (R139). -/
  | partnerRideExpiry (dt : Nat)
  /-- SAMPLE_INSTANT (R153): `nv` the shunt in nV, `uv` HALL_SIG in µV, `v` the six nodes in 10 mV, the charges since the
  last instant in nC. -/
  | sampleInstant (dt : Nat) (nv : Int) (uv : Int) (v : List Int) (dqS : Int) (dqH : Int)
  /-- AUTO_INSTANT (R33). -/
  | autoInstant (dt : Nat)
  /-- ISLAND_LINK_LOSS (R150). -/
  | islandLinkLoss (dt : Nat)
  /-- ISLAND_LINK_RESTORED (R150). -/
  | islandLinkRestored (dt : Nat)
  /-- ISLAND_LIMIT_LATCH (R151): `k` the limit (0 discharge and 1 charge OVERCURRENT, 2 STRING_OV, 4 BUS_OV, 5 DIDT), `x`
  its quantity, lasting `d` µs. -/
  | islandLimitLatch (dt : Nat) (k : Nat) (x : Machine.Meas) (d : Nat)
  /-- OPEN_PATH_ZERO (R156): `res` the residuals of shunt and Hall, averaged, in mA; `held` how long the path had read open,
  in ms, when the averaging began. -/
  | openPathZero (dt : Nat) (res : Int × Int) (held : Nat)
  /-- SHUNT_FAULT (R158): `uv` in µV lasting `d` µs, `still` µs without modulator transitions. -/
  | shuntFault (dt : Nat) (uv : Int) (d : Nat) (still : Nat)
  /-- HALL_FAULT (R158): `ma` the supply current in mA, `uv` HALL_SIG in µV lasting `d` µs. -/
  | hallFault (dt : Nat) (ma : Nat) (uv : Int) (d : Nat)
  /-- SHUNT_HALL_MISMATCH (R161): the means in mA, differing for `d` µs. -/
  | shuntHallMismatch (dt : Nat) (shunt : Int) (hall : Int) (d : Nat)
  /-- SHUNT_HALL_MATCH_RESTORED (R161): the means in mA, within the window for `d` µs. -/
  | shuntHallMatchRestored (dt : Nat) (shunt : Int) (hall : Int) (d : Nat)
  /-- MID_MISMATCH (R163): `v` the six nodes in 10 mV, `d` µs. -/
  | midMismatch (dt : Nat) (v : List Int) (d : Nat)
  /-- OVERCURRENT (R165): `i` in mA lasting `d` µs. -/
  | overcurrent (dt : Nat) (i : Int) (d : Nat)
  /-- DIDT (R165): `x` the rise of a 10 µs window in mA, `d` consecutive windows. -/
  | didt (dt : Nat) (x : Int) (d : Nat)
  /-- STRING_OV (R165): `v` in 10 mV, lasting `d` µs. -/
  | stringOv (dt : Nat) (v : Machine.Meas) (d : Nat)
  /-- STRING_UV (R165): `v` in 10 mV, lasting `d` µs. -/
  | stringUv (dt : Nat) (v : Machine.Meas) (d : Nat)
  /-- BUS_OV (R165): `v` in 10 mV, lasting `d` µs. -/
  | busOv (dt : Nat) (v : Machine.Meas) (d : Nat)
  /-- IMD_LISTEN_END (R169): `jump` the largest step of the system-to-PE voltage in V. -/
  | imdListenEnd (dt : Nat) (jump : Nat)
  /-- IMD_CYCLE_COMPLETE (R170): voltages in mV, currents in nA, the capacitance in 10 nF as each half-period estimates it. -/
  | imdCycleComplete (dt : Nat) (vp : Int) (vm : Int) (ip : Int) (im : Int) (capp : Nat) (capm : Nat)
  /-- NTC_READ (R171): the two busbar NTCs in 0.1 °C. -/
  | ntcRead (dt : Nat) (a : Int) (c : Int)
  /-- LATCH_SET (R173): `lane` 0 A, 1 B, 2 C; `sub` counts 1.25 ns since the CORE tick. -/
  | latchSet (dt : Nat) (lane : Nat) (sub : Nat)
  /-- LANE_TEST (R177): `resp` the latch's response in 1.25 ns, `held` whether latch or comparator stays active, `meas` the
  measured current in lane LSB, `other` whether another latch on the path set. -/
  | laneTest (dt : Nat) (resp : Option Nat) (held : Bool) (meas : Int) (other : Bool)
  /-- TRIP_CLK_LOSS (R180): `during` the lane whose test ran. -/
  | tripClkLoss (dt : Nat) (during : Option Nat)
  /-- BK_FB_MISMATCH (R183): `k` the pair, `fell` a fall of BK_G, `d` in 0.1 µs. -/
  | bkFbMismatch (dt : Nat) (k : Nat) (fell : Bool) (d : Nat)
  /-- CAPTURE_MANUAL (R187). -/
  | captureManual (dt : Nat)
  /-- CAPTURE_FREEZE (R360). -/
  | captureFreeze (dt : Nat)
  /-- CAPTURE_STORED (R360). -/
  | captureStored (dt : Nat)
  /-- PORT_SILENT (R198): `port` the physical ring end port. -/
  | portSilent (dt : Nat) (port : Nat)
  /-- BREAK_NOTICE (R198): `ring` 0 or 1, `idx` the CMU's physical index, `sideA` which input is silent. -/
  | breakNotice (dt : Nat) (ring : Nat) (idx : Nat) (sideA : Bool)
  /-- TONE_RECEIVED (R219): `p` the position, `flags` [0] overvoltage, [1] undervoltage, [2] internal. -/
  | toneReceived (dt : Nat) (p : Nat) (flags : Nat)
  /-- ENUMERATE (R202). -/
  | enumerate (dt : Nat)
  /-- ENUM_COMPLETE (R201): `found` ring, index, round trips at A and B and turnaround in 0.1 ns, and home end of each CMU;
  `thru` per ring its latency through in ns, none where the ends found different sequences; `late` whether time ran out. -/
  | enumComplete (dt : Nat) (found : List (Nat × Nat × Nat × Nat × Nat × Nat)) (thru : Option (List Nat)) (late : Bool)
  /-- ECHO_RECHECK (R204): position, round trips at A and B, turnaround. -/
  | echoRecheck (dt : Nat) (l : List (Nat × Nat × Nat × Nat))
  /-- BEACON (R205). -/
  | beacon (dt : Nat)
  /-- SYNC_EDGE (R207). -/
  | syncEdge (dt : Nat)
  /-- SYNC_LOSS (R207). -/
  | syncLoss (dt : Nat)
  /-- SAMPLE_AT (R209). -/
  | sampleAt (dt : Nat)
  /-- SWEEP_DATA (R212): the end it arrives at, the position of its slot, a new supply current in mA with the internal
  temperature in 0.1 °C, the frame. -/
  | sweepData (dt : Nat) (endB : Bool) (p : Nat) (isup : Option (Nat × Int)) (frame : List Byte)
  /-- COPY_OVERDUE (R212): the end and the position. -/
  | copyOverdue (dt : Nat) (endB : Bool) (p : Nat)
  /-- RETRY_EXHAUSTED (R212): the position. -/
  | retryExhausted (dt : Nat) (p : Nat)
  /-- SWEEP_CLOSE (R213). -/
  | sweepClose (dt : Nat)
  /-- RAW_RECEIVE (R214): the packet's header and the partner's frame that it carries. -/
  | rawReceive (dt : Nat) (frame : Machine.TwHdr × List Byte)
  /-- RING_REPAIR (R217): `ring` 0 or 1, the positions reached with their index, round trips at A and B and turnaround in
  0.1 ns. -/
  | ringRepair (dt : Nat) (ring : Nat) (found : List (Nat × Nat × Nat × Nat × Nat))
  /-- OPEN_WIRE_SLOT (R221): `t` the slot's TB1 time in ns. -/
  | openWireSlot (dt : Nat) (t : Nat)
  /-- OW_DEFERRED (R221). -/
  | owDeferred (dt : Nat)
  /-- OPEN_WIRE_RESULT (R222): per position, each cell's value without and with the test current in 100 µV, and V_SUP in 10
  mV. -/
  | openWireResult (dt : Nat) (rs : List (Nat × List (Nat × Nat) × Nat))
  /-- AUTH_RESPONSE (R225): the position, its serial and MAC. -/
  | authResponse (dt : Nat) (p : Nat) (serial : Nat) (mac : List Byte)
  /-- AUTH_TIMEOUT (R224): the position. -/
  | authTimeout (dt : Nat) (p : Nat)
  /-- CONFIRM (R226): the position and the low 16 bits of its serial. -/
  | confirm (dt : Nat) (p : Nat) (s16 : Nat)
  /-- RETIRE (R227): `who` the session, `p` the position. -/
  | retire (dt : Nat) (who : Nat) (p : Nat)
  /-- BURST (R228): the positions and the start time on TB1 in ns. -/
  | burst (dt : Nat) (poss : List Nat) (t : Nat)
  /-- BURST_DATA (R241): the position, the samples (ns from the burst's start, the 16 cells in 100 µV) and the string
  current at each, in mA. -/
  | burstData (dt : Nat) (p : Nat) (cells : List (Nat × List Nat)) (cur : List Int)
  /-- LIMIT_EXCEEDED (R254): `i` in mA, `held` µs beyond the published limit. -/
  | limitExceeded (dt : Nat) (i : Int) (held : Nat)
  /-- JOURNAL_PERIOD (R261). -/
  | journalPeriod (dt : Nat)
  /-- CELL_CAP_WRITE (R259): `who` the session, cell `n`, its capacity in mC. -/
  | cellCapWrite (dt : Nat) (who : Nat) (n : Nat) (cap : Nat)
  /-- PLAN_CYCLE (R272). -/
  | planCycle (dt : Nat)
  /-- SH_ACK (R279): the ring and the end at which the frame arrives, the position it is expected from, the frame. -/
  | shAck (dt : Nat) (ring : Nat) (endB : Bool) (p : Nat) (f : List Byte)
  /-- SH_STOPPED (R276): the end at which the frame arrives, the position it is expected from, the frame. -/
  | shStopped (dt : Nat) (endB : Bool) (p : Nat) (f : List Byte)
  /-- SH_REPORT (R276): the end at which the frame arrives, the position it is expected from, the frame. -/
  | shReport (dt : Nat) (endB : Bool) (p : Nat) (f : List Byte)
  /-- SH_REPORT_READ (R276): the position. -/
  | shReportRead (dt : Nat) (p : Nat)
  /-- ORDER_ACK_TIMEOUT (R279): the transfer. -/
  | orderAckTimeout (dt : Nat) (tid : Nat)
  /-- SHUTTLE_DISABLE (R280): `who` the session. -/
  | shuttleDisable (dt : Nat) (who : Nat)
  /-- SPREAD_HIGH (R283). -/
  | spreadHigh (dt : Nat)
  /-- THERM_GROUP_EVAL (R286). -/
  | thermGroupEval (dt : Nat)
  /-- THERM_MODULE_EVAL (R295): S0 to S5 in 0.1 °C, none where not updated for 50 ms. -/
  | thermModuleEval (dt : Nat) (ts : List (Option Int))
  /-- COIL_R_UPDATE (R296): coil `k`, its mean hold current in mA. -/
  | coilRUpdate (dt : Nat) (k : Nat) (i : Nat)
  /-- AON_THERMAL_CHECK (R294): S0 and S4 in 0.1 °C. -/
  | aonThermalCheck (dt : Nat) (s0 : Int) (s4 : Int)
  /-- SI_LEVEL_CHANGE (R302): the channels with the level that they show and in how many consecutive samples; 12 and 13 are
  SRST_A and SRST_B. -/
  | siLevelChange (dt : Nat) (chs : List (Nat × Bool × Nat))
  /-- TPS_WINDOW_END (R304): the test source and what each channel showed. -/
  | tpsWindowEnd (dt : Nat) (src : Nat) (rs : List Machine.TpsRead)
  /-- SI_DISCREPANCY (R308): the pair. -/
  | siDiscrepancy (dt : Nat) (n : Nat)
  /-- SI_FIRST_EVALUATION (R306). -/
  | siFirstEvaluation (dt : Nat)
  /-- EDGE_RESET (R312). -/
  | edgeReset (dt : Nat)
  /-- SRST_BLOCK (R310). -/
  | srstBlock (dt : Nat)
  /-- SRST_FAULT (R310). -/
  | srstFault (dt : Nat)
  /-- SO_TEST_PULSE (R314): the output. -/
  | soTestPulse (dt : Nat) (n : Nat)
  /-- SO_READBACK_VIOLATION (R315): the output, where the reading lies (0 outside a pulse, 1 the last of a pulse, 2 after
  one), consecutive equal readings, the pin in 10 mV. -/
  | soReadbackViolation (dt : Nat) (n : Nat) (place : Nat) (run : Nat) (v : Nat)
  /-- SO_TEST_NOW (R314). -/
  | soTestNow (dt : Nat)
  /-- COIL_LS_TEST (R317): the coil, whether LS rose and fell in time. -/
  | coilLsTest (dt : Nat) (k : Nat) (high : Bool) (low : Bool)
  /-- TPS_FAULT (R338): the source, whether out of tolerance, for `held` µs. -/
  | tpsFault (dt : Nat) (src : Nat) (bad : Bool) (held : Nat)
  /-- PSF_STATUS_LAUNCH (R325): `t` the frame's instant on TB1 in ns. -/
  | psfStatusLaunch (dt : Nat) (t : Nat)
  /-- PSF_COMMAND (R326): the port and the Ethernet frame. -/
  | psfCommand (dt : Nat) (port : Nat) (frame : List Byte)
  /-- SKEW_WINDOW_CLOSE (R326). -/
  | skewWindowClose (dt : Nat)
  /-- PSF_WATCHDOG_EXPIRY (R328). -/
  | psfWatchdogExpiry (dt : Nat)
  /-- WATCHDOG_START (R330). -/
  | watchdogStart (dt : Nat)
  /-- PSF_SINGLE_NET (R327): the port that delivers nothing. -/
  | psfSingleNet (dt : Nat) (port : Nat)
  /-- PSF_SINGLE_EXPIRED (R327). -/
  | psfSingleExpired (dt : Nat)
  /-- NET_RESTORED (R327). -/
  | netRestored (dt : Nat)
  /-- PCV_CONFIRM (R333): the word written. -/
  | pcvConfirm (dt : Nat) (v : Nat)
  /-- PCV_RECOMPUTE (R332). -/
  | pcvRecompute (dt : Nat)
  /-- EVENT_HOLD_EXPIRY (R340): the source. -/
  | eventHoldExpiry (dt : Nat) (src : Nat)
  /-- ERR_RELEASE (R346). -/
  | errRelease (dt : Nat)
  /-- ERR_N_RELEASE (R346). -/
  | errNRelease (dt : Nat)
  /-- FF_ACK (R350): the sequence written. -/
  | ffAck (dt : Nat) (v : Nat)
  /-- HOST_RAISE (R365): the source, CODE and DATA0. -/
  | hostRaise (dt : Nat) (src : Nat) (code : Nat) (d0 : Nat)
  /-- REACT_WRITE (R342): `who` the session, source `n`, which of its words, the value. -/
  | reactWrite (dt : Nat) (who : Nat) (n : Nat) (high : Bool) (v : Nat)
  /-- LOG_COMMIT (R356). -/
  | logCommit (dt : Nat)
  /-- LOG_LOOKUP (R357): the session and the sequence. -/
  | logLookup (dt : Nat) (who : Nat) (v : Nat)
  /-- ANCHOR_TB0 (R358): the TB0 time written, ns. -/
  | anchorTb0 (dt : Nat) (v : Nat)
  /-- EVENT_PUSH (R359). -/
  | eventPush (dt : Nat)
  /-- TB0_ADDEND_WRITE (R368): the session and the addend. -/
  | tb0AddendWrite (dt : Nat) (who : Nat) (v : Nat)
  /-- TB1_ADDEND_WRITE (R368): the session and the addend. -/
  | tb1AddendWrite (dt : Nat) (who : Nat) (v : Nat)
  /-- TB0_STEP (R370): the session and the step, an s32 as its raw bits. -/
  | tb0Step (dt : Nat) (who : Nat) (v : Nat)
  /-- TB0_WRAP (R366). -/
  | tb0Wrap (dt : Nat)
  /-- PTP_RX (R375): the port, the frame, TB0 at its timestamp point. -/
  | ptpRx (dt : Nat) (p : Nat) (frame : List Byte) (ns : Nat) (frac : Nat)
  /-- PTPRX_POP (R375): the port. -/
  | ptprxPop (dt : Nat) (p : Nat)
  /-- LQ_PUSH (R378): the session, the port, the control word. -/
  | lqPush (dt : Nat) (who : Nat) (p : Nat) (w : Nat)
  /-- LQ_CANCEL (R384): the port and the tag. -/
  | lqCancel (dt : Nat) (p : Nat) (tag : Nat)
  /-- TXTS_POP (R383): the port. -/
  | txtsPop (dt : Nat) (p : Nat)
  /-- LAUNCH_ARM (R380): the port. -/
  | launchArm (dt : Nat) (p : Nat)
  /-- ENTRY_LAUNCH (R380): the port, TB0 at the timestamp point. -/
  | entryLaunch (dt : Nat) (p : Nat) (ns : Nat) (frac : Nat)
  /-- LAUNCH_MISSED (R381): the port. -/
  | launchMissed (dt : Nat) (p : Nat)
  /-- TP_GO (R386): the session and the generator. -/
  | tpGo (dt : Nat) (who : Nat) (g : Nat)
  /-- TP_STOP (R386): the session and the generator. -/
  | tpStop (dt : Nat) (who : Nat) (g : Nat)
  /-- TP_EDGE (R386): the generator. -/
  | tpEdge (dt : Nat) (g : Nat)
  /-- TIN_EDGE (R389): the edge, and the pulse's width in ns. -/
  | tinEdge (dt : Nat) (falling : Bool) (width : Nat)
  /-- TIN_POP (R389). -/
  | tinPop (dt : Nat)
  /-- LINK_UP (R394): the port, the partner's abilities, the PHY's report. -/
  | linkUp (dt : Nat) (p : Nat) (g25 : Bool) (g1 : Bool) (mdix : Bool) (pause : Bool) (snr : Nat) (cable : Nat)
  /-- LINK_LOSS (R398): the port. -/
  | linkLoss (dt : Nat) (p : Nat)
  /-- LINK_GRACE_END (R398): the port. -/
  | linkGraceEnd (dt : Nat) (p : Nat)
  /-- PORT_RESTART (R398): the port. -/
  | portRestart (dt : Nat) (p : Nat)
  /-- PAUSE_RX (R396): the port and the quanta. -/
  | pauseRx (dt : Nat) (p : Nat) (quanta : Nat)
  /-- PAUSE_REPEAT (R396): the port and its receive fill in bytes. -/
  | pauseRepeat (dt : Nat) (p : Nat) (fill : Nat)
  /-- FRAME_DISCARD (R395): the port, the frame, whether its FCS holds, the bytes that its share of the buffer holds. -/
  | frameDiscard (dt : Nat) (p : Nat) (frame : List Byte) (fcsOk : Bool) (fill : Nat)
  /-- DESC_SCRUB (R399): the port, the descriptors found uncorrectable with the place of the entry each held. -/
  | descScrub (dt : Nat) (p : Nat) (bad : List (Option Nat))
  /-- REPLAY (R404): the lane. -/
  | replay (dt : Nat) (k : Nat)
  /-- TWIN_LANE_FAIL (R404): the lane, whether its symbol lock is lost. -/
  | twinLaneFail (dt : Nat) (k : Nat) (lockLost : Bool)
  /-- LANE_RETRAIN (R404): the lane, whether symbol lock returned. -/
  | laneRetrain (dt : Nat) (k : Nat) (lock : Bool)
  /-- LANE_RESTORE (R404): the lane. -/
  | laneRestore (dt : Nat) (k : Nat)
  /-- HEARTBEAT_SEND (R406). -/
  | heartbeatSend (dt : Nat)
  /-- HEARTBEAT (R406): the packet's header and its 32 bytes. -/
  | heartbeat (dt : Nat) (hdr : Machine.TwHdr) (bytes : List Byte)
  /-- FIREFLY_SEND (R407). -/
  | fireflySend (dt : Nat)
  /-- FIREFLY_CODE (R407): the 8 bits and the start pulse in ns. -/
  | fireflyCode (dt : Nat) (code : Nat) (pulse : Nat)
  /-- PATH_LOST (R408): 0 the Twin Link, 1 the firefly line. -/
  | pathLost (dt : Nat) (path : Nat)
  /-- PARTNER_SEEN_EXPIRY (R410). -/
  | partnerSeenExpiry (dt : Nat)
  /-- WARM_BOOT_SUSPEND_END (R408). -/
  | warmBootSuspendEnd (dt : Nat)
  /-- MIRROR (R412): the packet's header and content. -/
  | mirror (dt : Nat) (hdr : Machine.TwHdr) (m : Machine.Mirror)
  /-- REG_RECEIVE (R415): the packet's header and content. -/
  | regReceive (dt : Nat) (hdr : Machine.TwHdr) (r : Machine.RegPkt)
  /-- BOOT_LISTEN_END (R416). -/
  | bootListenEnd (dt : Nat)
  /-- TAKEOVER (R418). -/
  | takeover (dt : Nat)
  /-- TAKEOVER_HOLD_END (R421). -/
  | takeoverHoldEnd (dt : Nat)
  /-- ORPHAN_YIELD (R419). -/
  | orphanYield (dt : Nat)
  /-- ORPHAN_RESUME (R419). -/
  | orphanResume (dt : Nat)
  /-- HANDOVER (R423). -/
  | handover (dt : Nat)
  /-- HANDOVER_ABORT (R423). -/
  | handoverAbort (dt : Nat)
  /-- HANDOVER_REQUEST (R465). -/
  | handoverRequest (dt : Nat)
  /-- PARTNER_TB0_ADDEND (R411): the session and the addend. -/
  | partnerTb0Addend (dt : Nat) (who : Nat) (v : Nat)
  /-- PARTNER_TB0_STEP (R411): the session and the step, an s32 as its raw bits. -/
  | partnerTb0Step (dt : Nat) (who : Nat) (v : Nat)
  /-- POLL_DUE (R430): the entry. -/
  | pollDue (dt : Nat) (n : Nat)
  /-- RACK_TRANSACTION_END (R432): 1 a NACK of the address, 2 of data, 0 none; the bytes read. -/
  | rackTransactionEnd (dt : Nat) (nack : Nat) (bytes : List Byte)
  /-- ARBITRATION_LOSS (R435). -/
  | arbitrationLoss (dt : Nat)
  /-- BACKOFF_END (R435). -/
  | backoffEnd (dt : Nat)
  /-- ALERT_SERVICE (R437): arbitration losses of the ARA read, the responding target's bytes, whether RB_ALERT_N stays low. -/
  | alertService (dt : Nat) (losses : Nat) (resp : Option (List Byte)) (still : Bool)
  /-- ALERT_PAUSE_END (R437): how long RB_ALERT_N has been high, ms. -/
  | alertPauseEnd (dt : Nat) (highMs : Nat)
  /-- SCL_TIMEOUT (R438). -/
  | sclTimeout (dt : Nat)
  /-- BUS_RECOVERY (R439): SDA, and whether the pulses released it. -/
  | busRecovery (dt : Nat) (sdaLow : Bool) (released : Bool)
  /-- RECOVERY_HOLD_END (R439): whether the pulses released SDA. -/
  | recoveryHoldEnd (dt : Nat) (released : Bool)
  /-- BUS_RETRY (R439): whether the pulses released SDA. -/
  | busRetry (dt : Nat) (released : Bool)
  /-- RACK_DISABLE (R441): `who` the session. -/
  | rackDisable (dt : Nat) (who : Nat)
  /-- STREAM_BEGIN (R457). -/
  | streamBegin (dt : Nat)
  /-- STREAM_ABORT (R457). -/
  | streamAbort (dt : Nat)
  /-- ACTIVATE (R460): ARG: the running bank again, hand over, COLD. -/
  | activate (dt : Nat) (same : Bool) (handover : Bool) (cold : Bool)
  /-- ACTIVATION_TIMEOUT (R460). -/
  | activationTimeout (dt : Nat)
  /-- PARAM_ADOPT (R454). -/
  | paramAdopt (dt : Nat)
  /-- SEAL (R469). -/
  | seal (dt : Nat)
  /-- SVC_REQUEST (R469): the session. -/
  | svcRequest (dt : Nat) (who : Nat)
  /-- SVC_RESP (R469): the session and the four words. -/
  | svcResp (dt : Nat) (who : Nat) (ws : List Nat)
  /-- SVC_RESPONSE_TIMEOUT (R469). -/
  | svcResponseTimeout (dt : Nat)
  /-- SVC_BLOCK_END (R469). -/
  | svcBlockEnd (dt : Nat)
  /-- SVC_END (R470): the session. -/
  | svcEnd (dt : Nat) (who : Nat)
  /-- SVC_TIMEOUT (R470). -/
  | svcTimeout (dt : Nat)
  /-- IP_RELEASE (R470). -/
  | ipRelease (dt : Nat)
  /-- KEY_WRITE (R467): the session, 4 the inspection port. -/
  | keyWrite (dt : Nat) (who : Nat)
  /-- KEY_ERASE (R467): the session, 4 the inspection port. -/
  | keyErase (dt : Nat) (who : Nat)
  /-- RAISE_MIN_VERSION (R448). -/
  | raiseMinVersion (dt : Nat)
  /-- IP_READ (R471): a byte address. -/
  | ipRead (dt : Nat) (addr : Nat)
  /-- IP_WRITE (R471): a byte address and the word. -/
  | ipWrite (dt : Nat) (addr : Nat) (value : Nat)
  /-- TRACE_READ (R471): `n` the word's number. -/
  | traceRead (dt : Nat) (n : Nat)
  /-- SCAN_ACCESS (R471). -/
  | scanAccess (dt : Nat)
  /-- NV_SCRUB (R445): the line; 0 no error, 1 one corrected, 2 one not correctable, 3 the end of a pass. -/
  | nvScrub (dt : Nat) (line : Nat) (res : Nat)
  /-- PARAM_COMMIT_TIMER (R451). -/
  | paramCommitTimer (dt : Nat)
  /-- VCOIL_RESTORED (R70): `v` VCOIL in 10 mV. -/
  | vcoilRestored (dt : Nat) (v : Nat)
  /-- HOLD_RECHARGED (R75). -/
  | holdRecharged (dt : Nat)
  /-- SAMP_CLK_LOSS (R91). -/
  | sampClkLoss (dt : Nat)
  /-- TRIP_CLK_RESTORED (R491). -/
  | tripClkRestored (dt : Nat)
  /-- CURRENT_INPUT_RESTORED (R158): `k` 0 the shunt, 1 Hall. -/
  | currentInputRestored (dt : Nat) (k : Nat)
  /-- PORT_CHIRP_RESTORED (R198): `port` the physical ring end port. -/
  | portChirpRestored (dt : Nat) (port : Nat)
  /-- PARTNER_BEACON (R410): the physical ring end port. -/
  | partnerBeacon (dt : Nat) (port : Nat)
  /-- COIL_PWM_PERIOD (R317): the coil, whether HS passed its off and on checks. -/
  | coilPwmPeriod (dt : Nat) (k : Nat) (low : Bool) (high : Bool)
  /-- IP_ENABLE (R471). -/
  | ipEnable (dt : Nat)
  /-- RACK_BUS_IDLE (R429). -/
  | rackBusIdle (dt : Nat)
deriving DecidableEq, Repr

end Sys2Proof
end

