-- ==== Sys2Proof/WellFormed.lean ====
section
/-! DEFINITION. Commands whose operands lie in the ranges the spec gives them: two ports, four sessions, 40 positions, words of 32
bits, Ethernet frames up to 1,518 bytes with their FCS. -/

namespace Sys2Proof

/-- A plant port: 0 A, 1 B. -/
def isPort (p : Nat) : Bool := decide (p < 2)
/-- A GRA session (R110). -/
def isSession (n : Nat) : Bool := decide (n < 4)
/-- A register page (R95). -/
def isPage (n : Nat) : Bool := decide (n < 17)
/-- A register word (R95). -/
def isWord (w : Nat) : Bool := decide (w < 2 ^ 32)
/-- Words of a write. -/
def isWords (ws : List Nat) : Bool := ws.all isWord
/-- A number of 16 bits. -/
def isHalf (w : Nat) : Bool := decide (w < 2 ^ 16)
/-- An Ethernet frame without its FCS. -/
def isFrame (f : List Byte) : Bool := decide (f.length ≤ 1518)
/-- A coil, contactor or trip lane. -/
def isCoil (k : Nat) : Bool := decide (k < 3)
/-- A CMU's position (R191). -/
def isPosition (p : Nat) : Bool := decide (p < 40)
/-- A ring of the cell chain. -/
def isRing (r : Nat) : Bool := decide (r < 2)
/-- A ring end port by its number (R192). -/
def isRingPort (p : Nat) : Bool := decide (1 ≤ p) && decide (p ≤ 4)

/-- Every operand lies in its range. -/
def Instr.wf : Instr → Bool
  | .coldBoot _ _ => true
  | .bootRestart _ _ => true
  | .bootEnd _ _ => true
  | .capMeasureStart _ => true
  | .capMeasureComplete _ => true
  | .capRemeasure _ => true
  | .holdChargeFail _ _ _ => true
  | .undervoltageDetection _ _ => true
  | .undervoltageRelease _ _ => true
  | .rideThroughExpiry _ => true
  | .offEntry _ => true
  | .holdExhaustion _ => true
  | .powerCycle _ => true
  | .vinHigh _ _ _ => true
  | .vcoilLoss _ _ => true
  | .railFault _ => true
  | .nvCommitStart _ _ => true
  | .nvCommitComplete _ _ => true
  | .commitAbandoned _ _ => true
  | .refLoss _ => true
  | .pllcUnlock _ => true
  | .pllnUnlock _ => true
  | .refCompUpdate _ _ => true
  | .warmBoot _ => true
  | .resume _ _ => true
  | .graRead _ port frame => isPort port && isFrame frame
  | .graWrite _ port frame => isPort port && isFrame frame
  | .graRmw _ port frame => isPort port && isFrame frame
  | .graSnap _ port frame => isPort port && isFrame frame
  | .graHello _ port frame => isPort port && isFrame frame
  | .graCacheExpiry _ session => isSession session
  | .ctlSnap _ who page => isSession who && isPage page
  | .pageLock _ who page key => isSession who && isPage page && isWord key
  | .registerWrite _ who addr value => isSession who && isWord addr && isWord value
  | .stagingWrite _ off ws => decide (off < 2 ^ 20) && isWords ws
  | .connect _ => true
  | .disconnect _ => true
  | .enterMaint _ => true
  | .exitMaint _ => true
  | .commission _ => true
  | .weldTest _ => true
  | .coilTest _ arg => decide (arg < 8)
  | .coilTestEnd _ => true
  | .ackInspect _ arg => decide (arg < 8)
  | .feedbackClosed _ _ _ _ => true
  | .feedbackCloseTimeout _ => true
  | .feedbackOpened _ _ _ _ => true
  | .feedbackOpenTimeout _ => true
  | .feedbackLost _ _ _ _ => true
  | .ssbTestEnd _ _ _ _ _ _ _ => true
  | .staggerEnd _ => true
  | .prechargeHoldComplete _ _ _ _ => true
  | .pcTimeout _ _ => true
  | .pcOvercurrent _ _ _ _ _ => true
  | .pcCoolEnd _ => true
  | .pickEnd _ k _ => isCoil k
  | .holdCurrentFault _ k _ _ => isCoil k
  | .zeroCurrentConfirmed _ _ _ _ _ => true
  | .disconnectConfirmTimeout _ _ _ _ => true
  | .weldPulseEnd _ _ _ _ _ _ _ _ _ => true
  | .weldRetry _ => true
  | .weldWindowEnd _ => true
  | .tCtrlExpiry _ => true
  | .zeroCurrentReached _ _ => true
  | .partnerRideExpiry _ => true
  | .sampleInstant _ _ _ v _ _ => v.length == 6
  | .autoInstant _ => true
  | .islandLinkLoss _ => true
  | .islandLinkRestored _ => true
  | .islandLimitLatch _ k _ _ => decide (k < 6)
  | .openPathZero _ _ _ => true
  | .shuntFault _ _ _ _ => true
  | .hallFault _ _ _ _ => true
  | .shuntHallMismatch _ _ _ _ => true
  | .shuntHallMatchRestored _ _ _ _ => true
  | .midMismatch _ v _ => v.length == 6
  | .overcurrent _ _ _ => true
  | .didt _ _ _ => true
  | .stringOv _ _ _ => true
  | .stringUv _ _ _ => true
  | .busOv _ _ _ => true
  | .imdListenEnd _ _ => true
  | .imdCycleComplete _ _ _ _ _ _ _ => true
  | .ntcRead _ _ _ => true
  | .latchSet _ lane _ => isCoil lane
  | .laneTest _ _ _ _ _ => true
  | .tripClkLoss _ _ => true
  | .bkFbMismatch _ k _ _ => decide (k < 2)
  | .captureManual _ => true
  | .captureFreeze _ => true
  | .captureStored _ => true
  | .portSilent _ port => isRingPort port
  | .breakNotice _ ring _ _ => isRing ring
  | .toneReceived _ p flags => isPosition p && decide (flags < 8)
  | .enumerate _ => true
  | .enumComplete _ _ _ _ => true
  | .echoRecheck _ _ => true
  | .beacon _ => true
  | .syncEdge _ => true
  | .syncLoss _ => true
  | .sampleAt _ => true
  | .sweepData _ _ p _ _ => isPosition p
  | .copyOverdue _ _ p => isPosition p
  | .retryExhausted _ p => isPosition p
  | .sweepClose _ => true
  | .rawReceive _ _ => true
  | .ringRepair _ ring _ => isRing ring
  | .openWireSlot _ t => isWord t
  | .owDeferred _ => true
  | .openWireResult _ _ => true
  | .authResponse _ p _ _ => isPosition p
  | .authTimeout _ p => isPosition p
  | .confirm _ p s16 => isPosition p && isHalf s16
  | .retire _ who p => isSession who && isPosition p
  | .burst _ poss t => poss.all isPosition && isWord t
  | .burstData _ p _ _ => isPosition p
  | .limitExceeded _ _ _ => true
  | .journalPeriod _ => true
  | .cellCapWrite _ who n cap => isSession who && decide (n < 576) && isWord cap
  | .planCycle _ => true
  | .shAck _ _ _ p _ => isPosition p
  | .shStopped _ _ p _ => isPosition p
  | .shReport _ _ p _ => isPosition p
  | .shReportRead _ p => isPosition p
  | .orderAckTimeout _ _ => true
  | .shuttleDisable _ who => isSession who
  | .spreadHigh _ => true
  | .thermGroupEval _ => true
  | .thermModuleEval _ ts => ts.length == 6
  | .coilRUpdate _ k _ => isCoil k
  | .aonThermalCheck _ _ _ => true
  | .siLevelChange _ chs => chs.all (fun c => decide (c.1 < 14))
  | .tpsWindowEnd _ src _ => decide (src < 2)
  | .siDiscrepancy _ n => decide (n < 6)
  | .siFirstEvaluation _ => true
  | .edgeReset _ => true
  | .srstBlock _ => true
  | .srstFault _ => true
  | .soTestPulse _ n => decide (n < 8)
  | .soReadbackViolation _ n _ _ _ => decide (n < 8)
  | .soTestNow _ => true
  | .coilLsTest _ k _ _ => isCoil k
  | .tpsFault _ src _ _ => decide (src < 2)
  | .psfStatusLaunch _ t => isWord t
  | .psfCommand _ port frame => isPort port && isFrame frame
  | .skewWindowClose _ => true
  | .psfWatchdogExpiry _ => true
  | .watchdogStart _ => true
  | .psfSingleNet _ port => isPort port
  | .psfSingleExpired _ => true
  | .netRestored _ => true
  | .pcvConfirm _ v => isWord v
  | .pcvRecompute _ => true
  | .eventHoldExpiry _ src => decide (src < 256)
  | .errRelease _ => true
  | .errNRelease _ => true
  | .ffAck _ v => isWord v
  | .hostRaise _ src code d0 => decide (src < 256) && isHalf code && isWord d0
  | .reactWrite _ who n _ v => isSession who && decide (n < 256) && isWord v
  | .logCommit _ => true
  | .logLookup _ who v => isSession who && isWord v
  | .anchorTb0 _ v => isWord v
  | .eventPush _ => true
  | .tb0AddendWrite _ who v => isSession who && isWord v
  | .tb1AddendWrite _ who v => isSession who && isWord v
  | .tb0Step _ who v => isSession who && isWord v
  | .tb0Wrap _ => true
  | .ptpRx _ p frame ns frac => isPort p && isFrame frame && isWord ns && decide (frac < 2 ^ 24)
  | .ptprxPop _ p => isPort p
  | .lqPush _ who p w => isSession who && isPort p && isWord w
  | .lqCancel _ p tag => isPort p && isHalf tag
  | .txtsPop _ p => isPort p
  | .launchArm _ p => isPort p
  | .entryLaunch _ p ns frac => isPort p && isWord ns && decide (frac < 2 ^ 24)
  | .launchMissed _ p => isPort p
  | .tpGo _ who g => isSession who && decide (g < 2)
  | .tpStop _ who g => isSession who && decide (g < 2)
  | .tpEdge _ g => decide (g < 2)
  | .tinEdge _ _ _ => true
  | .tinPop _ => true
  | .linkUp _ p _ _ _ _ _ _ => isPort p
  | .linkLoss _ p => isPort p
  | .linkGraceEnd _ p => isPort p
  | .portRestart _ p => isPort p
  | .pauseRx _ p quanta => isPort p && isHalf quanta
  | .pauseRepeat _ p _ => isPort p
  | .frameDiscard _ p frame _ _ => isPort p && isFrame frame
  | .descScrub _ p _ => isPort p
  | .replay _ k => decide (k < 2)
  | .twinLaneFail _ k _ => decide (k < 2)
  | .laneRetrain _ k _ => decide (k < 2)
  | .laneRestore _ k => decide (k < 2)
  | .heartbeatSend _ => true
  | .heartbeat _ hdr bytes => decide (hdr.lane < 2) && bytes.length == 32
  | .fireflySend _ => true
  | .fireflyCode _ code _ => decide (code < 256)
  | .pathLost _ path => decide (path < 2)
  | .partnerSeenExpiry _ => true
  | .warmBootSuspendEnd _ => true
  | .mirror _ hdr _ => decide (hdr.lane < 2)
  | .regReceive _ hdr _ => decide (hdr.lane < 2)
  | .bootListenEnd _ => true
  | .takeover _ => true
  | .takeoverHoldEnd _ => true
  | .orphanYield _ => true
  | .orphanResume _ => true
  | .handover _ => true
  | .handoverAbort _ => true
  | .handoverRequest _ => true
  | .partnerTb0Addend _ who v => isSession who && isWord v
  | .partnerTb0Step _ who v => isSession who && isWord v
  | .pollDue _ n => decide (n < 32)
  | .rackTransactionEnd _ _ _ => true
  | .arbitrationLoss _ => true
  | .backoffEnd _ => true
  | .alertService _ _ _ _ => true
  | .alertPauseEnd _ _ => true
  | .sclTimeout _ => true
  | .busRecovery _ _ _ => true
  | .recoveryHoldEnd _ _ => true
  | .busRetry _ _ => true
  | .rackDisable _ who => isSession who
  | .streamBegin _ => true
  | .streamAbort _ => true
  | .activate _ _ _ _ => true
  | .activationTimeout _ => true
  | .paramAdopt _ => true
  | .seal _ => true
  | .svcRequest _ who => isSession who
  | .svcResp _ who ws => isSession who && isWords ws && ws.length == 4
  | .svcResponseTimeout _ => true
  | .svcBlockEnd _ => true
  | .svcEnd _ who => isSession who
  | .svcTimeout _ => true
  | .ipRelease _ => true
  | .keyWrite _ who => decide (who < 5)
  | .keyErase _ who => decide (who < 5)
  | .raiseMinVersion _ => true
  | .ipRead _ addr => isWord addr
  | .ipWrite _ addr value => isWord addr && isWord value
  | .traceRead _ _ => true
  | .scanAccess _ => true
  | .nvScrub _ line res => decide (line < 2 ^ 17) && decide (res < 4)
  | .paramCommitTimer _ => true
  | .vcoilRestored _ _ => true
  | .holdRecharged _ => true
  | .sampClkLoss _ => true
  | .tripClkRestored _ => true
  | .currentInputRestored _ k => decide (k < 2)
  | .portChirpRestored _ port => isRingPort port
  | .partnerBeacon _ port => isRingPort port
  | .coilPwmPeriod _ k _ _ => isCoil k
  | .ipEnable _ => true
  | .rackBusIdle _ => true

end Sys2Proof
end

