-- ==== Sys2Proof/Machine/Ecdsa.lean ====
section
/-! DEFINITION. ECDSA over the curve P-256 (FIPS 186-5; R11, R447, R448): the verification of a signature. -/

namespace Sys2Proof.Machine

/-- The field's prime, the group's order and the constant b of P-256; its other constant is -3. -/
def p256P : Nat := 0xffffffff00000001000000000000000000000000ffffffffffffffffffffffff
def p256N : Nat := 0xffffffff00000000ffffffffffffffffbce6faada7179e84f3b9cac2fc632551
def p256B : Nat := 0x5ac635d8aa3a93e7b3ebbd55769886bc651d06b0cc53b0f63bce3c3e27d2604b

/-- A point in Jacobian coordinates; a third coordinate of 0 is the point at infinity. -/
structure EcPoint where
  x : Nat
  y : Nat
  z : Nat
deriving DecidableEq, Repr

/-- The base point. -/
def p256G : EcPoint :=
  ⟨0x6b17d1f2e12c4247f8bce6e563a440f277037d812deb33a0f4a13945d898c296,
   0x4fe342e2fe1a7f9b8ee7eb4a7c0f9e162bce33576b315ececbb6406837bf51f5, 1⟩

/-- Differences in the field. -/
def ecSub (a b : Nat) : Nat := (a + (p256P - b % p256P)) % p256P

/-- A power modulo `m`, by the exponent's lowest `k` bits. -/
def powMod (m : Nat) : Nat → Nat → Nat → Nat
  | 0, _, _ => 1 % m
  | k + 1, a, n =>
    let h := powMod m k a (n / 2)
    if n % 2 = 1 then h * h % m * a % m else h * h % m

/-- Twice a point. -/
def ecDouble (q : EcPoint) : EcPoint :=
  let zz := q.z * q.z % p256P
  let yy := q.y * q.y % p256P
  let s := 4 * q.x * yy % p256P
  let m := 3 * (ecSub q.x zz * (q.x + zz)) % p256P
  let x := ecSub (m * m % p256P) (2 * s)
  ⟨x, ecSub (m * ecSub s x % p256P) (8 * (yy * yy) % p256P), 2 * q.y * q.z % p256P⟩

/-- The sum of two points. -/
def ecAdd (q r : EcPoint) : EcPoint :=
  if q.z = 0 then r else if r.z = 0 then q else
  let qq := q.z * q.z % p256P
  let rr := r.z * r.z % p256P
  let u := q.x * rr % p256P
  let s := q.y * rr % p256P * r.z % p256P
  let h := ecSub (r.x * qq % p256P) u
  let d := ecSub (r.y * qq % p256P * q.z % p256P) s
  if h = 0 then (if d = 0 then ecDouble q else ⟨1, 1, 0⟩) else
  let hh := h * h % p256P
  let hhh := hh * h % p256P
  let v := u * hh % p256P
  let x := ecSub (ecSub (d * d % p256P) hhh) (2 * v)
  ⟨x, ecSub (d * ecSub v x % p256P) (s * hhh % p256P), h * q.z % p256P * r.z % p256P⟩

/-- A multiple of a point, by the factor's lowest `k` bits. -/
def ecMul (q : EcPoint) : Nat → Nat → EcPoint
  | 0, _ => ⟨1, 1, 0⟩
  | k + 1, n =>
    let d := ecDouble (ecMul q k (n / 2))
    if n % 2 = 1 then ecAdd d q else d

/-- The affine first coordinate of a point that is not at infinity. -/
def ecAffineX (q : EcPoint) : Nat := q.x * powMod p256P 256 (q.z * q.z % p256P) (p256P - 2) % p256P

/-- Whether coordinates name a point of the curve. -/
def ecOnCurve (x y : Nat) : Bool :=
  decide (x < p256P) && decide (y < p256P) && y * y % p256P == (x * x % p256P * x + (p256P - 3) * x + p256B) % p256P

/-- The verdict on a signature over a hash (R448): the public key is x then y, the signature r then s. DEDUCED: each is a little-endian
number of 32 bytes, as R447 says of multi-byte fields (notes/assumptions/124.md). -/
def ecdsaOk (key hash sig : List Byte) : Bool :=
  let x := leVal (slice key 0 32)
  let y := leVal (slice key 32 32)
  let r := leVal (slice sig 0 32)
  let s := leVal (slice sig 32 32)
  if r = 0 ∨ p256N ≤ r ∨ s = 0 ∨ p256N ≤ s ∨ ¬ ecOnCurve x y then false else
  let w := powMod p256N 256 s (p256N - 2)
  let q := ecAdd (ecMul p256G 256 (beVal hash * w % p256N)) (ecMul ⟨x, y, 1⟩ 256 (r * w % p256N))
  q.z != 0 && ecAffineX q % p256N == r

end Sys2Proof.Machine
end

