-- ==== Sys2Proof/Machine/State.lean ====
section
/-! DEFINITION. State: the settings, the clock, the blocks and the queue of waiting commands; its outcomes' reasons; and
State.reset. -/

namespace Sys2Proof.Machine

/-- Why a step stops with a fault. No meaning of this model raises one: the spec gives every command an effect (or none) in
every state. Safe: it would only make fewer claims provable. -/
inductive Fault where
  /-- Reserved: raised by no command. Safe. -/
  | none
deriving DecidableEq, Repr

/-- Why a command has no meaning. -/
inductive Refusal where
  /-- A command whose meaning is not written yet; raised by its dispatch arm only. Safe. -/
  | notModelled (mnemonic : String)
deriving DecidableEq, Repr

/-- Every block's state. -/
structure Blk where
  sta : RegMap
  mode : Mode
  prev : Mode
  phase : Phase
  role : Role
  twin : Bool
  unlocked : List Nat
  lastStatus : Status
  tx : List Tx
  free : Nat
  watch : Watch
  pwr : Pwr
  seq : Seq
  therm : Therm
  safe : Safe
  psf : Psf
  keep : Keep
  tim : Tim
  hvs : Hvs
  trip : Trip
  chain : Chain
  ledger : Ledger
  shuttle : Shuttle
  tw : Twin
  ports : List PortS
  rack : Rack
  sess : List Sess
deriving DecidableEq, Repr

/-- The machine: settings written by the host (`par`), the time counters, the blocks, the commands waiting, first in, first out, and
the time and the blocks as they stood at the start of the present CORE cycle (R103, R104). -/
structure State where
  par : RegMap
  clk : Clock
  blk : Blk
  pending : List Instr
  start : Clock × Blk
deriving DecidableEq, Repr

/-! ### Reset -/

/-- What a module carries from the factory (R444, files 04 and 14): variant and revision, serial number, MAC addresses, straps as
read, the launch descriptors, and the first epoch. -/
def factoryRegs : RegMap :=
  [(SYS_VARIANT, 1), (SYS_VARIANT_HW_REV, 1), (SYS_SERIAL_LO, 1), (SYS_MAC_A_LO, 0x02), (SYS_MAC_A_HI, 0x0A00),
   (SYS_MAC_B_LO, 0x02), (SYS_MAC_B_HI, 0x0B00), (SYS_STATE_EPOCH, 1), (PORT_DESC_CAPACITY 0, 64),
   (PORT_DESC_CAPACITY 1, 64)].foldl (fun (m : RegMap) p => m.put p.1 p.2) []

/-- A cell of the ledger at reset (R232); the first cold boot gives it its state (R258). -/
def LCell.fresh : LCell :=
  { q := 0, cap := 0, b := 0, capUnk := false, socUnk := false, anchor := 0, anchorAt := none, fullN := 0, emptyN := 0
    cyc := none, pend := false, lost := false, hall := false, prov := 0, z := 0, phase := 0, zAt := none, zCos := 0
    rHeld := none, inQ := 0, outQ := 0 }

/-- A cell's record before its first sweep. -/
def CellRec.none : CellRec :=
  { has := false, v := 0, sweep := 0, t := 0, at_ := 0, fresh := false, stale := false, unsure := false, endWire := false
    via := false, burst := false, ovN := 0, uvN := 0, temp := 0, stepLo := 0, stepHi := 0, vmin := 0xFFFF, vmax := 0
    staleAt := .none }

/-- A position where no CMU has been found. -/
def CmuRec.absent : CmuRec :=
  { index := none, serves := none, state := 0, serial := 0, conf := none, hopA := 0, hopB := 0, errNow := 0, errMax := 0
    errRun := 0, home := 0, vsup := 0, sumDiff := 0, isup := 0, ntc := List.replicate 8 0, ntcAt := List.replicate 8 none, crcA := 0, crcB := 0, retries := 0
    missed := 0, tones := 0, toneFlags := 0, toneAt := 0, wires := 0, passes := [], auth := 0, tries := 0, die := 0, nonce := none
    isupAt := 0 }

/-- The record of position k at reset: the cells of a position of the string are its own (R233). -/
def CmuRec.atReset (k : Nat) : CmuRec := { CmuRec.absent with serves := if k < 36 then some k else none }

/-- An empty GRA session. -/
def Sess.empty : Sess :=
  { ctr := 0, high := none, seen := [], outs := [], cache := [], snaps := [], snapCnt := [], authAt := [], lookup := 0
    capSlot := 0, capBlock := 0, keyBuf := [], lqBuf0 := [], lqBuf1 := [] }

def PortQ.empty : PortQ := { lq := [], txts := [], ptp := [], telemAt := none }
def Tp.idle : Tp := { go := false, high := false, rise := 0, edgeBy := none, begun := false }
def Grp.start : Grp := { st := 0, upW := 0, upT := 0, upS := 0, dn := 0, max := none, step := 0 }
def TwLane.start : TwLane :=
  { txSeq := 65535, rxSeq := 65535, ackAt := 0, unacked := [], used := [], held := [], crcAt := [], okSince := none, failAt := none }
def PortS.down : PortS := { graceBy := none, upAt := none, pauseTill := 0, pausing := false, pauseAt := none, txq := [], busyTill := 0 }

/-- WATCH with nothing recorded. -/
def Watch.start : Watch :=
  { evt := [], evtNew := (0, []), cnt := [], mcnt := [], mff := none, mffValid := false, act := [], exc := [], errOn := false, errArmed := false, errSince := 0
    rrSrc := 0, rrLevel := 0, rrSeq := 0, rrMerge := 0, rrRun := false, rrMap := [], rrEnd := none, cyc := none, ff := none, ffValid := false
    held := [], ingest := [], cache := [], mram := [], nextSeq := 1, ceiling := 0, ceilAsked := false, committed := 0
    dropped := 0, droppedAt := none, logAt := none, bufs := [], caps := [], capNum := 0, push := [], pushSeq := 0
    pushAt := none }

/-- PWR without supply. -/
def Pwr.start : Pwr :=
  { bootAt := 0, holdupAt := 0, rideBy := none, capAt := none, chargeBy := none, boostBy := none, remeasure := false
    holdSup := false, restarts := 0, onBank := (0, 0), stopped := false, rail := false, exhausted := false, cycled := true
    latch := false, latchGroups := 0, running := none, queued := [], waiting := [], pulse := 40 }

def Seq.idle : Seq :=
  { dis := none, confirmBy := none, fbBy := none, await := [], ssbTest := none, stagger := none, pcAt := 0, pcBy := none
    pcDone := false, picks := [], waitPick := [], coolBy := none, tctrl := none, weld := none
    pulseBy := none, pulseEnd := none, coilTest := none, coilTestBy := none, maintFromTripped := false, resetSince := false
    partnerRideBy := none, announce := none }

def Therm.start : Therm :=
  { cell := .start, bus := .start, mod := .start, ownBus := none, partnerBus := none, cool1 := false, relatch := [], bandSet := false
    coils := List.replicate 3 ⟨0, 0, 0, 0, 25⟩, aonDrop := false }

/-- SAFE before its inputs are evaluated: the channels read low. -/
def Safe.start : Safe :=
  { pairs := List.replicate 6 ⟨false, false, false, false, false, none⟩, evalBy := none
    a := ⟨false, none, none, false, 0⟩, b := ⟨false, none, none, false, 0⟩, soHeld := 0, soStuck := 0, testCoil := 0
    pcvBy := none, tps := .off, soLatch := 0, warmDemand := [], win := none, resetAt := none, lsAt := none, tpsBy := [], soBy := [], lsBy := none }

def Psf.start : Psf :=
  { rxSeq := none, rxBytes := [], rxPort := 0, rxAt := 0, skewBy := none, resetSeq := none
    wdBy := none, wdStartBy := none, seenA := none, seenB := none, lostPort := none, singleAt := none, matchAt := none
    lastT := none }

/-- The retained records as the factory leaves them. -/
def Retained.factory : Retained :=
  { regs := [(SYS_STATE_EPOCH, 1), (PORT_DESC_CAPACITY 0, 64), (PORT_DESC_CAPACITY 1, 64)].foldl
      (fun (m : RegMap) p => m.put p.1 p.2) []
    ctrs := [0, 0, 0, 0], siLocks := 0, serials := [], retired := [], bootBank := 0, install := false }

/-- KEEP as the factory leaves it: OPEN, every key slot empty (R468), the image in bank A. -/
def Keep.factory : Keep :=
  { bank0 := .factory, bank1 := .empty, slot0 := none, slot1 := none, ret := .factory, retOld := .factory, retOk := (true, true)
    keys := [], sec := .opened, stream := none, act := none, install := false, bootBank := 0, paramBy := none, nonce := none, svcResp := []
    svcBlockBy := none, svcBy := none, handReq := none, lineFix := [], lineAt := none, badLines := [], spares := 0, scrubAt := none
    scanned := false, retention := none, warmAt := 0, ctrWait := false }

def Tim.start : Tim := { qa := .empty, qb := .empty, tp0 := .idle, tp1 := .idle, tin := [], tinAt := none }

def Hvs.start : Hvs :=
  { qS := 0, qH := 0, ntcA := 0, ntcRead := false, zeroS := false, zeroH := false, sumRun := 0, imdW := 0, imdF := 0, imdWUp := 0, imdFUp := 0
    imdBad := false, shuntOkAt := 0, cal := [], rail := false, zeroAt := none, hallPwr := false }

def Trip.start : Trip :=
  { ns := 0, frac := 0, first := 0, lanes := 0, at_ := none, lastHigh := [false, false, false], next := 0, again := []
    warmDrop := false, level := 0, comp := [false, false, false], gateP := false, gateN := false, confP := false
    confN := false, clears := 0, recent := [] }

def Chain.start : Chain :=
  { count := 0, map := [], cells := List.replicate 576 .none, cmus := (List.range 40).map CmuRec.atReset, flight := [], prevT := none
    base := none, nextId := 0, pred := [], edgeT := none, edgeAt := 0, gaps := [], edgeNo := 0, enum := none, noticeAt := []
    owPlan := none, owSince := 0, owLast := 0, burst := none, retire := [], seqNo := 0, authDue := [], echo := []
    gapFrom := none, wait := [], freeAt := [0, 0], pausedAt := [0, 0, 0, 0], silent := [], beaconAt := none, notices := [], commit := none
    thru := [], faulty := [], captured := [], capFrom := 0 }

def Ledger.start : Ledger :=
  { qc := 0, last := none, diffs := [], cells := List.replicate 576 .fresh, taper := 0, taperQ := none, jrnA := none
    jrnB := none, jrnAt := none, jrnDone := 0, repQ := [], pairs := [], own := none, mlast := none, hold := none
    snap := none, shot := none }

def Shuttle.start : Shuttle :=
  { xfers := [], freeAt := [], reps := [], frames := 0, iF := 0, dir := 1, total := 0, loss := 0, spreadAt := none
    haltPos := [], readAt := [], lostPos := [], planAt := 0, other := [] }

def Twin.start : Twin :=
  { lanes := [.start, .start], hbAt := none, ffAt := none, seenAt := none, unseenAt := none, warmUntil := none
    yieldBy := none, holdBy := none, listenBy := none, heard := none, sameId := false, relSend := none, relFf := false
    relRx := none, relTime := none, sent := none, ho := 0, hoBound := 0, aligned := false, alignOut := 0
    alignIn := 0, rxTb1 := none, mir := none, maxEpoch := 0, skipTill := 0
    hvsSince := none, raised := List.replicate 8 false, totals := List.replicate 8 0, cmpT := none, pcmds := none }

def Rack.start : Rack :=
  { due := List.replicate 32 none, met := List.replicate 32 (0, 0), data := List.replicate 32 [], waiting := [], cur := none
    backBy := none, busy := false, idleAt := 0, alertRuns := [], alertTurn := false, alertSame := 0, pauseBy := none
    check := true, holds := 0, holdBy := none, retryBy := none, once := false }

/-- Every block before power: OFF, with what the factory leaves in the module. -/
def Blk.reset : Blk :=
  { sta := factoryRegs, mode := .transient, prev := .transient, phase := .off, role := .solo, twin := false, unlocked := []
    lastStatus := .ok, tx := [], free := 0, watch := .start, pwr := .start, seq := .idle, therm := .start, safe := .start
    psf := .start, keep := .factory, tim := .start, hvs := .start, trip := .start, chain := .start, ledger := .start
    shuttle := .start, tw := .start, ports := [.down, .down], rack := .start, sess := List.replicate 5 .empty }

/-- The module before its supply is first applied (R72): OFF, settings at their reset values, the counters at 0, no command
waiting. -/
def State.reset : State :=
  { par := [], clk := { now := 0, tb0 := 0, tb1 := 0, tb2 := 0, wrap := 0, away := 0 }, blk := .reset, pending := []
    start := ({ now := 0, tb0 := 0, tb1 := 0, tb2 := 0, wrap := 0, away := 0 }, .reset) }

end Sys2Proof.Machine
end

