-- ==== Sys2Proof/Machine/Ops.lean ====
section
/-! DEFINITION. The named operations every block uses: reading and writing registers, time, the NV commit queue (R39,
R78, R79) and the wrapper that turns an engine's operation into a command's meaning. -/

namespace Sys2Proof.Machine

/-- What an engine reads and never writes: the settings, the clock, and what stood at the start of the CORE cycle. -/
structure Env where
  par : RegMap
  clk : Clock
  start : Clock × Blk
deriving DecidableEq, Repr

/-- A setting's value. -/
def Env.get (e : Env) (f : Fld) : Nat := e.par.get f

/-- A setting's value as the number it stands for. -/
def Env.int (e : Env) (f : Fld) : Int := f.val (e.par.get f)

/-- The present time in CORE periods. -/
def Env.now (e : Env) : Nat := e.clk.now

/-- A status field's value. -/
def Blk.get (b : Blk) (f : Fld) : Nat := b.sta.get f

/-- A status field's value as the number it stands for. -/
def Blk.int (b : Blk) (f : Fld) : Int := f.val (b.sta.get f)

/-- Write a status field. -/
def Blk.put (b : Blk) (f : Fld) (v : Nat) : Blk := { b with sta := b.sta.put f v }

/-- Write a status field with a number, kept to the field's width. -/
def Blk.putInt (b : Blk) (f : Fld) (v : Int) : Blk := b.put f (rawBits f.w v)

/-- Add to a status field, saturating at its largest value. -/
def Blk.bump (b : Blk) (f : Fld) (n : Nat := 1) : Blk := b.put f (min (2 ^ f.w - 1) (b.get f + n))

def boolBit (p : Bool) : Nat := if p then 1 else 0

/-- Bit `n` of a number. -/
def bitOf (v n : Nat) : Bool := v / 2 ^ n % 2 == 1

/-- Set or clear bit `n` of a number. -/
def setBit (v n : Nat) (on : Bool) : Nat :=
  if on then (if bitOf v n then v else v + 2 ^ n) else (if bitOf v n then v - 2 ^ n else v)

/-- Replace the element at a place of a list. -/
def setAt {α : Type} : List α → Nat → α → List α
  | [], _, _ => []
  | _ :: l, 0, x => x :: l
  | y :: l, n + 1, x => y :: setAt l n x

/-- Change the element at a place of a list. -/
def modAt {α : Type} : List α → Nat → (α → α) → List α
  | [], _, _ => []
  | y :: l, 0, f => f y :: l
  | y :: l, n + 1, f => y :: modAt l n f

/-- Change every element of a list with its place. -/
def mapIdx {α β : Type} (f : Nat → α → β) : Nat → List α → List β
  | _, [] => []
  | n, x :: l => f n x :: mapIdx f (n + 1) l

/-- Insert into a rising list of numbers without repeats. -/
def insSet : List Nat → Nat → List Nat
  | [], x => [x]
  | y :: l, x => if x < y then x :: y :: l else if x = y then y :: l else y :: insSet l x

/-- Microseconds, milliseconds and seconds in CORE periods of 5 ns (R90). -/
def us (n : Nat) : Nat := 200 * n
def ms (n : Nat) : Nat := 200000 * n
def sec (n : Nat) : Nat := 200000000 * n

/-- Absolute value, and division rounding to the nearest with ties away from zero (R93). -/
def iabs (x : Int) : Int := if x < 0 then -x else x
def divRound (a b : Int) : Int :=
  if 0 ≤ a then (2 * a + b) / (2 * b) else -((2 * (-a) + b) / (2 * b))

/-- Division toward zero. -/
def divZero (a b : Int) : Int := if 0 ≤ a then a / b else -((-a) / b)

/-- The integer square root by bisection on bits, `k` bits. -/
def isqrtAux : Nat → Nat → Nat → Nat
  | 0, _, r => r
  | k + 1, n, r => if (r + 2 ^ k) * (r + 2 ^ k) ≤ n then isqrtAux k n (r + 2 ^ k) else isqrtAux k n r

def isqrt (n : Nat) : Nat := isqrtAux 33 n 0

/-- A value the spec leaves open: the next free word, kept to a field's width; the counter moves on. -/
def Blk.putFree (b : Blk) (f : Fld) : Blk :=
  { b.put f (Config.freeWord b.free).toNat with free := b.free + 1 }

/-- The condition of a signal pin group or frame leaving the module during this command. -/
def Blk.emit (b : Blk) (t : Tx) : Blk := { b with tx := b.tx ++ [t] }

/-- TB0, TB1 and TB2 as whole nanoseconds (R366). -/
def Clock.ns0 (c : Clock) : Nat := c.tb0 / 2 ^ 24
def Clock.ns1 (c : Clock) : Nat := c.tb1 / 2 ^ 24
def Clock.ns2 (c : Clock) : Nat := c.tb2 / 2 ^ 24

/-- A time base's effective addend (R368, R369): the nominal or written addend plus the trim in use. -/
def effAddend (par : RegMap) (b : Blk) (n : Nat) : Nat :=
  let base : Nat := match n with
    | 0 => par.get TIME_TB0_ADDEND
    | 1 => par.get TIME_TB1_ADDEND
    | _ => 0x05000000
  ((base : Int) + (TIME_TB_TRIM n).val (b.get (TIME_TB_TRIM n))).toNat

/-- The clock `n` CORE periods later (R366, R368): every base moves by its effective addend per period, modulo 2³² ns;
each pass of TB0 through 0 raises the wrap tally. -/
def Clock.advance (c : Clock) (a0 a1 a2 n : Nat) : Clock :=
  { now := c.now + n
    tb0 := (c.tb0 + a0 * n) % 2 ^ 56
    tb1 := (c.tb1 + a1 * n) % 2 ^ 56
    tb2 := (c.tb2 + a2 * n) % 2 ^ 56
    wrap := (c.wrap + (c.tb0 + a0 * n) / 2 ^ 56) % 2 ^ 32
    away := c.away }

/-- The clock `n` CORE periods later. In OFF only the AON keeper's count of VIN absence goes on (R81, R85, R86). -/
def State.clkAfter (n : Nat) (s : State) : Clock :=
  if s.blk.phase = .off then { s.clk with away := s.clk.away + n }
  else s.clk.advance (effAddend s.par s.blk 0) (effAddend s.par s.blk 1) (effAddend s.par s.blk 2) n

/-- Time passing: `n` CORE periods; a new cycle starts with the blocks as they stand. -/
def State.elapse (n : Nat) (s : State) : State :=
  if n = 0 then s else { s with clk := s.clkAfter n, start := (s.clkAfter n, s.blk) }

/-- Carry the clock forward to a deadline that still lies ahead. -/
def State.reach (d : Nat) (s : State) : State := s.elapse (d - s.clk.now)

/-- TB1 as used is its counter plus TWIN.TB1_OFS (R411). -/
def Clock.seen (c : Clock) (b : Blk) : Clock :=
  { c with tb1 := (((c.tb1 : Int) + b.int TWIN_TB1_OFS_OFS * 2 ^ 24) % 2 ^ 56).toNat }

/-- What the engines see. -/
def State.env (s : State) : Env := ⟨s.par, s.clk.seen s.blk, (s.start.1.seen s.start.2, s.start.2)⟩

/-- TB0 and its wrap tally at the start of the CORE cycle: what records, raises and captures of the cycle carry (R349, R370, R390). -/
def Env.at0 (e : Env) : Nat × Nat := (e.start.1.ns0, e.start.1.wrap)

/-- Apply an engine's operation. -/
def State.act (f : Env → Blk → Blk) (s : State) : State := { s with blk := f s.env s.blk }

/-- The start of a command: time passes, and what the pins showed for the last command is past. -/
def State.begin (dt : Nat) (s : State) : State :=
  let s1 := s.elapse dt
  { s1 with blk := { s1.blk with tx := [], lastStatus := .ok } }

/-- What a command does to the state once its time has come. -/
def cmd (dt : Nat) (f : State → State) (s : State) : Host.Outcome State Fault Refusal := .next (f (s.begin dt))

/-- The meaning of a command that an engine carries out; scan access has stopped the engines (R471). -/
def eng (dt : Nat) (f : Env → Blk → Blk) (s : State) : Host.Outcome State Fault Refusal :=
  cmd dt (fun t => if t.blk.keep.scanned then t else t.act f) s

/-- The meaning of a command that pins, supervisors or the AON keeper carry out, whatever the engines do. -/
def pin (dt : Nat) (f : Env → Blk → Blk) (s : State) : Host.Outcome State Fault Refusal := cmd dt (fun t => t.act f) s

/-- The meaning of a timer's expiry: nothing happens unless the timer is armed; the clock moves on to its deadline
where that still lies ahead. -/
def expire (dt : Nat) (timer : Blk → Option Nat) (f : Env → Blk → Blk) (s : State) :
    Host.Outcome State Fault Refusal :=
  cmd dt (fun t => if t.blk.keep.scanned then t else match timer t.blk with
    | none => t
    | some d => (t.reach d).act f) s

/-- A condition on which an operation acts; otherwise nothing changes. -/
def onlyIf (c : Bool) (f : Blk → Blk) (b : Blk) : Blk := if c then f b else b

/-- The module is in service: neither OFF nor in a boot, its engines not stopped by scan access (R471). -/
def Blk.running (b : Blk) : Bool := b.phase == .run && !b.keep.scanned

/-- The module is powered (R85). -/
def Blk.powered (b : Blk) : Bool := b.phase != .off

/-- In HOLDUP (R80). -/
def Blk.holdup (b : Blk) : Bool := b.get PWR_STA_PSTATE == 1

/-- SOLO or ACTIVE (R39): the module that owns the outputs. -/
def Blk.owner (b : Blk) : Bool := b.role != .standby

/-- The signed 32-bit difference of two times in ns (R377): values from 2³¹ up count as past. -/
def sdiff32 (a b : Nat) : Int :=
  let d : Nat := (a + 2 ^ 32 - b % 2 ^ 32) % 2 ^ 32
  if d < 2 ^ 31 then d else (d : Int) - 2 ^ 32

/-! ### The NV commit queue -/

/-- Insert by priority behind requests of the same or a higher priority. -/
def nvInsert : List NvJob → NvJob → List NvJob
  | [], j => [j]
  | k :: l, j => if k.prio ≤ j.prio then k :: nvInsert l j else j :: k :: l

/-- What a queued request and a new one of the same kind merge into (R79): a journal that one of them wants FINAL is, and a parameter
commit does what either asks, the newer PCV first. -/
def nvMerge : NvJob → NvJob → Option NvJob
  | .journal f, .journal g => some (.journal (f || g))
  | .param c k, .param c' k' => some (.param (c' <|> c) (k || k'))
  | .retained, .retained => some .retained
  | .log, .log => some .log
  | _, _ => none

/-- The list with a request merged into the first of its kind; none where it holds none. -/
def nvMergeIn (j : NvJob) : List NvJob → Option (List NvJob)
  | [] => none
  | k :: l => match nvMerge k j with
    | some m => some (m :: l)
    | none => (nvMergeIn j l).map (k :: ·)

/-- R41, R79: a request enters the queue in priority order, or waits outside while eight are queued. -/
def nvRequest (j : NvJob) (b : Blk) : Blk :=
  let p := b.pwr
  match nvMergeIn j p.queued with
  | some q => { b with pwr := { p with queued := q } }
  | none => match nvMergeIn j p.waiting with
    | some w => { b with pwr := { p with waiting := w } }
    | none =>
      if p.queued.length < 8 then { b with pwr := { p with queued := nvInsert p.queued j } }
      else { b with pwr := { p with waiting := nvInsert p.waiting j } }

/-- A place has become free: the first waiting request enters the queue (R79). -/
def nvAdmit (p : Pwr) : Pwr :=
  match p.waiting with
  | [] => p
  | j :: w => if p.queued.length < 8 then { p with queued := nvInsert p.queued j, waiting := w } else p

/-- V_COMMIT_EFF in 10 mV (R78): √(1600 V² + 0.2 J / C), rounded down, where it exceeds V_COMMIT. C is the measured
capacitance, or CAP_MIN while CAP_VALID is 0. DESIGN CHOICE: at a measured C of 0 µF, where the formula has no value, V_COMMIT stands
alone (notes/assumptions/110.md). -/
def commitVolts (e : Env) (b : Blk) : Nat :=
  let c := if b.get PWR_STA_CAP_VALID = 1 then b.get PWR_CAP_CAP_UF else e.get PWR_CAP_MIN
  max (e.get PWR_V_COMMIT) (if c = 0 then 0 else isqrt (16000000 + 2000000000 / c))

end Sys2Proof.Machine
end

