-- ==== Sys2Proof/Machine/Hooks.lean ====
section
/-! DEFINITION. What a change of mode, HOLDUP and a boot do to blocks other than the sequencer (R122, R280, R382, R388). -/

namespace Sys2Proof.Machine

/-- The hold duty of a contactor's coil (R296). -/
def dutyFld (k : Nat) : Fld := match k with
  | 0 => THERM_COIL_KP_DUTY
  | 1 => THERM_COIL_KN_DUTY
  | _ => THERM_COIL_KC_DUTY

/-- R388: both pulse generators stop, their pins go low, GO clears. -/
def tpStopAll (b : Blk) : Blk :=
  let b1 := { b with tim := { b.tim with tp0 := { b.tim.tp0 with go := false, high := false, edgeBy := none, begun := false }
                                         tp1 := { b.tim.tp1 with go := false, high := false, edgeBy := none, begun := false } } }
  (((b1.put (TIME_TP_CTL_GO 0) 0).put (TIME_TP_CTL_GO 1) 0).put TIME_STA_TP0_RUNNING 0).put TIME_STA_TP1_RUNNING 0

/-- R382: a port's pending entries are discarded and counted, and its queues are emptied. -/
def flushPort (p : Nat) (q : PortQ) (b : Blk) : Blk :=
  ((b.bump (TIME_LQ_CNT_HIGH p) q.lq.length).put (TIME_LQ_STA_PENDING p) 0).put (TIME_LQ_STA_FREE_BLOCKS p) 1020

/-- R382: at HOLDUP entry and at the start of a warm boot the launch queues, the timestamp queues, the PTP queues and the
assembly buffers are emptied. -/
def flushQueues (b : Blk) : Blk :=
  let b1 := flushPort 1 b.tim.qb (flushPort 0 b.tim.qa b)
  { b1 with
    tim := { b1.tim with qa := ⟨[], [], [], b1.tim.qa.telemAt⟩, qb := ⟨[], [], [], b1.tim.qb.telemAt⟩ }
    sess := b1.sess.map (fun x => { x with lqBuf0 := [], lqBuf1 := [] }) }

/-- A chain frame from DEST to its CRC-16, which is sent high byte first (R195). -/
def chainFrame (dest type seq : Nat) (payload : List Byte) : List Byte :=
  let body := [BitVec.ofNat 8 dest, BitVec.ofNat 8 type, BitVec.ofNat 8 seq, BitVec.ofNat 8 payload.length] ++ payload
  body ++ beBytes 2 (crc16 0xFFFF body)

/-- The logical ends (0 1A, 1 1B, 2 2A, 3 2B) of a ring that are mapped to a port; a COUNT of 18 or less leaves ring 2 unused
(R191, R192). -/
def ringEnds (b : Blk) (ring : Nat) : List Nat :=
  if ring = 1 ∧ b.chain.count ≤ 18 then [] else
  [2 * ring, 2 * ring + 1].filter (fun n => (b.chain.map[n]?).getD 0 != 0)

/-- Every mapped end. -/
def mappedEnds (b : Blk) : List Nat := ringEnds b 0 ++ ringEnds b 1

/-- CHAIN sends a frame on some ends; each frame takes the next SEQ. Without PLL-N the CHAIN domain has stopped (R91). -/
def chainTx (ends : List Nat) (dest type : Nat) (payload : List Byte) (b : Blk) : Blk :=
  if b.get CLK_STA_PLLN_LOCK = 0 ∨ ends = [] then b else
  { b.emit (.chain ends (chainFrame dest type b.chain.seqNo payload)) with
    chain := { b.chain with seqNo := (b.chain.seqNo + 1) % 256 } }

/-- A broadcast on every mapped end. -/
def chainAll (type : Nat) (payload : List Byte) (b : Blk) : Blk := chainTx (mappedEnds b) 0xFF type payload b

/-- A transfer is open: waiting, running or stopping (R276). -/
def Xfer.open_ (x : Xfer) : Bool := x.st == 1 || x.st == 2 || x.st == 4

/-- The slots that a transfer occupies. -/
def Xfer.slots (x : Xfer) : List Nat := (if x.doneD then [] else x.slotD.toList) ++ (if x.doneR then [] else x.slotR.toList)

/-- The positions that a transfer concerns. -/
def Xfer.poss (x : Xfer) : List Nat := (x.slotD.toList ++ x.slotR.toList).map (fun k => k / 4)

/-- R280: SH_HALT on every mapped end; every transfer that waits or runs is marked stopping, and a report of every CMU
with an open transfer is awaited. A STANDBY sends none (R282). -/
def shuttleHalt (b : Blk) : Blk :=
  let xs := b.shuttle.xfers
  let open_ := (xs.filter Xfer.open_).flatMap Xfer.poss
  let b1 := { b with
    shuttle := { b.shuttle with
      xfers := xs.map (fun (x : Xfer) => if x.st = 1 ∨ x.st = 2 then { x with st := 4 } else x)
      haltPos := open_.foldl insSet b.shuttle.haltPos } }
  let b2 := b1.put SHUTTLE_STA_HALTED (boolBit (!b1.shuttle.haltPos.isEmpty))
  if b.owner then chainAll 0x13 [] b2 else b2

/-- Injection stops and the running cycle is discarded (R168). -/
def imdStop (b : Blk) : Blk :=
  { b.put HVS_STA_IMD_INJECTING 0 with hvs := { b.hvs with imdBad := true } }

def latchFld (k : Nat) : Fld := match k with
  | 0 => TRIP_STA_LATCH_A
  | 1 => TRIP_STA_LATCH_B
  | _ => TRIP_STA_LATCH_C
def onPathFld (k : Nat) : Fld := match k with
  | 0 => TRIP_STA_ON_PATH_A
  | 1 => TRIP_STA_ON_PATH_B
  | _ => TRIP_STA_ON_PATH_C

/-- A threshold's equivalent current in mA (R174): lanes 0 A and 2 C on the shunt, 1 B on the Hall sensor; `code` in LSB. -/
def eqCurrent (e : Env) (lane code : Nat) : Nat :=
  if lane = 1 then code * 10000 * (e.int HVS_HALL_SCALE_SCALE).natAbs / 512000
  else code * 500000000 * 1000 / 512 / (e.get HVS_SHUNT_R_R)

/-- The threshold code a lane uses (R172): lane C takes THR_C only in place of lane B. -/
def thrCode (e : Env) (b : Blk) (lane : Nat) : Nat := match lane with
  | 0 => e.get TRIP_THR_A
  | 1 => e.get TRIP_THR_B
  | _ => if b.get TRIP_STA_C_ROLE = 2 then e.get TRIP_THR_C else e.get TRIP_THR_A

/-- Whether a comparator of a lane asserts at the latest current: its input stands at the rail (R158), the current lies at or
beyond its threshold, or it asserted and the current has not come 2 LSB inside (R174). -/
def laneAsserts (e : Env) (b : Blk) (lane : Nat) : Bool :=
  let i := iabs (b.int (if lane = 1 then HVS_I_HALL_I else HVS_I_SHUNT_I))
  let was := (b.trip.comp[lane]?).getD false
  (lane != 1 && b.hvs.rail) || decide ((eqCurrent e lane (thrCode e b lane) : Int) ≤ i) ||
    (was && decide ((eqCurrent e lane (thrCode e b lane - 2) : Int) < i))

/-- The comparators as the latest current leaves them. -/
def compStep (e : Env) (b : Blk) : Blk :=
  { b with trip := { b.trip with comp := [0, 1, 2].map (laneAsserts e b) } }

/-- BK_G is forced low by a latch on the gate path (R173, R182). -/
def gateForced (b : Blk) : Bool :=
  [0, 1, 2].any (fun k => b.get (latchFld k) == 1 && b.get (onPathFld k) == 1)

def modTrip (f : Trip → Trip) (b : Blk) : Blk := { b with trip := f b.trip }

/-! ### The gate commands and the edges that a capture holds (R182, R187) -/

/-- R187: a capture takes triggers and edges of a time, in 1.25 ns, until its post-trigger time ends. -/
def CapBuf.runs (c : CapBuf) (t : Nat) : Bool := !c.frozen && decide (t < 4 * c.endsAt)

/-- R187, R361: an edge at a time in 1.25 ns: it stays 10 ms in the pretrigger buffer and goes into a running capture, whose list
holds 256. -/
def edgeAt (t kind : Nat) (b : Blk) : Blk :=
  { b with
    trip := { b.trip with recent := b.trip.recent.filter (fun p => decide (t ≤ p.1 + 8000000)) ++ [(t, kind)] }
    watch := { b.watch with bufs := b.watch.bufs.map (fun (c : CapBuf) =>
      if ¬ c.runs t then c
      else if 256 ≤ c.edges.length then { c with overflow := true }
      else { c with edges := c.edges ++ [((t : Int) - c.at4, kind)] }) } }

/-- R143: an announced switch-test pulse of SSB `k` (0 P, 1 N) stands at this time, widened by `w` ns either side, on a STANDBY. -/
def announced (e : Env) (b : Blk) (k w : Nat) : Bool :=
  b.role == .standby && match b.tw.mir.bind Mirror.pulse with
    | some (n, s, z) => n == k + 1 && decide (-(w : Int) ≤ sdiff32 e.clk.ns1 s) && decide (sdiff32 e.clk.ns1 z ≤ w)
    | none => false

/-- R182: BK_G of SSB `k` (0 P, 1 N) is on: SAFE commands it on (as followed on a STANDBY, with an announced pulse 50 µs longer
either side, R143), no latch on the gate path is set, the island limit latch is clear and the island link is valid. -/
def bkG (e : Env) (b : Blk) (k : Nat) : Bool :=
  (b.phase == .run || b.phase == .warmBoot) && ((if k = 0 then b.trip.gateP else b.trip.gateN) || announced e b k 50000) &&
    !gateForced b && b.get HVS_STA_LIMIT_LATCH == 0 && b.get HVS_STA_ISLAND_OK == 1

/-- The edges of BK_G1 and BK_G2 between two states of one CORE cycle, at a time in 1.25 ns (R361). -/
def gateEdgesAt (t : Nat) (e : Env) (old b : Blk) : Blk :=
  [0, 1].foldl (fun (x : Blk) k =>
    if bkG e old k = bkG e b k then x else edgeAt t (0x10 + 2 * k + boolBit (bkG e b k)) x) b

/-- The same at the CORE tick. -/
def gateEdges (e : Env) (old b : Blk) : Blk := gateEdgesAt (4 * e.now) e old b

/-- BK_FB of SSB `k` (0 P, 1 N) as read, with its edge (R361). -/
def setBk (e : Env) (k : Nat) (on : Bool) (b : Blk) : Blk :=
  let f := if k = 0 then SAFE_SW_STATE_BK_FB1 else SAFE_SW_STATE_BK_FB2
  let b1 := b.put f (boolBit on)
  if b.get f = boolBit on then b1 else edgeAt (4 * e.now) (0x20 + 2 * k + boolBit on) b1

/-- SAFE commands SSB `k` (0 P, 1 N) on or off. The island takes a command only over a valid link (R150). -/
def ssbSet (e : Env) (k : Nat) (on : Bool) (b : Blk) : Blk :=
  let held := on && b.get HVS_STA_ISLAND_OK == 1
  gateEdges e b (modTrip (fun t => if k = 0 then { t with gateP := held } else { t with gateN := held })
    (b.put (if k = 0 then SAFE_SW_STATE_SSBP_CMD else SAFE_SW_STATE_SSBN_CMD) (boolBit on)))

/-- Both gate commands low (BK_G1, BK_G2). -/
def ssbOff (e : Env) (b : Blk) : Blk := ssbSet e 1 false (ssbSet e 0 false b)

/-- R150: the island drops the commands it holds; a new command of SAFE is needed. -/
def gateDrop (e : Env) (b : Blk) : Blk := gateEdges e b (modTrip (fun t => { t with gateP := false, gateN := false }) b)

/-- R185: every latch whose comparator no longer asserts, and the island limit latch, are cleared. -/
def latchClear (e : Env) (b : Blk) : Blk :=
  let b1 := [0, 1, 2].foldl (fun (x : Blk) k =>
    if laneAsserts e x k ∨ x.get (latchFld k) = 0 then x else edgeAt (4 * e.now) (4 + k) (x.put (latchFld k) 0)) b
  let b2 := gateEdges e b ((b1.put HVS_STA_LIMIT_LATCH 0).put TRIP_STA_GATE_FORCED (boolBit (gateForced b1)))
  if gateForced b2 then b2 else
  { b2 with trip := { b2.trip with at_ := none } }

/-! ### The Twin Link's transmitter (R402 to R405) -/

def modTw (f : Twin → Twin) (b : Blk) : Blk := { b with tw := f b.tw }

def laneFld (l : Nat) : Fld := if l = 0 then TWIN_LANE_STA_L0 else TWIN_LANE_STA_L1
def laneUp (b : Blk) (l : Nat) : Bool := b.get (laneFld l) == 2

def TwMsg.vc : TwMsg → Nat
  | .hb _ => 0
  | .mirror _ => 1
  | .raw _ => 2
  | .reg _ => 3

/-- The credits a packet takes (R403): its length in blocks of 64 bytes; the spec gives MIRROR and REG payloads no length. -/
def TwMsg.credits : TwMsg → Nat
  | .hb _ => 1
  | .mirror m => 1 + (Config.openResult 403 [1, m.sweep]).toNat % 8
  | .raw f => max 1 ((f.length + 63) / 64)
  | .reg r => 1 + (Config.openResult 403 [3, r.fields.length]).toNat % 8

/-- The credits of a VC in use on a lane. -/
def usedOf (l : TwLane) (vc : Nat) : Nat := ((l.used.find? (fun p => p.1 == vc)).map Prod.snd).getD 0
def setUsed (vc n : Nat) (l : List (Nat × Nat)) : List (Nat × Nat) := (l.filter (fun p => p.1 != vc)) ++ [(vc, n)]

def modLane (k : Nat) (f : TwLane → TwLane) (b : Blk) : Blk := modTw (fun t => { t with lanes := modAt t.lanes k f }) b

/-- A lane's receive buffer per VC, bytes, and the credits of 64 bytes that it gives (R42, R403). -/
def twinBuffer : Nat := 2048
def twinCredits : Nat := twinBuffer / 64

/-- A packet leaves on a lane, or is held for credits or behind one of its VC that is; a heartbeat replaces one that is held (R402 to
R404). -/
def laneSend (e : Env) (k : Nat) (m : TwMsg) (b : Blk) : Blk :=
  match b.tw.lanes[k]? with
  | none => b
  | some l =>
    if twinCredits < usedOf l m.vc + m.credits ∨ (m.vc ≠ 0 ∧ l.held.any (fun x => x.vc == m.vc)) then
      modLane k (fun l => { l with held := (if m.vc = 0 then l.held.filter (fun x => x.vc != 0) else l.held) ++ [m] }) b
    else
      let seq := (l.txSeq + 1) % 65536
      modLane k (fun l => { l with
        txSeq := seq
        unacked := l.unacked ++ [(seq, e.now, m)]
        used := setUsed m.vc (usedOf l m.vc + m.credits) l.used }) (b.emit (.twin k seq l.rxSeq m))

/-- The order in which a lane that carries every VC sends them (R405): HB, MIRROR, REG, RAW. -/
def vcOrder : List Nat := [0, 1, 3, 2]

/-- Packets go out on a lane in that order, those of one VC in their own. -/
def laneSendAll (e : Env) (k : Nat) (ms : List TwMsg) (b : Blk) : Blk :=
  (vcOrder.flatMap (fun v => ms.filter (fun m => m.vc == v))).foldl (fun x m => laneSend e k m x) b

/-- The lane of a VC: RAW on lane 1, the others on lane 0; while one is down the other carries all (R402, R405). -/
def laneOf (b : Blk) (vc : Nat) : Nat :=
  let want := if vc = 2 then 1 else 0
  if laneUp b want then want else 1 - want

/-- A packet is sent; heartbeats go on both lanes. -/
def twSend (e : Env) (m : TwMsg) (b : Blk) : Blk :=
  if ¬ b.twin then b else
  if m.vc = 0 then
    let b1 := if laneUp b 0 then laneSend e 0 m b else b
    if laneUp b1 1 then laneSend e 1 m b1 else b1
  else if laneUp b (laneOf b m.vc) then laneSend e (laneOf b m.vc) m b else b

/-- A MIRROR packet that carries one forwarded raise and nothing else (R345). -/
def Mirror.ofRaise (r : Raise) : Mirror :=
  { lat := none, sweep := 0, t := 0, complete := false, next := [], cmds := [], mode := 0, step := 0, busMax := none, xfers := []
    nextTid := 0, frames := 0, dig := none, acts := [], rr := none, raises := [r], pulse := none, hreq := false, so := 0, ret := false, win := none, ff := none
    conf := (false, false), clears := 0,     regs := []
    chain := { count := 0, retire := [], cmus := [], marks := [], zs := [], pairs := [], owAge := 0 } }

/-- A packet that carries forwarded raises only: a mirrored frame carries the five switch commands. -/
def Mirror.isEvent (m : Mirror) : Bool := m.cmds.isEmpty

/-- What entering a mode does beside the mode change itself: at entry to CONNECTING every pulse generator stops (R39,
R388) and an injection of role ISOLATED_ONLY ends (R168); at entry to TRIPPED running transfers are halted, with the thermal latch whatever RUN_TRIPPED says
(R280, R281). -/
def modeHooks (e : Env) (m : Mode) (b : Blk) : Blk :=
  if m = .connecting then
    let b1 := tpStopAll b
    if e.get HVS_IMD_CFG_ROLE = 2 then b1 else imdStop b1
  else if m = .tripped ∧ (e.get SHUTTLE_CTL_RUN_TRIPPED = 0 ∨ b.pwr.latch) then shuttleHalt b
  else b

end Sys2Proof.Machine
end

