-- ==== Sys2Proof/Machine/Watch.lean ====
section
/-! DEFINITION. WATCH: raises, counting, the event log, ERR_N, the first fault and the record of a reaction sequence
(R339 to R361). The actions of a reaction stand in Seq.lean. -/

namespace Sys2Proof.Machine

/-! ### Levels and counting -/

/-- The level WD_REACT puts in force for PSF_TIMEOUT (R328, R342). -/
def wdLevelOf (react : Nat) : Nat :=
  match react with
  | 1 => 3
  | 2 => 4
  | _ => 1
def wdLevel (e : Env) : Nat := wdLevelOf (e.get SAFE_PSF_CFG_WD_REACT)

/-- A source's minor and severe level in force (R342). -/
def minorOf (e : Env) (src : Nat) : Nat :=
  if src = SRC_PSF_TIMEOUT then wdLevel e else e.get (FAULT_REACT_MINOR src)
def severeOf (e : Env) (src : Nat) : Nat :=
  if src = SRC_PSF_TIMEOUT then wdLevel e else e.get (FAULT_REACT_SEVERE src)

/-- Whether WATCH accepts a source's raises (R339, R98): its EVT_EN bit, which is fixed at 1 for the sources of R98. -/
def evtEnabled (e : Env) (src : Nat) : Bool :=
  (srcRow src).enFixed || e.get (EVT_EN_BIT src) == 1

/-- A source's window in CORE periods; 0 for "any" (R341). -/
def windowTicks (e : Env) (src : Nat) : Nat :=
  let w := e.get (FAULT_REACT_W src)
  match e.get (FAULT_REACT_UNIT src) with
  | 1 => ms w
  | 2 => sec w
  | 3 => sec (60 * w)
  | 4 => sec (3600 * w)
  | 5 => sec (86400 * w)
  | _ => 0

/-- The bucket of a time, a sixteenth of the window (R341). -/
def bucketNo (now window : Nat) : Nat := now * 16 / window

/-- The counter of a source. -/
def cntOf (l : List Cnt) (src : Nat) : Cnt := (l.find? (fun c => c.src == src)).getD ⟨src, 0, []⟩

/-- Put a counter into the list, sources rising. -/
def cntPut : List Cnt → Cnt → List Cnt
  | [], c => [c]
  | d :: l, c => if c.src < d.src then c :: d :: l else if c.src = d.src then c :: l else d :: cntPut l c

/-- Add a raise to a bucket. -/
def bucketAdd : List (Nat × Nat) → Nat → List (Nat × Nat)
  | [], k => [(k, 1)]
  | (i, n) :: l, k => if i = k then (i, n + 1) :: l else (i, n) :: bucketAdd l k

/-- The count of a source at a time (R341): the bucket of that time and the 15 before it. -/
def windowCount (c : Cnt) (now window : Nat) : Nat :=
  ((c.buckets.filter (fun p => decide (bucketNo now window ≤ p.1 + 15) && decide (p.1 ≤ bucketNo now window))).map Prod.snd).sum

/-- The time of a raise in CORE periods (R341, R349): now, or as long ago as the stamp that a held or forwarded raise came with.
DEDUCED: the stamp is TB0's, so a TB0 step between the two moves it (notes/assumptions/145.md). -/
def raiseTime (e : Env) (r : Raise) : Nat := match r.stamp with
  | none => e.now
  | some (t, w) => e.now - (e.at0.2 * 2 ^ 32 + e.at0.1 - (w * 2 ^ 32 + t)) / 5

/-- Count a raise of a time (R341): the counter afterwards. With W "any" no bucket is kept, and N is 1. -/
def countRaise (e : Env) (src at_ : Nat) (c : Cnt) : Cnt :=
  let w := windowTicks e src
  let total := min 0xFFFF (c.total + 1)
  if w = 0 then ⟨src, total, []⟩ else
  let k := bucketNo at_ w
  ⟨src, total, bucketAdd (c.buckets.filter (fun p => decide (k ≤ p.1 + 15))) k⟩

/-- Whether a raise of a time, just counted, is severe (R341): the count is at or above N; "1 in any" is always severe. -/
def isSevere (e : Env) (src at_ : Nat) (c : Cnt) : Bool :=
  let w := windowTicks e src
  w == 0 || decide (e.get (FAULT_REACT_N src) ≤ windowCount c at_ w)

/-- The severity of a level's record (R353). -/
def sevOfLevel (l : Nat) : Nat := if 3 ≤ l then 3 else if 1 ≤ l then 2 else 0

/-! ### The event log -/

/-- The records the log shows, slot by slot: the write cache over what MRAM holds (R356). -/
def logView (w : Watch) : List (Nat × Rec) :=
  w.cache ++ w.mram.filter (fun p => !(w.cache.any (fun q => q.1 == p.1)))

/-- The record with the higher sequence. -/
def newer (a : Option Rec) (r : Rec) : Option Rec :=
  match a with
  | none => some r
  | some q => if q.seq < r.seq then some r else some q

/-- The new records waiting in ingest slots. -/
def ingFresh : List Ing → List Rec
  | [] => []
  | .fresh r :: l => r :: ingFresh l
  | .fold _ _ _ :: l => ingFresh l

/-- The latest record of a source (R355). -/
def latestOf (w : Watch) (src : Nat) : Option Rec :=
  ((ingFresh w.ingest ++ (logView w).map Prod.snd).filter (fun r => r.src == src)).foldl newer none

/-- The log asks for a commit 1 ms from now, unless one is asked for (R356). -/
def logAsk (now : Nat) (w : Watch) : Watch := { w with logAt := some (w.logAt.getD (now + ms 1)) }

/-- Change the record of a sequence wherever it stands, and the first-fault copy that follows it (R347, R350, R355). A record that MRAM
holds is uncommitted by the change (R356). -/
def recUpdate (now seq : Nat) (f : Rec → Rec) (w : Watch) : Watch :=
  let ing := w.ingest.map (fun i => match i with
    | .fresh r => if r.seq = seq then .fresh (f r) else i
    | .fold _ _ _ => i)
  let cache := if w.cache.any (fun p => p.2.seq == seq)
    then w.cache.map (fun p => if p.2.seq = seq then (p.1, f p.2) else p)
    else match w.mram.find? (fun p => p.2.seq == seq && !(w.cache.any (fun q => q.1 == p.1))) with
      | some p => w.cache ++ [(p.1, f p.2)]
      | none => w.cache
  let ff := w.ff.map (fun r => if r.seq = seq then f r else r)
  let w1 := { w with ingest := ing, cache := cache, ff := ff }
  if cache.any (fun p => p.2.seq == seq) then logAsk now w1 else w1

/-- R355: one more repeat, seen at a time. -/
def recRepeat (lastSeen : Nat) (r : Rec) : Rec :=
  { r with rep := min 0xFFFF (r.rep + 1), lastSeen := lastSeen, gen := (r.gen + 1) % 256 }

/-- R347, R352: the MERGED flag; the change bumps the generation. -/
def recMerged (r : Rec) : Rec := if r.merged then r else { r with merged := true, gen := (r.gen + 1) % 256 }

/-- The number of slots of the log that hold a record. -/
def slotsUsed (w : Watch) : Nat := (logView w).length

/-- R354: the slot of a new record: the lowest free one, else the one with the oldest record of equal or lower severity. -/
def chooseSlot (w : Watch) (r : Rec) : Option Nat :=
  if slotsUsed w < 131072 then some (slotsUsed w) else
  (((logView w).filter (fun p => decide (p.2.sev ≤ r.sev))).foldl (fun (a : Option (Nat × Rec)) p =>
    match a with
    | none => some p
    | some q => if p.2.seq < q.2.seq then some p else some q) none).map Prod.fst

/-- R354: a record passes from its ingest slot to the write cache, or is dropped where no slot takes it. -/
def logPlace (now : Nat) (r : Rec) (w : Watch) : Watch :=
  match chooseSlot w r with
  | none => { w with dropped := min 0xFFFFFFFF (w.dropped + 1) }
  | some k => logAsk now { w with cache := w.cache.filter (fun p => p.1 != k) ++ [(k, r)] }

/-- Some slot of the log holds the record of a sequence. -/
def seqPresent (seq : Nat) (w : Watch) : Bool := (logView w).any (fun p => p.2.seq == seq)

/-- R354, R356: ingest slots empty in order while the write cache has room and the ceiling permits. A repeat whose record has been
overwritten starts a new record (R351). -/
def logDrain (now : Nat) : List Ing → Watch → Watch
  | [], w => { w with ingest := [] }
  | .fresh r :: l, w =>
    if r.seq ≤ w.ceiling ∧ w.cache.length < 2048 then logDrain now l (logPlace now r w)
    else { w with ingest := .fresh r :: l }
  | .fold r s t :: l, w =>
    if seqPresent s w then
      if w.cache.length < 2048 then logDrain now l (logAsk now (recUpdate now s (recRepeat t) { w with ingest := l }))
      else { w with ingest := .fold r s t :: l }
    else
      let r1 := { r with seq := w.nextSeq }
      let w1 := { w with nextSeq := w.nextSeq + 1 }
      if r1.seq ≤ w.ceiling ∧ w.cache.length < 2048 then logDrain now l (logPlace now r1 w1)
      else { w1 with ingest := .fresh r1 :: l }

/-- R356: a ceiling 4,096 above the next sequence is asked for once it comes within 1,024 of the committed one. -/
def ceilingAsk (b : Blk) : Blk :=
  if b.watch.ceiling < b.watch.nextSeq + 1024 ∧ ¬ b.watch.ceilAsked then
    nvRequest (.ceiling (b.watch.nextSeq + 4096)) { b with watch := { b.watch with ceilAsked := true } }
  else b

/-- A record's TIME with its wrap tally, in ns. -/
def Rec.ns (r : Rec) : Nat := r.wrap * 2 ^ 32 + r.time

/-- LAST_SEEN of a record at a repeat (R352): µs from its TIME. -/
def seenAfter (q r : Rec) : Nat := (r.ns - q.ns) / 1000 % 2 ^ 32

/-- Whether a record folds into an earlier one (R355): `win` in seconds; times are TB0 with its wrap tally. DEDUCED: a time before the
earlier record's counts by its distance (notes/assumptions/140.md). -/
def foldsInto (win : Nat) (r q : Rec) : Bool :=
  win != 0 && q.sev == r.sev && r.sev != 3 && q.code == r.code && q.d0 == r.d0 && q.d1 == r.d1 && q.rep != 0xFFFF &&
  decide (r.ns ≤ q.ns + win * 1000000000) && decide (q.ns ≤ r.ns + win * 1000000000)

/-- R359: while the push session has a key a new record joins the push queue; when more than 64 wait, the oldest leaves it. -/
def pushQueue (e : Env) (r : Rec) (b : Blk) : Blk :=
  if e.get FAULT_PUSH_CFG_EN = 1 ∧ e.get FAULT_PUSH_CFG_MIN_SEV ≤ r.sev ∧
      b.keep.keys.any (fun k => k.1 == e.get FAULT_PUSH_CFG_SESSION + 1) then
    let q := b.watch.push ++ [r]
    if 64 < q.length then { b with watch := { b.watch with push := q.drop 1 } }.bump FAULT_PUSH_CNT_SKIPPED
    else { b with watch := { b.watch with push := q } }
  else b

/-- A record enters the log (R354, R355): as a repeat of the latest record of its source, or as a new record with the next
sequence. The answer names the sequence of the record that now carries it. -/
def logRecord (e : Env) (r : Rec) (b : Blk) : Nat × Blk :=
  let w := b.watch
  let win := e.get LOG_REPEAT_WIN_WIN
  let prior := (latestOf w r.src).filter (foldsInto win r)
  let trips := w.ingest.length
  match prior with
  | some q =>
    let t := seenAfter q r
    if 12 ≤ trips then (q.seq, { b with watch := { w with dropped := min 0xFFFFFFFF (w.dropped + 1) } })
    else (q.seq, { b with watch := logDrain e.now (w.ingest ++ [.fold r q.seq t]) w })
  | none =>
    if r.sev = 3 ∧ 16 ≤ trips then
      match ((ingFresh w.ingest).filter (fun q => q.sev == 3)).foldl newer none with
      | some q =>
        (q.seq, { b with watch := recUpdate e.now q.seq (recRepeat (seenAfter q r)) w })
      | none => (0, { b with watch := { w with dropped := min 0xFFFFFFFF (w.dropped + 1) } })
    else if r.sev ≠ 3 ∧ 12 ≤ trips then
      (0, { b with watch := { w with dropped := min 0xFFFFFFFF (w.dropped + 1) } })
    else
      let r1 := { r with seq := w.nextSeq }
      let w1 := { w with nextSeq := w.nextSeq + 1 }
      let b1 := pushQueue e r1 { b with watch := logDrain e.now (w1.ingest ++ [.fresh r1]) w1 }
      (r1.seq, ceilingAsk b1)

/-- The sources that react at L0 in MAINTENANCE whatever their table level (R231). -/
def maintQuiet (b : Blk) (src : Nat) : Bool :=
  b.mode == .maintenance &&
  (src == SRC_PORT_SILENT || src == SRC_RING_BREAK || src == SRC_STALE_CELL || src == SRC_STALE_PROTECT)

/-- The record of a raise before it has a sequence (R349, R352): its time is TB0 at the start of the cycle, or the stamp it came
with. -/
def mkRec (e : Env) (b : Blk) (r : Raise) (sev : Nat) (severe co : Bool) : Rec :=
  { seq := 0
    time := (r.stamp.map Prod.fst).getD e.at0.1
    wrap := (r.stamp.map Prod.snd).getD e.at0.2
    src := r.src, sev := sev, severe := severe, coFirst := co, merged := false, partner := r.partner
    code := r.code % 2 ^ 16, d0 := r.d0 % 2 ^ 32, d1 := r.d1 % 2 ^ 32
    rep := 0, gen := 0, boot := b.get PWR_BOOT_BOOT_NUMBER, lastSeen := 0 }

/-- A raise with its time: the one it came with, or this cycle's (R349). -/
def stamped (e : Env) (r : Raise) : Raise := { r with stamp := some (r.stamp.getD e.at0) }

/-- The EVT flags set in the present cycle (R103). -/
def evtOfCycle (e : Env) (w : Watch) : List Nat := if w.evtNew.1 = e.now then w.evtNew.2 else []

/-- The EVT flag of a source (R97). -/
def setEvt (e : Env) (src : Nat) (b : Blk) : Blk :=
  { b with watch := { b.watch with evt := insSet b.watch.evt src, evtNew := (e.now, insSet (evtOfCycle e b.watch) src) } }

/-- R349: a raise of the same CORE cycle was ingested before. -/
def cycleSeen (e : Env) (w : Watch) : Bool := w.cyc.any (fun c => c.cycle == e.now)

/-- The cycle's raises so far; a new cycle has none, and knows whether a sequence runs or ends in it (R351). -/
def cycleOf (e : Env) (w : Watch) : RaiseCycle :=
  let new : RaiseCycle := ⟨e.now, w.rrRun || w.rrEnd == some e.now, false, [], none⟩
  match w.cyc with
  | some c => if c.cycle = e.now then c else new
  | none => new

/-- A record-only source (R340): its record, and nothing else. -/
def record (e : Env) (r : Raise) (b : Blk) : Blk :=
  let b1 := setEvt e r.src b
  if ¬ evtEnabled e r.src then b1 else
  let b2 := (logRecord e (mkRec e b r (srcRow r.src).sev false (cycleSeen e b.watch)) b1).2
  { b2 with watch := { b2.watch with cyc := some (cycleOf e b.watch) } }

/-! ### Activity and excursions -/

/-- The active entry of a source is replaced by its latest raise (R341). -/
def actPut (a : Act) : List Act → List Act
  | [] => [a]
  | x :: l => if a.src < x.src then a :: x :: l else if a.src = x.src then a :: l else x :: actPut a l

def actDrop (src : Nat) (l : List Act) : List Act := l.filter (fun a => a.src != src)

/-- Whether a source is active (R340). -/
def isActive (b : Blk) (src : Nat) : Bool := b.watch.act.any (fun a => a.src == src)

/-- Whether any source is active at a level or above. -/
def activeAt (b : Blk) (lvl : Nat) : Bool := b.watch.act.any (fun a => decide (lvl ≤ a.level))

/-- The highest level of an active source (FAULT.STA.HIGHEST). -/
def highestLevel (b : Blk) : Nat := b.watch.act.foldl (fun m a => max m a.level) 0

/-- R340: what a raise at a level makes active: a condition until its end, an event below L3 for the event hold, an event at
L3 or above until an accepted edge reset. -/
def mkAct (e : Env) (src lvl : Nat) (partner : Bool) : Act :=
  if (srcRow src).kind = .event ∧ lvl < 3 then ⟨src, lvl, some (e.now + sec (e.get FAULT_EVT_HOLD)), partner⟩
  else ⟨src, lvl, none, partner⟩

/-- Whether an excursion of a source's object runs (R340). -/
def inExc (b : Blk) (src obj : Nat) : Bool := b.watch.exc.any (fun p => p.1 == src && p.2 == obj)

/-- A source was raised in the present CORE cycle. -/
def raisedNow (e : Env) (w : Watch) (src : Nat) : Bool := w.cyc.any (fun c => c.cycle == e.now && c.srcs.contains src)

/-- An object's excursion is over. -/
def dropExc (src obj : Nat) (b : Blk) : Blk :=
  { b with watch := { b.watch with exc := b.watch.exc.filter (fun p => !(p.1 == src && p.2 == obj)) } }

/-- R340: an excursion of an object ends; a condition-kind source ends with its last one, one raised in the same CORE cycle with that
cycle (R351). -/
def endExc (e : Env) (src obj : Nat) (b : Blk) : Blk :=
  let exc := b.watch.exc.filter (fun p => !(p.1 == src && p.2 == obj))
  let act := if (srcRow src).kind = .condition ∧ ¬ exc.any (fun p => p.1 == src) then
      (if raisedNow e b.watch src then b.watch.act.map (fun (a : Act) => if a.src = src then { a with hold := some (e.now + 1) } else a)
       else actDrop src b.watch.act)
    else b.watch.act
  { b with watch := { b.watch with exc := exc, act := act } }

/-- R340, R363: a condition-kind source that was raised late, for it was held in a boot, is not active where its condition has ended. -/
def settleHeld (held : List Raise) (b : Blk) : Blk :=
  { b with watch := { b.watch with act := b.watch.act.filter (fun a =>
      !(held.any (fun r => r.src == a.src) && (srcRow a.src).kind == .condition && !a.partner &&
        !(b.watch.exc.any (fun p => p.1 == a.src)))) } }

/-! ### Accounting for one raise -/

/-- R346: ERR_N asserts at L1 or above, its 2 ms begin, and the release is disarmed. -/
def errRaise (e : Env) (lvl : Nat) (w : Watch) : Watch :=
  if lvl = 0 then w else { w with errOn := true, errArmed := false, errSince := e.now }

/-- R350: a record is copied whole as the first fault, as the log holds it; one that the log dropped as it was raised. -/
def ffTake (r : Rec) (w : Watch) : Watch :=
  { w with
    ff := some (((ingFresh w.ingest ++ (logView w).map Prod.snd).find? (fun q => q.seq == r.seq)).getD r)
    ffValid := true }

/-- R350: the first raise at or above the capture level becomes the first fault. -/
def ffCapture (e : Env) (lvl : Nat) (r : Rec) (w : Watch) : Watch :=
  if w.ffValid ∨ lvl < e.get FAULT_FF_CFG_MIN_LEVEL then w else ffTake r w

/-- R347, R351: a raise is merged into the sequence that ran before its cycle or ended in it; the first of its cycle begins a
sequence at L3 or above. `c` tells what the cycle had before this raise. -/
def rrAccount (now : Nat) (b : Blk) (src lvl seq : Nat) (c : RaiseCycle) (w : Watch) : Watch :=
  if c.ran then
    let w1 := recUpdate now w.rrSeq recMerged w
    { w1 with rrMap := insSet w1.rrMap src, rrMerge := min 0xFFFF (w1.rrMerge + 1), rrLevel := max w1.rrLevel lvl }
  else if 3 ≤ lvl ∧ ¬ w.rrRun ∧ ¬ c.top ∧ b.role ≠ .standby then
    { w with rrSrc := src, rrLevel := lvl, rrSeq := seq, rrMerge := 0, rrMap := [], rrRun := b.mode != .tripped }
  else w

/-- The cycle's raises with one more. -/
def cycleAdd (e : Env) (lvl : Nat) (r : Rec) (c : RaiseCycle) : RaiseCycle :=
  { c with
    top := c.top || decide (3 ≤ lvl)
    srcs := insSet c.srcs r.src
    qual := c.qual.or (if e.get FAULT_FF_CFG_MIN_LEVEL ≤ lvl then some r else none) }

/-- One raise of a reacting source, up to its reaction (R339 to R355): the applied level and the state; the level is 0 where
the raise is not accepted. A STANDBY forwards one at L2 or above (R345). -/
def account (e : Env) (r : Raise) (b : Blk) : Nat × Blk :=
  let b1 := setEvt e r.src b
  if ¬ evtEnabled e r.src ∨ (srcRow r.src).kind = .unused then (0, b1) else
  let c := countRaise e r.src (raiseTime e r) (cntOf b1.watch.cnt r.src)
  let severe := isSevere e r.src (raiseTime e r) c
  let lvl := if maintQuiet b r.src then 0 else if severe then severeOf e r.src else minorOf e r.src
  let r0 := mkRec e b r (sevOfLevel lvl) severe (cycleSeen e b.watch)
  let (seq, b2) := logRecord e r0 b1
  let r1 : Rec := { r0 with seq := seq }
  let y := cycleOf e b.watch
  let w : Watch := { b2.watch with
    cnt := cntPut b2.watch.cnt c, act := actPut (mkAct e r.src lvl r.partner) b2.watch.act, cyc := some (cycleAdd e lvl r1 y) }
  let w := rrAccount e.now b2 r.src lvl seq y (ffCapture e lvl r1 (errRaise e lvl w))
  let b3 : Blk := { b2 with watch := w }
  (lvl, if b3.role = .standby ∧ 2 ≤ lvl then twSend e (.mirror (Mirror.ofRaise (stamped e r))) b3 else b3)

/-- R348: a lower retry mechanism's exhaustion, aborted by its upper timeout, is counted and nothing else. -/
def countOnly (e : Env) (src : Nat) (b : Blk) : Blk :=
  if evtEnabled e src then
    { b with watch := { b.watch with cnt := cntPut b.watch.cnt (countRaise e src e.now (cntOf b.watch.cnt src)) } }
  else b

/-- R348: the upper source's record carries the exhaustion, with MERGED set. -/
def markMerged (now src : Nat) (b : Blk) : Blk :=
  match latestOf b.watch src with
  | some r => { b with watch := recUpdate now r.seq recMerged b.watch }
  | none => b

/-- The ranks of a cycle's raises in the order of R349: one above the level that each applies, counted after those of its source
that come before it (`cnt`); a record-only source, which has no level, comes last. -/
def rankAll (e : Env) (b : Blk) : List Raise → List Cnt → List (Nat × Raise)
  | [], _ => []
  | r :: l, cnt =>
    if (srcRow r.src).kind = .record then (0, r) :: rankAll e b l cnt else
    let c := countRaise e r.src (raiseTime e r) (cntOf cnt r.src)
    let lvl := if maintQuiet b r.src then 0 else if isSevere e r.src (raiseTime e r) c then severeOf e r.src else minorOf e r.src
    (1 + lvl, r) :: rankAll e b l (cntPut cnt c)

/-- R349: the raises of a cycle by applied level, highest first, and by ascending source within a level; raises of one source
keep their order. -/
def orderInsert (r : Nat × Raise) : List (Nat × Raise) → List (Nat × Raise)
  | [] => [r]
  | q :: l => if q.1 < r.1 ∨ (q.1 = r.1 ∧ r.2.src ≤ q.2.src) then r :: q :: l else q :: orderInsert r l

def orderRaises (e : Env) (b : Blk) (rs : List Raise) : List Raise :=
  ((rankAll e b rs b.watch.cnt).foldr orderInsert []).map Prod.snd

/-! ### The recorder's registers -/

/-- A record's eight words (R352). -/
def Rec.words (r : Rec) : List Nat :=
  [r.seq % 2 ^ 32, r.time % 2 ^ 32, r.wrap % 2 ^ 32,
   r.src % 256 + r.sev * 256 + boolBit r.severe * 2 ^ 12 + boolBit r.coFirst * 2 ^ 13 + boolBit r.merged * 2 ^ 14
     + boolBit r.partner * 2 ^ 15 + r.code * 2 ^ 16,
   r.d0, r.d1, r.rep + r.gen * 2 ^ 16 + r.boot * 2 ^ 24, r.lastSeen]

/-- A record's 32 bytes. -/
def Rec.bytes (r : Rec) : List Byte := r.words.flatMap (leBytes 4)

end Sys2Proof.Machine
end

