-- ==== Sys2Proof/Machine/Seq.lean ====
section
/-! DEFINITION. The sequencer's shared operations: the mode, the switches, disconnects and aborts, reactions, and `raise`,
through which every block raises a source (file 05, R121 to R147; R343, R344). -/

namespace Sys2Proof.Machine

/-- The codes of SAFE.SEQ_STA.STEP. -/
def stepIdle : Nat := 0
def stepWeldConnect : Nat := 1
def stepDisc1 : Nat := 8
def stepDisc2 : Nat := 9
def stepWeldAfter : Nat := 10
def stepFallback : Nat := 11
def stepCoilTest : Nat := 12

def seqStep (b : Blk) : Nat := b.get SAFE_SEQ_STA_STEP
def setStep (n : Nat) (b : Blk) : Blk := b.put SAFE_SEQ_STA_STEP n

def modSeq (f : Seq → Seq) (b : Blk) : Blk := { b with seq := f b.seq }

/-! ### The mode -/

/-- R122: the mode changes: every page locks (R100), MAINT_RUN clears, and a reaction sequence ends in TRIPPED (R347). -/
def modeTo (e : Env) (m : Mode) (b : Blk) : Blk :=
  let old := b.mode
  let b1 := ({ b with mode := m, prev := old, unlocked := [] }).put SHUTTLE_CTL_MAINT_RUN 0
  let b2 := modeHooks e m b1
  if m = .tripped then { b2 with watch := { b2.watch with
    rrRun := false, rrEnd := if b2.watch.rrRun then some e.now else b2.watch.rrEnd } } else b2

/-- The raise of a mode change (R364). -/
def modeRaise (m old : Mode) : Raise := { src := SRC_MODE_CHANGE, d0 := m.code, d1 := old.code }

/-- R122, R364: the mode changes and the change is recorded. -/
def setMode (e : Env) (m : Mode) (b : Blk) : Blk :=
  if b.mode = m then b else record e (modeRaise m b.mode) (modeTo e m b)

/-! ### Switches -/

def cmdFld (k : Nat) : Fld := match k with
  | 0 => SAFE_SW_STATE_KP_CMD
  | 1 => SAFE_SW_STATE_KN_CMD
  | _ => SAFE_SW_STATE_KC_CMD
def fbFld (k : Nat) : Fld := match k with
  | 0 => SAFE_SW_STATE_KP_FB
  | 1 => SAFE_SW_STATE_KN_FB
  | _ => SAFE_SW_STATE_KC_FB
def brokenFld (k : Nat) : Fld := match k with
  | 0 => SAFE_SW_STATE_KP_BROKEN
  | 1 => SAFE_SW_STATE_KN_BROKEN
  | _ => SAFE_SW_STATE_KC_BROKEN

/-- The contactors for which a condition holds, as the bitmap of R353. -/
def contactorMap (p : Nat → Bool) : Nat := boolBit (p 0) + 2 * boolBit (p 1) + 4 * boolBit (p 2)

def commanded (b : Blk) (k : Nat) : Bool := b.get (cmdFld k) == 1
def fbClosed (b : Blk) (k : Nat) : Bool := b.get (fbFld k) == 1

/-- The feedback levels as read. -/
def setFb (kp kn kc : Bool) (b : Blk) : Blk :=
  ((b.put SAFE_SW_STATE_KP_FB (boolBit kp)).put SAFE_SW_STATE_KN_FB (boolBit kn)).put SAFE_SW_STATE_KC_FB (boolBit kc)

/-- R59, R66: this module runs its coil stages in series mode: module Y of a twin pair. -/
def seriesMode (b : Blk) : Bool := b.get SYS_STRAPS_TWIN_CFG == 1 && b.get SYS_STRAPS_TWIN_ID == 1

/-- R168, R421: the conditions of injection. -/
def imdMay (e : Env) (b : Blk) : Bool :=
  b.phase == .run && b.owner && !b.holdup && b.get TWIN_STA_TAKEOVER_HOLD == 0 && b.get HVS_STA_ISLAND_OK == 1 &&
  match e.get HVS_IMD_CFG_ROLE with
  | 1 => (b.mode == .commissioning || b.mode == .isolated || b.mode == .tripped || b.mode == .maintenance) &&
      !commanded b 0 && !commanded b 1 && !fbClosed b 0 && !fbClosed b 1
  | 2 => b.mode != .transient
  | _ => false

/-- R168: when a condition of injection ends, injection stops and the running cycle is discarded. -/
def imdGuard (e : Env) (b : Blk) : Blk := if b.get HVS_STA_IMD_INJECTING = 1 ∧ ¬ imdMay e b then imdStop b else b

/-- R142: a coil is released: both its switches open, its pick and the excursions of its feedback and its hold current end (R340). -/
def releaseCoil (k : Nat) (b : Blk) : Blk :=
  modSeq (fun q => { q with picks := q.picks.filter (fun p => p.1 != k), waitPick := q.waitPick.filter (· != k) })
    (dropExc SRC_COIL_FAULT k (dropExc SRC_SEQ_FB_LOST k ((b.put (cmdFld k) 0).put (dutyFld k) 0)))

def releaseAll (b : Blk) : Blk := releaseCoil 2 (releaseCoil 1 (releaseCoil 0 b))

/-- R140, R59: a coil is picked, or in series mode its switch is closed for as long as the partner picks; a pick that would be a
third waits. -/
def pickCoil (e : Env) (k : Nat) (b : Blk) : Blk :=
  let b1 := b.put (cmdFld k) 1
  if b1.seq.picks.length < 2 then
    modSeq (fun q => { q with picks := q.picks ++ [(k, e.now + ms (e.get SAFE_COIL_PICK_PICK))] }) b1
  else modSeq (fun q => { q with waitPick := q.waitPick ++ [k] }) b1

/-- Every timer and test of a sequence stops. -/
def clearSeqTimers (q : Seq) : Seq :=
  { q with confirmBy := none, fbBy := none, await := [], ssbTest := none, stagger := none, pcBy := none,
           pcDone := false, weld := none, pulseBy := none, coilTest := none, coilTestBy := none, announce := none }

/-- No SSB counts as confirmed on (R183). -/
def unconfirm (b : Blk) : Blk := modTrip (fun t => { t with confP := false, confN := false }) b

/-- WELD_RESULT's verdicts (R133): 0 not tested, 1 open verified, 2 open by feedback only, 3 welded. -/
def setVerdicts (kp kn kc : Nat) (b : Blk) : Blk :=
  nvRequest .retained (((b.put SAFE_WELD_RESULT_KP kp).put SAFE_WELD_RESULT_KN kn).put SAFE_WELD_RESULT_KC kc)

/-! ### Disconnect and abort -/

/-- R129, R135: disconnect step 1, or the abort of a connect: BK_G1 and BK_G2 low, and the confirmation starts. -/
def startDis (e : Env) (d : Dis) (b : Blk) : Blk :=
  setStep stepDisc1 (modSeq (fun q => { clearSeqTimers q with
    dis := some d, tctrl := none, partnerRideBy := none
    confirmBy := some (e.now + us (e.get SAFE_SSB_TIME_CONFIRM)) })
    ((unconfirm (ssbOff e b)).put SAFE_WELD_RESULT_PENDING 0))

/-- A disconnect that the host, the permit or the supply starts: where a reaction sequence runs it is that sequence's (R122,
R135). -/
def startDisCmd (e : Env) (supply : Bool) (b : Blk) : Blk :=
  startDis e ⟨false, b.watch.rrRun, supply, if b.watch.rrRun then b.watch.rrSrc else 0, false⟩ b

/-- R135 step 2: KP, KN and KC are released, and the feedback open time runs. -/
def disStep2 (e : Env) (b : Blk) : Blk :=
  setStep stepDisc2 (modSeq (fun q => { q with
    confirmBy := none, fbBy := some (e.now + ms (e.get SAFE_FB_TIME_OPEN)), await := [0, 1, 2] }) (releaseAll b))

/-- LAST_RESULT and ABORT_SRC at the end of a disconnect or an abort (R135, SAFE.SEQ_STA). -/
def disResult (d : Dis) (b : Blk) : Blk :=
  if d.abort then
    if d.fault ∨ d.supply then (b.put SAFE_SEQ_STA_LAST_RESULT 4).put SAFE_SEQ_STA_ABORT_SRC d.src
    else b.put SAFE_SEQ_STA_LAST_RESULT 3
  else if d.fault then (b.put SAFE_SEQ_STA_LAST_RESULT 4).put SAFE_SEQ_STA_ABORT_SRC b.watch.rrSrc
  else if d.supply then b.putFree SAFE_SEQ_STA_LAST_RESULT
  else b.put SAFE_SEQ_STA_LAST_RESULT 1

/-- R132, R135, R143: pulse `n` (1 SSB-P, 2 SSB-N) of `w` CORE periods starts at the end of the stagger; an ACTIVE announces it to its
standby. -/
def armPulse (e : Env) (n : Nat) (a : After) (w : Nat) (b : Blk) : Blk :=
  let d := us (e.get SAFE_SSB_TIME_STAGGER)
  modSeq (fun q => { q with
    stagger := some (e.now + d, a)
    announce := if b.role = .active then some (n, (e.clk.ns1 + 5 * d) % 2 ^ 32, (e.clk.ns1 + 5 * (d + w)) % 2 ^ 32) else none }) b

/-- R143: a pulse that a SOLO module starts at once waits, on an ACTIVE, for its announcement. -/
def startAnnounced (e : Env) (n : Nat) (a : After) (w : Nat) (f : Blk → Blk) (b : Blk) : Blk :=
  if b.role = .active then armPulse e n a w b else f b

/-! ### Reactions -/

/-- Running tests end with their outputs off, and the mode becomes TRIPPED (R122, R344). -/
def tripIdle (e : Env) (b : Blk) : Blk :=
  setMode e .tripped (setStep stepIdle
    ((modSeq clearSeqTimers (releaseAll (unconfirm (ssbOff e b)))).put SAFE_WELD_RESULT_PENDING 0))

/-- R343, R344: the action of a reaction at L3 or above. The thermal latch halts the shuttle in TRIPPED too (R281). -/
def react (e : Env) (lvl src : Nat) (b : Blk) : Blk :=
  let b := if lvl ≠ 5 ∨ b.pwr.latch then b else
    onlyIf (b.mode == .tripped) shuttleHalt { b with pwr := { b.pwr with latch := true } }
  match b.mode with
  | .connected =>
    match b.seq.dis with
    | some d => modSeq (fun q => { q with dis := some { d with fault := true } }) b
    | none =>
      if 4 ≤ lvl then startDis e ⟨false, true, false, src, false⟩ b
      else match b.seq.tctrl with
        | some _ => b
        | none => (modSeq (fun q => { q with tctrl := some (e.now + ms (e.get FAULT_T_CTRL)) }) b).put
            SAFE_STA_ZERO_REQUEST 1
  | .connecting =>
    match b.seq.dis with
    | some d => modSeq (fun q => { q with dis := some { d with fault := true, src := src } }) b
    | none => startDis e ⟨true, true, false, src, false⟩ b
  | .commissioning => tripIdle e b
  | .isolated => tripIdle e b
  | .maintenance => tripIdle e b
  | .tripped => b
  | .transient => b

/-- R122: a reaction has brought the module to TRIPPED in the present CORE cycle; it wins over a command of that cycle. -/
def trippedNow (e : Env) (b : Blk) : Bool := b.mode == .tripped && e.start.2.mode != .tripped

/-- A path to the partner is up (R408). -/
def pathUp (b : Blk) : Bool := b.get TWIN_STA_TL_PATH_OK == 1 || b.get TWIN_STA_FF_PATH_OK == 1

/-- A STANDBY's own raise at L3 or above: its reaction is the active's (R345); without a path to its partner it opens its own
outputs (R419), and at L5 its own latch opens them (R299). -/
def standbyReact (e : Env) (lvl : Nat) (b : Blk) : Blk :=
  let b := if lvl = 5 then { b with pwr := { b.pwr with latch := true } } else b
  if lvl = 5 ∨ ¬ pathUp b then releaseAll (ssbOff e b) else b

/-- One raise ingested: its record, and its level and source where it reacts. -/
def ingestOne (e : Env) (x : Blk × List (Nat × Nat)) (r : Raise) : Blk × List (Nat × Nat) :=
  if (srcRow r.src).kind = .record then (record e r x.1, x.2) else
  let (lvl, b1) := account e r x.1
  (b1, if lvl < 3 then x.2 else x.2 ++ [(lvl, r.src)])

/-- The reaction of one raise at L3 or above (R343 to R347). -/
def reactOne (e : Env) (b : Blk) (p : Nat × Nat) : Blk :=
  if b.role = .standby then standbyReact e p.1 b else react e p.1 p.2 b

/-- Raises in the order given are ingested, and then react (R349, R343). -/
def ingestAll (e : Env) (rs : List Raise) (b : Blk) : Blk :=
  let (b1, acts) := rs.foldl (ingestOne e) (b, [])
  acts.foldl (reactOne e) b1

/-- LOG_DROPPED (R364): raised when LOG.DROPPED rose above `before`, at most once per second. -/
def dropCheck (e : Env) (before : Nat) (b : Blk) : Blk :=
  if before < b.watch.dropped ∧ (b.watch.droppedAt.map (fun t => t + sec 1)).getD 0 ≤ e.now then
    ingestAll e [{ src := SRC_LOG_DROPPED }] { b with watch := { b.watch with droppedAt := some e.now } }
  else b

/-- The raises of one CORE cycle: all are ingested in the order of R349, then they react (R343 to R347). During a boot they
are held until it ends, at most 16 in a warm boot (R356, R363); with their own times; in OFF nothing is raised. -/
def raiseAll (e : Env) (rs : List Raise) (b : Blk) : Blk :=
  match b.phase with
  | .off => b
  | .coldBoot => { b with watch := { b.watch with held := b.watch.held ++ rs.map (stamped e) } }
  | .warmBoot => { b with watch := { b.watch with held := (b.watch.held ++ rs.map (stamped e)).take 16 } }
  | .run => dropCheck e b.watch.dropped (ingestAll e (orderRaises e b rs) b)

/-- A record-only raise on its own, held in a boot as every raise is (R363). -/
def recordRaise (e : Env) (r : Raise) (b : Blk) : Blk := raiseAll e [r] b

/-- R122, R364: the mode changes outside a reaction and the change is recorded. -/
def changeMode (e : Env) (m : Mode) (b : Blk) : Blk :=
  if b.mode = m then b else recordRaise e (modeRaise m b.mode) (modeTo e m b)

/-- R135 step 3, R138, R81: the end of a disconnect or an abort: the mode, the result, the final commits of a HOLDUP, and the weld
test that follows. -/
def finishDis (e : Env) (d : Dis) (b : Blk) : Blk :=
  let b1 := (modSeq (fun q => { clearSeqTimers q with dis := none, tctrl := none }) b).put SAFE_STA_ZERO_REQUEST 0
  let b2 := changeMode e (if d.fault then .tripped else .isolated) (disResult d b1)
  let b2 := if b2.holdup ∧ b2.get PWR_STA_RIDE_EXPIRED = 1 then nvRequest .log (nvRequest (.journal true) b2) else b2
  if d.abort then setStep stepIdle b2
  else if d.noWeld ∨ d.supply ∨ b2.holdup then
    setStep stepIdle (setVerdicts 0 0 0 (b2.put SAFE_WELD_RESULT_PENDING 0))
  else
    setStep stepWeldAfter (armPulse e 1 .pulse1 (us 200) (modSeq (fun q => { q with
      weld := some ⟨false, false, 0, none, none, 0, 0, 0⟩ })
      ((b2.put SAFE_WELD_RESULT_PENDING 1).put SAFE_WELD_RESULT_TRIES 0)))

/-- A single raise. -/
def raise (e : Env) (src code d0 d1 : Nat) (b : Blk) : Blk := raiseAll e [⟨src, code, d0, d1, false, none⟩] b

/-- R340: an object's excursion begins: it is raised once, and again only after it has ended. -/
def beginExc (e : Env) (src obj code d0 d1 : Nat) (b : Blk) : Blk :=
  if inExc b src obj then b else
  raise e src code d0 d1 { b with watch := { b.watch with exc := b.watch.exc ++ [(src, obj)] } }

/-- A condition judged: its excursion begins or ends. -/
def judge (e : Env) (holds : Bool) (src obj code d0 d1 : Nat) (b : Blk) : Blk :=
  if holds then beginExc e src obj code d0 d1 b else endExc e src obj b

/-- One condition to judge in a cycle: whether it holds, its source, the object, and the record's CODE and data. -/
structure Cond where
  holds : Bool
  src : Nat
  obj : Nat
  code : Nat
  d0 : Nat
  d1 : Nat
deriving DecidableEq, Repr

/-- The conditions of one cycle together with raises of the same cycle (R349). -/
def judgeWith (e : Env) (l : List Cond) (rs : List Raise) (b : Blk) : Blk :=
  let ended := (l.filter (fun c => !c.holds)).foldl (fun x c => endExc e c.src c.obj x) b
  let new := l.filter (fun c => c.holds && !inExc b c.src c.obj)
  raiseAll e (rs ++ new.map (fun c => ⟨c.src, c.code, c.d0, c.d1, false, none⟩))
    { ended with watch := { ended.watch with exc := ended.watch.exc ++ new.map (fun c => (c.src, c.obj)) } }

/-- The conditions of one cycle: those that begin are raised together in the order of R349, those that no longer hold end. -/
def judgeAll (e : Env) (l : List Cond) (b : Blk) : Blk := judgeWith e l [] b

/-- The 32-bit data word of a quantity (R353). -/
def dataWord (x : Int) : Nat := rawBits 32 x

/-! ### Abort and withdrawal -/

/-- R129: the abort of a connect by the permit's withdrawal. -/
def abortConnect (e : Env) (b : Blk) : Blk :=
  if b.owner ∧ b.mode = .connecting ∧ b.seq.dis = none then startDis e ⟨true, false, false, 0, false⟩ b else b

/-- R129: the abort of a connect by a lost precondition whose source, 0 for none, reacts below L3. -/
def precondLost (e : Env) (src : Nat) (b : Blk) : Blk :=
  if b.owner ∧ b.mode = .connecting ∧ b.seq.dis = none then startDis e ⟨true, false, true, src, false⟩ b else b

/-- R129: the causes of an abort that ends in TRIPPED, whatever level their source reacts at. -/
def abortTripped (e : Env) (src : Nat) (b : Blk) : Blk :=
  if b.owner ∧ b.mode = .connecting ∧ b.seq.dis = none then startDis e ⟨true, true, false, src, false⟩ b else b

/-- R122, R329: the PSF connect permit is withdrawn. -/
def permitWithdrawn (e : Env) (b : Blk) : Blk :=
  if ¬ b.owner then b else
  match b.mode with
  | .connecting => abortConnect e (raise e SRC_PERMIT_WITHDRAWN 0 0 0 b)
  | .connected =>
    let b1 := raise e SRC_PERMIT_WITHDRAWN 0 0 0 b
    if b1.seq.dis = none ∧ b1.mode = .connected then startDisCmd e false b1 else b1
  | _ => b

/-- R123: where MAINTENANCE and TRIPPED return to. -/
def returnTarget (b : Blk) : Mode :=
  if b.get SAFE_STA_PCV_CONFIRMED = 0 then .commissioning
  else if b.mode = .maintenance ∧ b.seq.maintFromTripped ∧ ¬ b.seq.resetSince then .tripped
  else .isolated

/-- A test that runs in MAINTENANCE, one that a disconnect left pending among them (R146), ends with its outputs off (R122,
R144). -/
def stopTests (e : Env) (b : Blk) : Blk :=
  if seqStep b = stepCoilTest ∨ b.seq.weld.isSome then
    setStep stepIdle ((modSeq clearSeqTimers (releaseAll (ssbOff e b))).put SAFE_WELD_RESULT_PENDING 0)
  else b

/-- R122: MAINTENANCE ends: running tests stop and the mode is the return target. -/
def exitMaint (e : Env) (b : Blk) : Blk :=
  let b1 := stopTests e b
  changeMode e (returnTarget b1) b1

end Sys2Proof.Machine
end

