-- ==== Sys2Proof/Machine/SeqCmd.lean ====
section
/-! DEFINITION. The sequencer's commands: host commands of SAFE.SEQ_CMD, confirmations and timeouts of the connect and
disconnect sequences, switch and weld tests, coil tests (R120 to R147). -/

namespace Sys2Proof.Machine

/-- A host command completes with a status. -/
def finish (st : Status) (b : Blk) : Blk := { b with lastStatus := st }

/-- A command to the sequencer acts only outside OFF and the boots (R36, R65); a STANDBY refuses it (R117). What HOLDUP refuses is said
with each (R144). -/
def seqHost (f : Blk → Blk) (b : Blk) : Blk :=
  if ¬ b.running then b else if b.role = .standby then finish .denied b else f b

/-- A host command acts only while GRA is answered: outside OFF and the boots (R36, R65), and not in HOLDUP (R80, R391, R472); a STANDBY
refuses it (R117). -/
def hostCmd (f : Blk → Blk) (b : Blk) : Blk := seqHost (fun b => if b.holdup then finish .denied b else f b) b

/-- A host command that a STANDBY executes too (R117); there is none in HOLDUP (R80, R472). -/
def localCmd (f : Blk → Blk) (b : Blk) : Blk := if ¬ b.running then b else if b.holdup then finish .denied b else f b

/-- R120: a refused sequencer command: DENIED, LAST_RESULT refused. -/
def seqDenied (b : Blk) : Blk := finish .denied (b.put SAFE_SEQ_STA_LAST_RESULT 2)

def seqBusy (b : Blk) : Bool := seqStep b != stepIdle

/-- A node's voltage at the latest T, 10 mV: 0 HVP, 1 MIDP, 2 LNKP, 3 HVN, 4 MIDN, 5 LNKN. -/
def nodeV (b : Blk) (n : Nat) : Int := b.int (HVS_V_NODE n)

/-- The maintenance key is demanded (R307): a pair with that function is, or none is locked in its released direction. -/
def maintKey (e : Env) (b : Blk) : Bool :=
  (List.range 6).any (fun n => e.get (SAFE_SI_FUNC_P n) == 4 && (b.safe.pairs[n]?.map (fun p => p.dem && !p.locked)).getD false)

/-- A twin pair's partner is in STANDBY, healthy and in follow (R124, condition 1). -/
def partnerReady (b : Blk) : Bool := b.get TWIN_PARTNER_ROLE == 2 && b.get TWIN_PARTNER_HEALTHY == 1

/-- The preconditions of R124 that fail, bit n for condition n. -/
def connectRefuse (b : Blk) : Nat :=
  let c : List Bool :=
    [b.mode != .isolated,
     b.role == .standby || (b.role == .active && !partnerReady b),
     !(decide (iabs (nodeV b 1 - nodeV b 3) < 6000) && decide (iabs (nodeV b 4 - nodeV b 3) < 6000)),
     fbClosed b 0 || fbClosed b 1 || fbClosed b 2,
     b.get SAFE_STA_PERMIT == 0,
     activeAt b 2,
     b.get PWR_STA_HOLD_READY == 0,
     b.holdup,
     b.keep.sec == .opened,
     isActive b SRC_REF_LOSS || isActive b SRC_PLLC_UNLOCK || isActive b SRC_PLLN_UNLOCK || isActive b SRC_TRIP_CLK_LOSS ||
       inExc b SRC_ISLAND_FAULT 1,
     b.get SAFE_SW_STATE_KP_BROKEN == 1 || b.get SAFE_SW_STATE_KN_BROKEN == 1 || b.get SAFE_SW_STATE_KC_BROKEN == 1,
     b.seq.coolBy.isSome,
     b.get SAFE_WELD_RESULT_PENDING == 1 || b.get SAFE_WELD_RESULT_KP == 3 || b.get SAFE_WELD_RESULT_KN == 3
       || b.get SAFE_WELD_RESULT_KC == 3,
     b.chain.cmus.any (fun m => m.state == 4 && m.serves.isSome),
     b.get PWR_STA_VCOIL_OK == 0]
  (mapIdx (fun n x => boolBit x * 2 ^ n) 0 c).sum

/-! ### Weld pulses -/

/-- R132: pulse 1 turns SSB-P on, pulse 2 SSB-N, for 200 µs. DESIGN CHOICE: a BK_FB that still reads on does not keep the pulse back
(notes/assumptions/155.md). The first pulse of a test starts the weld window, each pulse 1
the retry interval (R134). -/
def startPulse (e : Env) (n : Nat) (b : Blk) : Blk :=
  match b.seq.weld with
  | none => b
  | some w =>
    let w1 := if n = 1 then
        { w with pulse := 1, retryBy := some (e.now + ms (100 * e.get SAFE_WELD_CTL_RETRY))
                 windowBy := some (w.windowBy.getD (e.now + sec (e.get SAFE_WELD_CTL_WINDOW))) }
      else { w with pulse := 2 }
    let b1 := modSeq (fun q => { q with weld := some w1, pulseBy := some (e.now + us 200), stagger := none }) b
    let b2 := ssbSet e (n - 1) true b1
    if n = 1 then b2.bump SAFE_WELD_RESULT_TRIES else b2

/-- R133, R134: one contactor's verdict from a pulse: `fol` follows, `con` conclusive, `fb` its feedback closed, `accused` a pulse
that follows accuses it; the verdict before is `v`. R134 keeps "open verified" over a later inconclusive pair; that "welded" is kept
within a test too is a DESIGN CHOICE (notes/assumptions/105.md). -/
def verdict (v : Nat) (fol con fb accused : Bool) : Nat :=
  if fb ∨ v = 3 then 3
  else if fol then (if accused then 3 else 2)
  else if con then 1
  else if v = 1 then 1 else 2

/-- Connect step 2: KN and KC are picked with the SSBs off (R125). -/
def connStep2 (e : Env) (b : Blk) : Blk :=
  setStep 2 (modSeq (fun q => { q with weld := none, fbBy := some (e.now + ms (e.get SAFE_FB_TIME_CLOSE)), await := [1, 2] })
    (pickCoil e 2 (pickCoil e 1 b)))

/-- The end of a weld test (R134): PENDING clears; in connect step 1 the sequence goes on. -/
def weldDone (e : Env) (w : Weld) (b : Blk) : Blk :=
  let b1 := (modSeq (fun q => { q with weld := none, pulseBy := none, pulseEnd := some e.now, stagger := none, announce := none }) (ssbOff e b)).put
    SAFE_WELD_RESULT_PENDING 0
  if w.inConnect then
    (if b1.mode = .connecting ∧ b1.seq.dis = none then
      (if w.kp = 3 ∨ w.kn = 3 ∨ w.kc = 3 then abortTripped e SRC_WELD_DETECTED b1 else connStep2 e b1) else b1)
  else setStep stepIdle (if w.demand then b1.put SAFE_SEQ_STA_LAST_RESULT 1 else b1)

/-- R134: a test ends with a verdict still "open by feedback only": WELD_UNVERIFIED names those contactors. -/
def weldUnverified (e : Env) (w : Weld) (b : Blk) : Blk :=
  let open_ := contactorMap (fun k => match k with
    | 0 => w.kp == 2
    | 1 => w.kn == 2
    | _ => w.kc == 2)
  let b1 := if open_ = 0 then b else raise e SRC_WELD_UNVERIFIED open_ 0 0 b
  if b1.seq.weld = none then b1 else weldDone e w b1

/-- R132 to R134: the end of a pulse. `d` and `ee` are the bus node against the battery pole before the pulse and at its end,
`midD` and `midE` the MID node against its pole, in 10 mV; `bk` whether BK_FB reported on. -/
def weldPulseEnd (d ee midD midE : Int) (bk kp kn kc : Bool) (e : Env) (b : Blk) : Blk :=
  match b.seq.weld with
  | none => b
  | some w =>
    let fol := decide (5000 ≤ iabs d) && decide (2 * iabs ee ≤ iabs d)
    let con := decide (5000 ≤ iabs d) && !fol
    let b1 := imdGuard e (setFb kp kn kc (modSeq (fun q => { q with pulseBy := none, pulseEnd := some e.now, announce := none })
      (ssbOff e (setBk e (w.pulse - 1) bk b))))
    let w1 := if w.pulse = 1 then
        { w with kp := verdict w.kp fol con kp (!kc && !kp), kc := verdict w.kc fol con kc (!kc && !kp)
                 kn := if kn then 3 else w.kn }
      else { w with kn := if fol then 3 else verdict w.kn fol con kn true
                    kp := if kp then 3 else w.kp, kc := if kc then 3 else w.kc }
    let onOk := bk && (decide (iabs midD < 5000) ||
      (if w.pulse = 1 then decide (50 * iabs midE ≤ iabs (nodeV b 0 - nodeV b 3)) else decide (iabs midE ≤ 500)))
    let welded := contactorMap (fun k => match k with
      | 0 => w1.kp == 3 && w.kp != 3
      | 1 => w1.kn == 3 && w.kn != 3
      | _ => w1.kc == 3 && w.kc != 3)
    let b2 := modSeq (fun q => { q with weld := some w1 }) (setVerdicts w1.kp w1.kn w1.kc b1)
    let b3 := raiseAll e ((if onOk then [] else [{ src := SRC_SSB_ON_FAIL, code := w.pulse }]) ++
      (if welded = 0 then [] else [{ src := SRC_WELD_DETECTED, code := welded }])) b2
    let b4 := if onOk then b3 else abortTripped e SRC_SSB_ON_FAIL b3
    if b4.seq.weld = none then b4
    else if w.pulse = 1 then armPulse e 2 .pulse2 (us 200) b4
    else if w1.demand ∨ (w1.kp ≠ 2 ∧ w1.kn ≠ 2 ∧ w1.kc ≠ 2) then weldDone e w1 b4
    else b4

/-- R134: the retry interval ends: both pulses again, unless one still runs. -/
def weldRetry (e : Env) (b : Blk) : Blk :=
  if b.seq.pulseBy.isSome ∨ b.seq.stagger.isSome then b else startAnnounced e 1 .pulse1 (us 200) (startPulse e 1) b

/-- R134: the weld window ends. -/
def weldWindowEnd (e : Env) (b : Blk) : Blk :=
  match b.seq.weld with
  | none => b
  | some w => weldUnverified e w b

/-! ### Host commands -/

def connectDo (e : Env) (b : Blk) : Blk := seqHost (fun b =>
  let m := connectRefuse b
  if m ≠ 0 then seqDenied (b.put SAFE_SEQ_STA_REFUSE m) else
  let b1 := changeMode e .connecting b
  let fresh := b1.get SAFE_WELD_RESULT_KP = 1 ∧ b1.get SAFE_WELD_RESULT_KN = 1 ∧ b1.get SAFE_WELD_RESULT_KC = 1
  finish .ok (if fresh then connStep2 e b1 else
    startAnnounced e 1 .pulse1 (us 200) (startPulse e 1) (setStep stepWeldConnect (((modSeq (fun q => { q with
      weld := some ⟨true, false, 0, none, none, 0, 0, 0⟩ }) b1).put SAFE_WELD_RESULT_PENDING 1).put
      SAFE_WELD_RESULT_TRIES 0)))) b

def disconnectDo (e : Env) (b : Blk) : Blk := seqHost (fun b =>
  match b.mode with
  | .connecting => match b.seq.dis with
    | none => finish .ok (startDis e ⟨true, false, false, 0, false⟩ b)
    | some _ => seqDenied b
  | .connected => match b.seq.dis with
    | none => finish .ok (startDisCmd e false b)
    | some _ => seqDenied b
  | _ => seqDenied b) b

/-- A disconnect runs its steps 1 and 2, or a connect its abort (R146). -/
def disRunning (b : Blk) : Bool := b.seq.dis.isSome

def enterMaintDo (e : Env) (b : Blk) : Blk := seqHost (fun b =>
  if (b.mode = .commissioning ∨ b.mode = .isolated ∨ b.mode = .tripped) ∧ ¬ trippedNow e b ∧ maintKey e b ∧ ¬ b.holdup ∧ ¬ b.pwr.latch
      ∧ ¬ disRunning b then
    let t := b.mode == .tripped
    finish .ok (changeMode e .maintenance (modSeq (fun q => { q with maintFromTripped := t, resetSince := false }) b))
  else seqDenied b) b

def exitMaintDo (e : Env) (b : Blk) : Blk := seqHost (fun b =>
  if b.mode = .maintenance then finish .ok (exitMaint e b) else seqDenied b) b

def commissionDo (e : Env) (b : Blk) : Blk := seqHost (fun b =>
  if b.mode = .isolated ∧ ¬ disRunning b then finish .ok (changeMode e .commissioning b) else seqDenied b) b

/-- R146: a weld or coil test starts only while nothing runs and every switch is commanded off. -/
def testAllowed (b : Blk) : Bool :=
  b.mode == .maintenance && !seqBusy b && b.get SAFE_WELD_RESULT_PENDING == 0 &&
  !(commanded b 0 || commanded b 1 || commanded b 2) &&
  b.get SAFE_SW_STATE_SSBP_CMD == 0 && b.get SAFE_SW_STATE_SSBN_CMD == 0 && !b.holdup

def weldTestDo (e : Env) (b : Blk) : Blk := seqHost (fun b =>
  if testAllowed b then
    finish .ok (startAnnounced e 1 .pulse1 (us 200) (startPulse e 1) (setStep stepWeldAfter (((modSeq (fun q => { q with
      weld := some ⟨false, true, 0, none, none, 0, 0, 0⟩ }) b).put SAFE_WELD_RESULT_PENDING 1).put
      SAFE_WELD_RESULT_TRIES 0)))
  else seqDenied b) b

/-- COIL_TEST: the argument names 0 KP, 1 KN, 2 KC; 3 to 7 are refused with CONFLICT. -/
def coilTestDo (arg : Nat) (e : Env) (b : Blk) : Blk := seqHost (fun b =>
  if 2 < arg then finish .conflict b else
  if testAllowed b then
    finish .ok (setStep stepCoilTest (modSeq (fun q => { q with
      coilTest := some (arg, e.now, 0), coilTestBy := some (e.now + sec 1)
      fbBy := some (e.now + ms (e.get SAFE_FB_TIME_CLOSE)), await := [arg] }) (imdGuard e (pickCoil e arg b))))
  else seqDenied b) b

/-- R120, R142: the end of the 1 s coil test releases the contactor. -/
def coilTestEnd (e : Env) (b : Blk) : Blk :=
  match b.seq.coilTest with
  | none => b
  | some (k, _, c) => modSeq (fun q => { q with
      coilTest := some (k, e.now, c), coilTestBy := none
      fbBy := some (e.now + ms (e.get SAFE_FB_TIME_OPEN)), await := [k] }) (releaseCoil k b)

/-- R137: ACK_INSPECT clears the marks named in its argument, in ISOLATED or MAINTENANCE. -/
def ackInspectDo (arg : Nat) (_ : Env) (b : Blk) : Blk := seqHost (fun b =>
  if b.mode = .isolated ∨ b.mode = .maintenance then
    finish .ok (nvRequest .retained ([0, 1, 2].foldl (fun x k => if bitOf arg k then x.put (brokenFld k) 0 else x) b))
  else seqDenied b) b

/-! ### Feedback -/

/-- Whole milliseconds since a time. -/
def msSince (e : Env) (t : Nat) : Nat := (e.now - t) / 200000

/-- R125 step 3: SSB-P alone is on for the confirm time. -/
def ssbPTest (e : Env) (b : Blk) : Blk :=
  modSeq (fun q => { q with ssbTest := some (e.now + us (e.get SAFE_SSB_TIME_CONFIRM)) }) (ssbSet e 0 true b)

/-- R125: steps 2 and 6 are confirmed once every awaited feedback reads closed; a coil test notes its close time. A contactor that
reads closed without its command takes precondition 3 from a connect (R129). -/
def feedbackClosed (kp kn kc : Bool) (e : Env) (b : Blk) : Blk :=
  let stray := [0, 1, 2].any (fun k => fbClosed (setFb kp kn kc b) k && !fbClosed b k && !commanded b k)
  let b0 := imdGuard e (setFb kp kn kc b)
  let b1 := if stray then precondLost e 0 b0 else b0
  if ¬ b1.owner ∨ ¬ b1.seq.fbBy.isSome ∨ ¬ b1.seq.await.all (fun k => fbClosed b1 k) then b1 else
  let b2 := modSeq (fun q => { q with fbBy := none, await := [] }) b1
  if seqStep b1 = 2 then
    startAnnounced e 1 .ssbP (us (e.get SAFE_SSB_TIME_CONFIRM)) (ssbPTest e) (setStep 3 b2)
  else if seqStep b1 = 6 then
    setStep 7 (modSeq (fun q => { q with fbBy := some (e.now + ms (e.get SAFE_FB_TIME_OPEN)), await := [2] })
      (releaseCoil 2 b2))
  else if seqStep b1 = stepCoilTest ∧ b1.seq.coilTestBy.isSome then
    modSeq (fun q => { q with coilTest := q.coilTest.map (fun t => (t.1, t.2.1, msSince e t.2.1)) }) b2
  else b1

/-- R129, R147: the feedback close time ends. -/
def feedbackCloseTimeout (e : Env) (b : Blk) : Blk :=
  if (seqStep b = 2 ∨ seqStep b = 6 ∨ (seqStep b = stepCoilTest ∧ b.seq.coilTestBy.isSome)) ∧ b.seq.fbBy.isSome then
    abortTripped e SRC_SEQ_FB_CLOSE
      (raise e SRC_SEQ_FB_CLOSE (contactorMap (fun k => b.seq.await.contains k && !fbClosed b k)) 0 0
        (modSeq (fun q => { q with fbBy := none, await := [] }) b))
  else b

/-- R125 step 8: CONNECTED. -/
def connComplete (e : Env) (b : Blk) : Blk :=
  setStep stepIdle (changeMode e .connected (b.put SAFE_SEQ_STA_LAST_RESULT 1))

/-- R185, R184: the reaction that runs follows a trip: a latch of either module, or the island limit latch. -/
def tripStands (b : Blk) : Bool :=
  b.trip.at_.isSome || b.get HVS_STA_LIMIT_LATCH == 1 || b.watch.rrSrc == SRC_CLICK_TRIP

/-- Every awaited contactor reads open: connect step 7, disconnect step 2, the fallback, or a coil test's release. -/
def feedbackOpened (kp kn kc : Bool) (e : Env) (b : Blk) : Blk :=
  let b1 := imdGuard e (setFb kp kn kc b)
  if ¬ b1.owner ∨ ¬ b1.seq.fbBy.isSome ∨ b1.seq.await.any (fun k => fbClosed b1 k) then b1 else
  let b2 := modSeq (fun q => { q with fbBy := none, await := [] }) b1
  if seqStep b1 = 7 then connComplete e b2
  else if seqStep b1 = stepDisc2 ∨ seqStep b1 = stepFallback then
    match b2.seq.dis with
    | some d => finishDis e d (if seqStep b1 = stepDisc2 ∧ d.fault ∧ tripStands b2 then
        modTrip (fun t => { t with clears := (t.clears + 1) % 256 }) (latchClear e b2) else b2)
    | none => b2
  else if seqStep b1 = stepCoilTest ∧ ¬ b1.seq.coilTestBy.isSome then
    match b2.seq.coilTest with
    | some (k, t, c) =>
      setStep stepIdle (modSeq clearSeqTimers ((((b2.put SAFE_COIL_TIMES_CLOSE_MS (min 255 c)).put SAFE_COIL_TIMES_OPEN_MS
        (min 255 (msSince e t))).put SAFE_COIL_TIMES_COIL k).put SAFE_SEQ_STA_LAST_RESULT 1))
    | none => b2
  else b1

/-- R129, R135, R137: the feedback open time ends. -/
def feedbackOpenTimeout (e : Env) (b : Blk) : Blk :=
  if ¬ b.seq.fbBy.isSome then b else
  let late := contactorMap (fun k => b.seq.await.contains k && fbClosed b k)
  let b1 := modSeq (fun q => { q with fbBy := none, await := [] }) b
  if seqStep b = stepDisc2 ∨ seqStep b = stepFallback then
    let b2 := raise e SRC_SEQ_FB_OPEN late 0 0 b1
    match b2.seq.dis with
    | some d => finishDis e { d with fault := true } b2
    | none => b2
  else if seqStep b = 7 ∨ (seqStep b = stepCoilTest ∧ ¬ b.seq.coilTestBy.isSome) then
    abortTripped e SRC_SEQ_FB_OPEN (raise e SRC_SEQ_FB_OPEN late 0 0 b1)
  else b

/-- R147, R143: the feedback of a contactor commanded closed reads open on three samples, once until it is released (R340);
one still being awaited is none. -/
def feedbackLost (kp kn kc : Bool) (e : Env) (b : Blk) : Blk :=
  let reads := fun k => match k with
    | 0 => kp
    | 1 => kn
    | _ => kc
  let lost := [0, 1, 2].filter (fun k => b.owner && commanded b k && !reads k && !(b.seq.await.contains k) &&
    !inExc b SRC_SEQ_FB_LOST k)
  let b1 := imdGuard e (setFb kp kn kc b)
  if lost.isEmpty then b1 else
  raise e SRC_SEQ_FB_LOST (contactorMap lost.contains) 0 0
    { b1 with watch := { b1.watch with exc := b1.watch.exc ++ lost.map (fun k => (SRC_SEQ_FB_LOST, k)) } }

/-! ### The connect sequence -/

/-- R130: the end of the confirm time in steps 3 and 4. Voltages in 10 mV, the largest |I| of the window in mA. -/
def ssbTestEnd (bk : Bool) (maxI : Nat) (midp hvp midn hvn : Int) (e : Env) (b : Blk) : Blk :=
  if ¬ b.seq.ssbTest.isSome then b else
  let b1 := modSeq (fun q => { q with ssbTest := none, pulseEnd := some e.now, announce := none }) b
  let stag := fun a => modSeq (fun q => { q with stagger := some (e.now + us (e.get SAFE_SSB_TIME_STAGGER), a) })
  if seqStep b = 3 then
    let on := bk && decide (50 * iabs (midp - hvp) ≤ hvp - hvn)
    let blk := decide (maxI ≤ 1000)
    let b2 := setBk e 0 bk b1
    if on ∧ blk then stag .ssbN (ssbSet e 0 false (modTrip (fun t => { t with confP := true }) b2))
    else abortTripped e (if on then SRC_SSB_BLOCK_FAIL else SRC_SSB_ON_FAIL)
      (raiseAll e ((if on then [] else [{ src := SRC_SSB_ON_FAIL, code := 1 }]) ++
        (if blk then [] else [{ src := SRC_SSB_BLOCK_FAIL, code := 2 }])) b2)
  else if seqStep b = 4 then
    let on := bk && decide (iabs (midn - hvn) ≤ 500)
    let blk := decide (maxI ≤ 1000)
    let b2 := setBk e 1 bk b1
    if on ∧ blk then stag .precharge (modTrip (fun t => { t with confN := true }) b2)
    else abortTripped e (if on then SRC_SSB_BLOCK_FAIL else SRC_SSB_ON_FAIL)
      (raiseAll e ((if on then [] else [{ src := SRC_SSB_ON_FAIL, code := 2 }]) ++
        (if blk then [] else [{ src := SRC_SSB_BLOCK_FAIL, code := 1 }])) b2)
  else b1

/-- R125, R132: what starts at the end of the stagger. -/
def staggerEnd (e : Env) (b : Blk) : Blk :=
  match b.seq.stagger with
  | none => b
  | some (_, a) =>
    let b1 := modSeq (fun q => { q with stagger := none }) b
    match a with
    | .ssbP => ssbPTest e b1
    | .ssbN => setStep 4 (modSeq (fun q => { q with ssbTest := some (e.now + us (e.get SAFE_SSB_TIME_CONFIRM)) })
        (ssbSet e 1 true b1))
    | .precharge => setStep 5 (modSeq (fun q => { q with
        pcAt := e.now, pcBy := some (e.now + ms (10 * e.get SAFE_PC_HOLD_TIMEOUT)) }) (ssbSet e 0 true b1))
    | .pulse1 => startPulse e 1 b1
    | .pulse2 => startPulse e 2 b1

/-- Step 6: KP is picked (R125). -/
def connStep6 (e : Env) (b : Blk) : Blk :=
  setStep 6 (modSeq (fun q => { q with
    pcBy := none, pcDone := false, fbBy := some (e.now + ms (e.get SAFE_FB_TIME_CLOSE)), await := [0] }) (pickCoil e 0 b))

/-- R125: duration and peak current of step 5. -/
def pcRecord (peak : Nat) (e : Env) (b : Blk) : Blk :=
  (b.put SAFE_PC_LAST_DURATION (min 65535 (msSince e b.seq.pcAt))).put SAFE_PC_LAST_PEAK (min 65535 (peak / 1000))

/-- R125: the pre-charge hold: the largest difference over the last `held` µs, 10 mV, and the peak |I| of the step, mA. -/
def prechargeHold (dv : Int) (held peak : Nat) (e : Env) (b : Blk) : Blk :=
  if seqStep b = 5 ∧ b.seq.pcBy.isSome ∧ iabs dv ≤ e.get SAFE_PC_DV_DV ∧ 1000 * e.get SAFE_PC_HOLD_HOLD ≤ held then
    let b1 := pcRecord peak e b
    if b1.seq.picks = [] then connStep6 e b1 else modSeq (fun q => { q with pcBy := none, pcDone := true }) b1
  else b

/-- R127: the cooling time. -/
def startCool (e : Env) (b : Blk) : Blk := modSeq (fun q => { q with coolBy := some (e.now + sec (e.get SAFE_PC_R_COOL)) }) b

/-- R127: the cooling time has passed. -/
def pcCoolEnd (_ : Env) (b : Blk) : Blk := modSeq (fun q => { q with coolBy := none }) b

/-- R129: the pre-charge timeout. -/
def pcTimeout (peak : Nat) (e : Env) (b : Blk) : Blk :=
  if seqStep b = 5 ∧ b.seq.pcBy.isSome then
    abortTripped e SRC_PC_TIMEOUT (raise e SRC_PC_TIMEOUT 0 0 0 (startCool e (pcRecord peak e b)))
  else b

/-- The largest |I| of R126 in mA: 1.25 × |ΔV| / R_pc + 2 A; ΔV in 10 mV, R_pc in 0.1 Ω. -/
def pcLimit (dv : Int) (rpc : Nat) : Int := 125 * iabs dv / rpc + 2000

/-- R126: current above the limit for `n` consecutive samples of 1 µs. -/
def pcOvercurrent (i dv : Int) (n peak : Nat) (e : Env) (b : Blk) : Blk :=
  let lim := pcLimit dv (e.get SAFE_PC_R_RPC)
  if b.owner ∧ seqStep b = 5 ∧ lim < iabs i ∧ 20 ≤ n then
    abortTripped e SRC_PC_OVERCURRENT
      (raise e SRC_PC_OVERCURRENT 0 (dataWord (iabs i)) (dataWord lim) (startCool e (pcRecord peak e b)))
  else b

/-! ### Coils -/

def coilIFld (k : Nat) : Fld := match k with
  | 0 => SAFE_COIL_KP_CURRENT
  | 1 => SAFE_COIL_KN_CURRENT
  | _ => SAFE_COIL_KC_CURRENT
def coilRFld (k : Nat) : Fld := match k with
  | 0 => SAFE_COIL_KP_RESISTANCE
  | 1 => SAFE_COIL_KN_RESISTANCE
  | _ => SAFE_COIL_KC_RESISTANCE

/-- R295: each band's coil PWM frequency in kHz. -/
def bandFreq (band : Nat) : Nat := match band with
  | 0 => 16
  | 1 => 20
  | 2 => 25
  | 3 => 25
  | _ => 20

/-- R295: each band's coil base hold duty, %, and its hold current window, % of the last pick current. -/
def bandDuty (band : Nat) : Nat := match band with
  | 0 => 40
  | 1 => 35
  | 2 => 30
  | 3 => 30
  | _ => 35
def bandWindow (band : Nat) : Nat × Nat := match band with
  | 0 => (20, 75)
  | 1 => (20, 70)
  | 2 => (20, 65)
  | 3 => (20, 65)
  | _ => (25, 70)

/-- When a coil's pick ends. -/
def pickTimer (k : Nat) (b : Blk) : Option Nat := (b.seq.picks.find? (fun p => p.1 == k)).map Prod.snd

/-- R140, R141, R296: the coil current `i` in mA is measured, R = VCOIL / I, and the coil is held at the present band's duty and
frequency. -/
def holdStart (k i : Nat) (b : Blk) : Blk :=
  let r := if i = 0 then 65535 else min 65535 (b.get PWR_SUPPLY_VCOIL * 1000 / i)
  let band := b.get THERM_STA_BAND
  let b1 := ((b.put (coilIFld k) i).put (coilRFld k) r).put (dutyFld k) (bandDuty band)
  { b1 with therm := { b1.therm with coils := setAt b1.therm.coils k ⟨i, r, r, bandDuty band, bandFreq band⟩ } }

/-- R140: the end of a pick: the coil current `i` in mA is measured, except in series mode (R59), where the partner measures; a
waiting pick starts, the coil is held, and step 6 follows a finished pre-charge once the picks of KN and KC have ended (R125). -/
def pickEnd (k i : Nat) (e : Env) (b : Blk) : Blk :=
  if ¬ b.seq.picks.any (fun p => p.1 == k) then b else
  let b1 := modSeq (fun q => { q with picks := q.picks.filter (fun p => p.1 != k) }) b
  let b2 := if seriesMode b then b1 else holdStart k i b1
  let b3 := match b2.seq.waitPick with
    | [] => b2
    | j :: rest => modSeq (fun q => { q with
        waitPick := rest
        picks := q.picks ++ [(j, e.now + ms (e.get SAFE_COIL_PICK_PICK))] }) b2
  let b4 := if b3.seq.pcDone ∧ b3.seq.picks = [] ∧ seqStep b3 = 5 then connStep6 e b3 else b3
  if ¬ seriesMode b ∧ (i < 100 ∨ 6000 < i) then raise e SRC_COIL_FAULT (2 ^ k) i (if i < 100 then 100 else 6000) b4 else b4

/-- R295, R147: a hold current outside the band's window for 100 ms. -/
def holdCurrent (k i held : Nat) (e : Env) (b : Blk) : Blk :=
  let (lo, hi) := bandWindow (b.get THERM_STA_BAND)
  let ip := (b.therm.coils[k]?.map Coil.pickI).getD 0
  let bad := decide (100 * i < lo * ip) || decide (hi * ip < 100 * i)
  if ¬ commanded b k ∨ b.seq.picks.any (fun p => p.1 == k) ∨ seriesMode b then b else
  judge e (bad && decide (100000 ≤ held) || bad && inExc b SRC_COIL_FAULT k) SRC_COIL_FAULT k (2 ^ k) i
    ((if 100 * i < lo * ip then lo * ip else hi * ip) / 100) (b.put (coilIFld k) i)

/-! ### Disconnect -/

/-- R135 step 1 confirmed: BK_FB low and 50 consecutive samples at or below I_ZERO; `maxI` is their largest |I| in mA. The
abort of a connect releases its coils once |I| is at or below I_ZERO (R129). -/
def zeroConfirmed (bk1 bk2 : Bool) (maxI n : Nat) (e : Env) (b : Blk) : Blk :=
  let b1 := setBk e 1 bk2 (setBk e 0 bk1 b)
  match b.seq.dis with
  | none => b1
  | some d =>
    if seqStep b = stepDisc1 ∧ maxI ≤ e.get SAFE_I_ZERO ∧ (d.abort ∨ (¬ bk1 ∧ ¬ bk2 ∧ 50 ≤ n)) then disStep2 e b1 else b1

/-- R137: a contactor is closed: it reads closed. DEDUCED: also where its feedback was lost while it was held closed (R147;
notes/assumptions/159.md). -/
def closedNow (b : Blk) (k : Nat) : Bool := fbClosed b k || (commanded b k && inExc b SRC_SEQ_FB_LOST k)

/-- R137: the confirm time has ended. While |I| exceeds I_ZERO the fallback runs; otherwise SSB_BLOCK_FAIL names each SSB
whose BK_FB reads high or whose follow flag is set, and the contactors open. -/
def disTimeout (bk1 bk2 : Bool) (i : Int) (e : Env) (b : Blk) : Blk :=
  if seqStep b ≠ stepDisc1 ∨ ¬ b.seq.dis.isSome then b else
  let b1 := setBk e 1 bk2 (setBk e 0 bk1 b)
  if (e.get SAFE_I_ZERO : Int) < iabs i then
    let broke := contactorMap (closedNow b)
    let b2 := [0, 1, 2].foldl (fun x k => if closedNow b k then x.put (brokenFld k) 1 else x) (releaseAll b1)
    let b3 := setStep stepFallback (modSeq (fun q => { q with
      confirmBy := none, fbBy := some (e.now + ms (e.get SAFE_FB_TIME_OPEN)), await := [0, 1, 2]
      dis := q.dis.map (fun d => { d with
        fault := true, noWeld := true
        src := if d.fault then d.src else SRC_SSB_FALLBACK }) }) b2)
    raise e SRC_SSB_FALLBACK broke 0 0 (nvRequest .retained b3)
  else
    let fails := (if bk1 || b.get HVS_STA_FOLLOW_P == 1 then [{ src := SRC_SSB_BLOCK_FAIL, code := 1 }] else []) ++
      (if bk2 || b.get HVS_STA_FOLLOW_N == 1 then [{ src := SRC_SSB_BLOCK_FAIL, code := 2 }] else [])
    let b2 := disStep2 e b1
    if fails.isEmpty then b2 else
    raiseAll e fails (modSeq (fun q => { q with dis := q.dis.map (fun d => { d with noWeld := true }) }) b2)

/-- R136, R343: T_ctrl ends: step 1, whatever the current. -/
def tctrlExpiry (e : Env) (b : Blk) : Blk :=
  if b.owner ∧ b.mode = .connected ∧ b.seq.dis = none then startDis e ⟨false, true, false, b.watch.rrSrc, false⟩ b
  else modSeq (fun q => { q with tctrl := none }) b

/-- R351: zero current in the cycle in which T_ctrl ends: the reaction record's data1 is 1. -/
def zeroMark (e : Env) (b : Blk) : Blk :=
  { b with watch := recUpdate e.now b.watch.rrSeq (fun r => if r.d1 = 1 then r else { r with d1 := 1, gen := (r.gen + 1) % 256 }) b.watch }

/-- R136: |I| at or below I_ZERO during an L3 reaction. Where T_ctrl ends in the same cycle, before or after, step 1 starts once
(R351). -/
def zeroReached (i : Int) (e : Env) (b : Blk) : Blk :=
  if ¬ (b.owner ∧ b.mode = .connected ∧ iabs i ≤ (e.get SAFE_I_ZERO : Int)) then b else
  match b.seq.tctrl with
  | none => if b.seq.dis.isSome ∧ e.start.2.seq.tctrl = some e.now then zeroMark e b else b
  | some t =>
    if b.seq.dis.isSome then b
    else startDis e ⟨false, true, false, b.watch.rrSrc, false⟩ (if t = e.now then zeroMark e b else b)

/-- R139: the former active's ride-through time has passed: the new ACTIVE starts disconnect step 1. That it is run as a supply-loss
disconnect, without a weld test and with an open LAST_RESULT, is a DESIGN CHOICE (notes/assumptions/106.md). -/
def partnerRideExpiry (e : Env) (b : Blk) : Blk :=
  let b1 := modSeq (fun q => { q with partnerRideBy := none }) b
  if b.mode = .connected ∧ b.seq.dis = none ∧ b.role = .active then startDisCmd e true b1 else b1

end Sys2Proof.Machine
end

