-- ==== Sys2Proof/Machine/Therm.lean ====
section
/-! DEFINITION. THERM: groups, pauses, factors, the shutdown latch, bands, coil compensation and cooling (file 10, R284 to
R300). -/

namespace Sys2Proof.Machine

/-- A group's settings in 0.1 °C (R285). -/
structure GrpCfg where
  warn : Int
  throttle : Int
  shutdown : Int
  hysW : Int
  hysT : Int
  hysS : Int
  stepW : Int
deriving DecidableEq, Repr

def cellCfg (e : Env) : GrpCfg :=
  ⟨e.int THERM_CELL_THR_WARN, e.int THERM_CELL_THR_THROTTLE, e.int THERM_CELL_THR2_SHUTDOWN, e.int THERM_CELL_HYS_WARN_HYS,
   e.int THERM_CELL_HYS_THR_HYS, e.int THERM_CELL_HYS_SD_HYS, e.int THERM_CELL_THR2_STEP_W⟩
def busCfg (e : Env) : GrpCfg :=
  ⟨e.int THERM_BUS_THR_WARN, e.int THERM_BUS_THR_THROTTLE, e.int THERM_BUS_THR2_SHUTDOWN, e.int THERM_BUS_HYS_WARN_HYS,
   e.int THERM_BUS_HYS_THR_HYS, e.int THERM_BUS_HYS_SD_HYS, e.int THERM_BUS_THR2_STEP_W⟩
def modCfg (e : Env) : GrpCfg :=
  ⟨e.int THERM_MOD_THR_WARN, e.int THERM_MOD_THR_THROTTLE, e.int THERM_MOD_THR2_SHUTDOWN, e.int THERM_MOD_HYS_WARN_HYS,
   e.int THERM_MOD_HYS_THR_HYS, e.int THERM_MOD_HYS_SD_HYS, e.int THERM_MOD_THR2_STEP_W⟩

/-- The pause step of R287. -/
def pauseStep (c : GrpCfg) (st : Nat) (m : Int) : Nat :=
  if st = 2 then (max 1 (min 10 (1 + (m - c.throttle) / c.stepW))).toNat else 0

/-- R286: one evaluation of a group. Up to the highest state reached in two consecutive evaluations; down by one state after
two evaluations, made since the state was entered, below its threshold less its hysteresis. A group without a valid sensor
keeps everything (R284). -/
def evalGrp (c : GrpCfg) (m : Option Int) (g : Grp) : Grp :=
  match m with
  | none => g
  | some t =>
    let uw := if c.warn ≤ t then g.upW + 1 else 0
    let ut := if c.throttle ≤ t then g.upT + 1 else 0
    let us_ := if c.shutdown ≤ t then g.upS + 1 else 0
    let top := if 2 ≤ us_ then 3 else if 2 ≤ ut then 2 else if 2 ≤ uw then 1 else 0
    if g.st < top then ⟨top, uw, ut, us_, 0, some t, pauseStep c top t⟩ else
    let low := (g.st == 1 && decide (t < c.warn - c.hysW)) || (g.st == 2 && decide (t < c.throttle - c.hysT))
    let dn := if low then g.dn + 1 else 0
    if 2 ≤ dn then ⟨g.st - 1, uw, ut, us_, 0, some t, pauseStep c (g.st - 1) t⟩
    else ⟨g.st, uw, ut, us_, dn, some t, pauseStep c g.st t⟩

/-- The thermal latch is set with a causing group: 0 cell, 1 busbar, 2 module (R291). -/
def setLatch (grp : Nat) (b : Blk) : Blk :=
  let g := setBit b.pwr.latchGroups grp true
  (({ b with pwr := { b.pwr with latch := true, latchGroups := g } }).put THERM_STA_LATCH 1).put THERM_STA_LATCH_GROUPS g

/-- The conditions of a group's WARN and THROTTLE sources (R301, R491). -/
def grpConds (c : GrpCfg) (g : Grp) (src code : Nat) : List Cond :=
  let m := dataWord (g.max.getD 0)
  [⟨1 ≤ g.st, src, 0, code, m, dataWord c.warn⟩, ⟨2 ≤ g.st, src + 1, 0, code, m, dataWord c.throttle⟩]

/-- A group enters SHUTDOWN (R291), or is found hot after a power cycle (R293). -/
def grpDown (old new : Grp) (again : Bool) : Bool := (new.st == 3 && old.st != 3) || again

/-- The shutdown source of a group that does (R301). -/
def grpRaise (c : GrpCfg) (src code : Nat) (old new : Grp) (again : Bool) : List Raise :=
  if grpDown old new again then [⟨src, code, dataWord (new.max.getD 0), dataWord c.shutdown, false, none⟩] else []

/-- The latch of a group that does. -/
def grpLatch (grp : Nat) (old new : Grp) (again : Bool) (b : Blk) : Blk :=
  let b1 := if again then b.put THERM_STA_RELATCHED 1 else b
  if grpDown old new again then setLatch grp b1 else b1

/-- R293: after a power cycle each group is checked once, at its first evaluation with every sensor present. -/
def relatchNow (c : GrpCfg) (grp : Nat) (all : Bool) (m : Option Int) (b : Blk) : Bool :=
  b.therm.relatch.contains grp && all && decide (c.shutdown - c.hysS ≤ m.getD (c.shutdown - c.hysS - 1))

/-- The thermal state of the module (R286): SHUTDOWN-LATCH, or the highest group state. -/
def thermalState (b : Blk) : Nat :=
  if b.pwr.latch then 3 else max b.therm.cell.st (max b.therm.bus.st b.therm.mod.st)

/-- The cooling level of R298. -/
def coolLevel (e : Env) (b : Blk) : Nat :=
  let gs := [(b.therm.cell, cellCfg e), (b.therm.bus, busCfg e), (b.therm.mod, modCfg e)]
  let hot := b.pwr.latch && (mapIdx (fun n p => bitOf b.pwr.latchGroups n &&
    decide (p.2.warn ≤ p.1.max.getD (p.2.warn - 1))) 0 gs).any id
  if gs.any (fun p => p.1.st == 2) || hot then 3
  else if gs.any (fun p => p.1.st == 1) then 2
  else if b.therm.cool1 then 1 else 0

/-- The thermal factors of R290, %: charge, discharge. -/
def thermFactors (e : Env) (b : Blk) : Nat × Nat :=
  if thermalState b = 3 then (0, 0) else
  let s := max b.therm.cell.step b.therm.bus.step
  (100 - e.get THERM_DERATE_CHG_STEP * s, max (e.get THERM_DERATE_DSG_FLOOR) (100 - e.get THERM_DERATE_DSG_STEP * s))

/-- The transaction pause of R287, µs, and the shuttle pause, ms. -/
def transPause (e : Env) (b : Blk) : Nat :=
  if b.therm.mod.step = 0 then 0 else e.get (THERM_PAUSE_MOD (b.therm.mod.step - 1))
def shuttlePause (e : Env) (b : Blk) : Nat :=
  if b.therm.cell.step = 0 then 0 else e.get (THERM_PAUSE_CELL (b.therm.cell.step - 1))

/-- THERM's registers after an evaluation. -/
def thermShow (e : Env) (b : Blk) : Blk :=
  let t := b.therm
  let b := (((b.put THERM_STA_CELL t.cell.st).put THERM_STA_BUS t.bus.st).put THERM_STA_MOD t.mod.st).put
    THERM_STA_COOL_LEVEL (coolLevel e b)
  let b := (((b.put THERM_STEPS_CELL t.cell.step).put THERM_STEPS_BUS t.bus.step).put THERM_STEPS_MOD t.mod.step).put
    THERM_STEPS_MOD_PAUSE (transPause e b)
  b.put SYS_STATE_THERMAL (thermalState b)

/-- The maximum of valid readings with its object. -/
def hottest : List (Nat × Int) → Option (Nat × Int)
  | [] => none
  | (n, t) :: l => match hottest l with
    | none => some (n, t)
    | some (k, u) => if u ≤ t then some (n, t) else some (k, u)

/-! ### Cell and busbar temperatures (R284) -/

/-- The record of the CMU that serves a cell, and its position. -/
def servingPos (b : Blk) (n : Nat) : Option Nat :=
  (List.range 40).find? (fun p => (b.chain.cmus[p]?.map (fun m => m.serves == some (n / 16) && m.state != 5)).getD false)

def servingCmu (b : Blk) (n : Nat) : Option CmuRec := (servingPos b n).bind (fun p => b.chain.cmus[p]?)

/-- A value of NTC `j` of a CMU that is open or short (R284). -/
def ntcOpen (t : Int) : Bool := decide (t < -400) || decide (1500 < t)

/-- The value of NTC `j` of a CMU where it is valid: neither open nor short nor older than 10 s (R284). -/
def ntcValid (now : Nat) (m : CmuRec) (j : Nat) : Option Int :=
  match m.ntc[j]?, (m.ntcAt[j]?).join with
  | some t, some a => if ntcOpen t ∨ a + sec 10 < now then none else some t
  | _, _ => none

/-- The temperature T_i of a cell (R284): its own NTC, else the higher of the valid neighbouring ones, else the cell group
maximum. -/
def cellTemp (e : Env) (b : Blk) (n : Nat) : Int :=
  let held := b.int THERM_MAX_CELL_TEMP
  match servingCmu b n with
  | none => held
  | some m =>
    let j := n % 16 / 2
    match ntcValid e.now m j with
    | some t => t
    | none => match (if j = 0 then none else ntcValid e.now m (j - 1)), ntcValid e.now m (j + 1) with
      | some t, some u => max t u
      | some t, none => t
      | none, some u => u
      | none, none => held

/-- The NTCs of the configured CMUs: the lower cell each serves, the CMU and the number. -/
def cellNtcs (b : Blk) : List (Nat × CmuRec × Nat) :=
  (List.range b.chain.count).flatMap (fun g =>
    ((servingCmu b (16 * g)).toList).flatMap (fun m => (List.range 8).map (fun j => (16 * g + 2 * j, m, j))))

/-- Every configured NTC has a value (R293). -/
def ntcsRead (b : Blk) : Bool :=
  let l := cellNtcs b
  b.chain.count != 0 && l.length == 8 * b.chain.count && l.all (fun p => ((p.2.1.ntcAt[p.2.2]?).join).isSome)

/-- The valid busbar readings (R171): 0 NTC_A, 1 NTC_B. -/
def busReads (b : Blk) : List (Nat × Int) :=
  if ¬ b.hvs.ntcRead then [] else
  [(0, b.int HVS_NTC_NTC_A), (1, b.int HVS_NTC_NTC_B)].filter (fun p => p.2 != -32768)

/-- THERM evaluates from BOOT on; in a warm boot it pauses (R294). -/
def thermRuns (b : Blk) : Bool := b.phase == .run || b.phase == .coldBoot

/-- R286: the cell and busbar groups every 100 ms, on the latest value of each NTC and the latest busbar readings. The busbar maximum is
the higher of the own and the partner's (R299). DEDUCED: a busbar group without a valid sensor of its own keeps everything whatever the
partner mirrors (R284; notes/assumptions/148.md), and a cell group whose values are all too old, none of them open or short, is reported
by CELL_NTC_FAULT too (notes/assumptions/139.md). -/
def groupEval (e : Env) (b : Blk) : Blk :=
  let cc := cellCfg e
  let bc := busCfg e
  let ntcs := cellNtcs b
  let all := ntcsRead b
  let buses := busReads b
  let top := hottest (ntcs.filterMap (fun p => (ntcValid e.now p.2.1 p.2.2).map (fun t => (p.1, t))))
  let cm := top.map Prod.snd
  let btop := if buses.isEmpty then none else hottest (buses ++ (b.therm.partnerBus.map (fun t => (2, t))).toList)
  let bm := btop.map Prod.snd
  let oldC := b.therm.cell
  let oldB := b.therm.bus
  let newC := evalGrp cc cm oldC
  let newB := evalGrp bc bm oldB
  let agC := relatchNow cc 0 all cm b
  let agB := relatchNow bc 1 (buses.length == 2) bm b
  let cool := match cm with
    | none => b.therm.cool1
    | some t => if e.int THERM_COOL_COOL_ON ≤ t then true
      else if t < e.int THERM_COOL_COOL_ON - e.int THERM_COOL_COOL_HYS then false else b.therm.cool1
  let rl := b.therm.relatch.filter (fun g => !(g == 0 && all) && !(g == 1 && buses.length == 2))
  let b1 := { b with therm := { b.therm with
    cell := newC, bus := newB, cool1 := cool, relatch := rl
    ownBus := ((hottest buses).map Prod.snd).or b.therm.ownBus } }
  let b2 := match top with
    | none => b1
    | some (n, t) => (b1.putInt THERM_MAX_CELL_TEMP t).put THERM_MAX_CELL_CELL n
  let b3 := match btop with
    | none => b2
    | some (n, t) => (b2.putInt THERM_MAX_BUS_TEMP t).put THERM_MAX_BUS_SRC n
  let code := b3.get THERM_MAX_CELL_CELL
  let conds := grpConds cc newC SRC_CELL_WARN code ++ grpConds bc newB SRC_BUS_WARN 0 ++
    [⟨b.hvs.ntcRead && buses.isEmpty, SRC_BUS_TEMP_LOST, 0, 0, 0, 0⟩] ++
    (List.range (8 * b.chain.count)).map (fun k => ⟨ntcs.any (fun p => p.1 == 2 * k &&
      ntcOpen ((p.2.1.ntc[p.2.2]?).getD 0)), SRC_CELL_NTC_FAULT, 2 * k, 2 * k, 0, 0⟩) ++
    [⟨all && top.isNone && !ntcs.any (fun p => ntcOpen ((p.2.1.ntc[p.2.2]?).getD 0)), SRC_CELL_NTC_FAULT, 1000, code, 0, 0⟩]
  let b4 := thermShow e b3
  thermShow e (judgeWith e conds
    (grpRaise cc SRC_CELL_SHUTDOWN code oldC newC agC ++ grpRaise bc SRC_BUS_SHUTDOWN 0 oldB newB agB)
    (grpLatch 1 oldB newB agB (grpLatch 0 oldC newC agC b4)))

/-- R295: the band of a module temperature, without hysteresis. -/
def bandOf (t : Int) : Nat := if t < -100 then 0 else if t < 100 then 1 else if t < 400 then 2 else if t < 700 then 3 else 4

/-- The lower boundary of a band in 0.1 °C. -/
def bandLow (n : Nat) : Int := match n with
  | 1 => -100
  | 2 => 100
  | 3 => 400
  | _ => 700

/-- R295: up at or above the next boundary, down one band when 2 °C below the lower boundary. -/
def nextBand (cur : Nat) (t : Int) : Nat :=
  if cur ≤ bandOf t then bandOf t
  else if t ≤ bandLow cur - 20 then (if bandOf (t + 20) < cur then bandOf (t + 20) else cur - 1) else cur

/-- The reference resistance of a contactor's coil (R296). -/
def coilR20 (k : Nat) : Fld := match k with
  | 0 => THERM_COIL_R20_KP
  | 1 => THERM_COIL_R20_KN
  | _ => THERM_COIL_R20_KC

/-- R296: the hold duty for a resistance, %, at most 100. -/
def holdDuty (e : Env) (band k : Nat) (c : Coil) : Nat :=
  let r20 := e.get (coilR20 k)
  let ref := if r20 = 0 then c.pickR else r20
  if ref = 0 then bandDuty band else min 100 (bandDuty band * c.r / ref)

/-- R286, R295: the module group and the temperature band every 10 ms; `ts` the six sensors S0 to S5, `none` where a sensor
was not updated for 50 ms. S5 is the island's (HVS.ISLAND_TEMP). -/
def moduleEval (ts : List (Option Int)) (e : Env) (b : Blk) : Blk :=
  if ¬ thermRuns b then b else
  let ok := ts.map (fun t => t.filter (fun x => decide (-550 ≤ x) && decide (x ≤ 1500)))
  let vals := mapIdx (fun n (t : Option Int) => (n, t)) 0 ok
  let valid := vals.filterMap (fun p => p.2.map (fun t => (p.1, t)))
  let m := (hottest valid).map Prod.snd
  let c := modCfg e
  let old := b.therm.mod
  let new := evalGrp c m old
  let again := relatchNow c 2 (valid.length == 6) m b
  let cur := b.get THERM_STA_BAND
  let band := match m with
    | none => cur
    | some t => if b.therm.bandSet then nextBand cur t else bandOf t
  let rl := b.therm.relatch.filter (fun g => !(g == 2 && valid.length == 6))
  let coils := if band = cur then b.therm.coils else
    mapIdx (fun k (x : Coil) => { x with nextDuty := holdDuty e band k x }) 0 b.therm.coils
  let b1 := { b with therm := { b.therm with
    mod := new, relatch := rl, bandSet := b.therm.bandSet || m.isSome, coils := coils } }
  let island := fun (x : Blk) => match ((ts[5]?).getD none) with
    | some t => x.putInt HVS_ISLAND_TEMP_TEMP t
    | none => x
  let show_ := fun (f : Fld) (n : Nat) (x : Blk) => match ((ok[n]?).getD none) with
    | some t => x.putInt f t
    | none => x.put f 0x8000
  let b2 := show_ THERM_MOD_T45_HIGH 5 (show_ THERM_MOD_T45_LOW 4 (show_ THERM_MOD_T23_HIGH 3 (show_ THERM_MOD_T23_LOW 2
    (show_ THERM_MOD_T01_HIGH 1 (show_ THERM_MOD_T01_LOW 0 (island (b1.put THERM_STA_BAND band)))))))
  let conds := grpConds c new SRC_MOD_WARN 0 ++ [⟨valid.length < 3, SRC_INT_SENSORS_LOST, 0, 0, 0, 0⟩] ++
    vals.map (fun p => ⟨p.2.isNone, SRC_INT_SENSOR_FAULT, p.1, 0, 0, 0⟩)
  thermShow e (judgeWith e conds (grpRaise c SRC_MOD_SHUTDOWN 0 old new again) (grpLatch 2 old new again (thermShow e b2)))

def coilTFld (k : Nat) : Fld := match k with
  | 0 => THERM_COIL_KP_TEMP
  | 1 => THERM_COIL_KN_TEMP
  | _ => THERM_COIL_KC_TEMP

/-- A coil is in hold: commanded closed and not in its pick (R141). -/
def inHold (b : Blk) (k : Nat) : Bool :=
  commanded b k && !(b.seq.picks.any (fun p => p.1 == k)) && !(b.seq.waitPick.contains k)

/-- R296: once a second, in the module that drives the hold PWM (R143), from the mean hold current `i` in mA: R = duty × VCOIL / I, the
coil temperature while COIL_R20 is set, the next duty, and COIL_HOT. -/
def coilUpdate (k i : Nat) (e : Env) (b : Blk) : Blk :=
  if ¬ thermRuns b ∨ ¬ inHold b k ∨ seriesMode b then b else
  let r := if i = 0 then 65535 else min 65535 (b.get (dutyFld k) * b.get PWR_SUPPLY_VCOIL * 10 / i)
  let c := { (b.therm.coils[k]?.getD ⟨0, 0, 0, 0, 25⟩) with r := r }
  let c := { c with nextDuty := holdDuty e (b.get THERM_STA_BAND) k c }
  let b1 := ({ b with therm := { b.therm with coils := setAt b.therm.coils k c } }).put (coilIFld k) i
  let r20 := e.get (coilR20 k)
  if r20 = 0 then endExc e SRC_COIL_HOT k (b1.put (coilTFld k) 0x8000) else
  let t : Int := 200 + divRound (((r : Int) - r20) * 1000000) (r20 * 393)
  judge e (decide ((e.get THERM_COIL_T_MAX_T_MAX : Int) < t)) SRC_COIL_HOT k (2 ^ k) (dataWord t)
    (e.get THERM_COIL_T_MAX_T_MAX) (b1.putInt (coilTFld k) t)

/-- The switch outputs drop: BK_G low, every coil and SO output off (R68, R151, R294). -/
def dropOutputs (e : Env) (b : Blk) : Blk := releaseAll (ssbOff e b)

/-- R294: the AON supervisor's check of S0 and S4 during a warm boot. -/
def aonCheck (s0 s4 : Int) (e : Env) (b : Blk) : Blk :=
  let lim := (modCfg e).shutdown
  if b.phase = .warmBoot ∧ (lim ≤ s0 ∨ lim ≤ s4) ∧ ¬ b.therm.aonDrop then
    raise e SRC_MOD_SHUTDOWN 0 (dataWord (max s0 s4)) (dataWord lim)
      (setLatch 2 (dropOutputs e { b with therm := { b.therm with aonDrop := true } }))
  else b

end Sys2Proof.Machine
end

