-- ==== Sys2Proof/Machine/Ledger.lean ====
section
/-! DEFINITION. LEDGER: the charge of every cell, anchors, drift bound, end flags, capacity learning, limits, the current
paths and the journal (file 08, R235 to R263). -/

namespace Sys2Proof.Machine

def modLed (f : Ledger → Ledger) (b : Blk) : Blk := { b with ledger := f b.ledger }

/-- A cell's charge Q_i = Q_common + q_i (R235). -/
def qOf (b : Blk) (l : LCell) : Int := b.ledger.qc + l.q

/-- The bound with the provisional amount of R245. -/
def LCell.bound (l : LCell) : Nat := l.b + l.prov

/-- A cell's share of C_i in µC; `p` in 0.01 %. -/
def pctCap (l : LCell) (p : Nat) : Int := (p * l.cap / 10 : Nat)

/-- The number of configured cells. -/
def cellCount (b : Blk) : Nat := 16 * b.chain.count

/-- The compensation resistance in µΩ, and whether it rests on an accepted estimate (R242). -/
def compR (e : Env) (l : LCell) : Int × Bool :=
  match l.rHeld with
  | some r => (r, true)
  | none => match l.zAt with
    | some t => if e.now ≤ t + sec (e.get LEDGER_Z_CFG_MAXAGE) then (l.zCos, true) else (e.get LEDGER_Z_CFG_DEFAULT, false)
    | none => (e.get LEDGER_Z_CFG_DEFAULT, false)

/-- V_ir in nV (R238): `v` in 100 µV, `i` in mA. -/
def vIr (v : Nat) (i r : Int) : Int := v * 100000 - i * r

/-- What one frame brings to every cell: I_SHUNT, the current and charge of its path, its span, the growth of the bound on that path, and the
shuttle reports that it takes up. -/
structure FrameCtx where
  i : Int
  iPath : Int
  dQ : Int
  dT : Nat
  hall : Bool
  off : Nat
  gain : Nat
  reps : List (Nat × List (Nat × Nat))
deriving DecidableEq, Repr

/-- R251: the accepted capacity of a cell; `qi` is its charge at the empty anchor before the correction. -/
def learnedCap (l : LCell) (qi : Int) : Nat :=
  if l.capUnk then ((l.cap : Int) - divRound qi 1000).toNat else ((l.cap : Int) - divRound qi 4000).toNat

/-- R250: whether a closing cycle is accepted. DESIGN CHOICE: a cycle that no temperature was sampled in has no mean, and is rejected
(notes/assumptions/116.md). -/
def learnOk (e : Env) (b : Blk) (l : LCell) (c : Cyc) (qi : Int) : Bool :=
  !c.void_ && decide (0 < c.tN) && decide (150 * (c.tN : Int) ≤ c.tSum) && decide (c.tSum ≤ 350 * c.tN) &&
  decide ((l.bound : Int) ≤ pctCap l (e.get LEDGER_ANCHOR_LIMIT_LIMIT)) && decide (10 * iabs qi ≤ 1000 * l.cap) &&
  b.mode != .commissioning && e.get LEDGER_CTL_LEARN_EN == 1

/-- An anchor (R239), with the capacity learned at an empty one (R250, R251): the cell, what it raises, and a new capacity
that takes effect in the next frame. -/
def takeAnchor (e : Env) (b : Blk) (n : Nat) (full : Bool) (l : LCell) : LCell × List Raise × Option Nat :=
  let qi := qOf b l
  let base := { l with b := 0, prov := 0, socUnk := false, anchorAt := some e.now, fullN := 0, emptyN := 0 }
  if full then
    ({ base with q := l.q + (1000 * l.cap - qi), anchor := 1, cyc := some ⟨0, 0, 0, e.now, false⟩ }, [], none)
  else
    let closed := { base with q := l.q - qi, anchor := 2, cyc := none }
    match l.cyc with
    | none => (closed, [], none)
    | some c =>
      if learnOk e b l c qi then ({ closed with pend := true, capUnk := false }, [], some (learnedCap l qi))
      else (closed, [{ src := SRC_LEARN_REJECTED, code := n }], none)

/-- R240: no anchor while a condition of its list holds. -/
def anchorBarred (b : Blk) (hall : Bool) (n : Nat) (c : CellRec) : Bool :=
  c.unsure || c.endWire || !c.fresh || hall ||
  ((servingCmu b n).map (fun m => m.state == 3 || m.state == 4)).getD true

/-- R238: the counts of anchor conditions after a frame, and the anchor that a third one brings. -/
def anchorStep (e : Env) (b : Blk) (x : FrameCtx) (n : Nat) (c : CellRec) (l : LCell) : LCell × List Raise × Option Nat :=
  if anchorBarred b x.hall n c then ({ l with fullN := 0, emptyN := 0 }, [], none) else
  let (r, est) := compR e l
  let lim := e.get LEDGER_ANCHOR_I_I * l.cap / (if est then 1 else 10)
  let quiet := decide (iabs x.i * 360000 ≤ lim)
  let v := vIr c.v x.i r
  let f := if quiet && decide ((e.get LEDGER_ANCHOR_V_FULL : Int) * 100000 ≤ v) then l.fullN + 1 else 0
  let m := if quiet && decide (v ≤ (e.get LEDGER_ANCHOR_V_EMPTY : Int) * 100000) then l.emptyN + 1 else 0
  let l1 := { l with fullN := f, emptyN := m }
  if 3 ≤ f then takeAnchor e b n true l1
  else if 3 ≤ m then takeAnchor e b n false l1
  else (l1, [], none)

/-- Round a quotient up: the bound stays a bound. -/
def divUp (a k : Nat) : Nat := (a + k - 1) / k

/-- R244, R277: what the shuttle reports of a frame add to a cell's bound: the share of the increases, or all of them where the report
was implausible (a mark at place 16). -/
def shuttleGrowth (e : Env) (reps : List (Nat × List (Nat × Nat))) (n : Nat) : Nat :=
  ((reps.filter (fun r => r.1 == n / 16)).map (fun r =>
    let p := (r.2[n % 16]?).getD (0, 0)
    let add := (p.1 + p.2) * 1000
    if r.2[16]?.map Prod.fst = some 1 then add else divUp (e.get LEDGER_DRIFT_SHUTTLE_SHUTTLE * add) 10000)).sum

/-- R244: the growth of the bound in one frame. -/
def driftStep (e : Env) (x : FrameCtx) (n : Nat) (l : LCell) : LCell :=
  { l with b := l.b + divUp (x.off * x.dT) 200000 + divUp (x.gain * x.dQ.natAbs) 1000000 + shuttleGrowth e x.reps n }

/-- What one frame does to an open learning cycle (R250): the throughput, and what voids it. -/
def cycStep (b : Blk) (x : FrameCtx) (n : Nat) (c : CellRec) (l : LCell) : LCell :=
  let bad := x.hall || c.unsure || c.endWire || b.get LEDGER_STA_NO_CURRENT == 1 || b.mode == .commissioning ||
    ((servingCmu b n).map (fun m => m.state == 3 || m.state == 4)).getD false
  { l with cyc := l.cyc.map (fun y => { y with through := y.through + x.dQ.natAbs, void_ := y.void_ || bad }) }

/-! ### Shuttle reports and supply (R235, R245, R277) -/

/-- An increase of a u32 count (R276). -/
def cntRise (old new : Nat) : Nat := (new + 2 ^ 32 - old) % 2 ^ 32

/-- A cell's increases in mC, received and given (R235). -/
def applyReport (rec given : Nat) (l : LCell) : LCell :=
  { l with
    q := l.q + 1000 * rec - 1000 * given
    inQ := l.inQ + 1000 * rec
    outQ := l.outQ + 1000 * given }

/-- Take one CMU's waiting increases into its cells: 16 × the cell group, and its increases. -/
def applyRep (cs : List LCell) (r : Nat × List (Nat × Nat)) : List LCell :=
  mapIdx (fun n (l : LCell) => if n / 16 = r.1 then
      match r.2[n % 16]? with
      | some p => applyReport p.1 p.2 l
      | none => l
    else l) 0 cs

/-- The supply debit of R235 for a CMU's 16 cells: I_SUP in mA above `ticks`. -/
def supplyDebit (grp isup ticks : Nat) (cs : List LCell) : List LCell :=
  mapIdx (fun n (l : LCell) => if n / 16 = grp then { l with q := l.q - (isup * ticks / 200000 : Nat) } else l) 0 cs

/-- A learning cycle is voided; it is rejected when it closes (R250). -/
def voidCycle (l : LCell) : LCell := { l with cyc := l.cyc.map (fun y => { y with void_ := true }) }

/-- R259: the history of a cell group is cleared, its learning cycle voided. -/
def clearCell (cnom qc : Int) (l : LCell) : LCell :=
  { voidCycle l with cap := cnom.toNat, capUnk := true, q := 500 * cnom - qc, b := 0, prov := 0, socUnk := true
                     fullN := 0, emptyN := 0, pend := false, anchor := 0, anchorAt := none }

/-- R259: a group's history is cleared; the shuttle counts restart from those of its CMU's next report. -/
def historyClear (e : Env) (grp : Nat) (b : Blk) : Blk :=
  nvRequest (.journal false) (modLed (fun l => { l with
    cells := mapIdx (fun n (c : LCell) => if n / 16 = grp then clearCell (e.get LEDGER_C_NOM) l.qc c else c) 0 l.cells
    repQ := l.repQ.filter (fun r => r.1 != grp) })
    { b with shuttle := { b.shuttle with reps := b.shuttle.reps.filter (fun r => r.1 != grp) } })

/-! ### The limits (R252, R253) -/

/-- Linear interpolation, scaled by 10⁶ in its values. -/
def lerp (x0 x1 y0 y1 x : Int) : Int :=
  if x ≤ x0 then y0 else if x1 ≤ x then y1 else y0 + divRound ((y1 - y0) * (x - x0)) (x1 - x0)

/-- The place of a value among rising breakpoints: the lower index of the segment that holds it. -/
def segOf (bp : Nat → Int) (n : Nat) (x : Int) : Nat :=
  ((List.range (n - 1)).filter (fun k => decide (bp k ≤ x))).length - 1

def tBp (e : Env) (n : Nat) : Int := if n % 2 = 0 then e.int (LEDGER_T_BP_EVEN (n / 2)) else e.int (LEDGER_T_BP_ODD (n / 2))
def socBp (e : Env) (n : Nat) : Int := if n % 2 = 0 then e.int (LEDGER_SOC_BP_EVEN (n / 2)) else e.int (LEDGER_SOC_BP_ODD (n / 2))

/-- Table entry at a temperature index and a SoC index, 0.01 C. -/
def tblAt (e : Env) (chg : Bool) (t s : Nat) : Int :=
  let k := 8 * t + s
  if chg then (if k % 2 = 0 then e.get (LEDGER_TBL_CHG_EVEN (k / 2)) else e.get (LEDGER_TBL_CHG_ODD (k / 2)))
  else (if k % 2 = 0 then e.get (LEDGER_TBL_DSG_EVEN (k / 2)) else e.get (LEDGER_TBL_DSG_ODD (k / 2)))

/-- The table along temperature at one SoC breakpoint, scaled by 10⁶. -/
def tblT (e : Env) (chg : Bool) (temp : Int) (s : Nat) : Int :=
  let k := segOf (tBp e) 8 temp
  lerp (tBp e k) (tBp e (k + 1)) (1000000 * tblAt e chg k s) (1000000 * tblAt e chg (k + 1) s) temp

/-- Bilinear interpolation with clamping, scaled by 10⁶ (R253). -/
def tblInterp (e : Env) (chg : Bool) (temp soc : Int) : Int :=
  let k := segOf (socBp e) 8 soc
  lerp (socBp e k) (socBp e (k + 1)) (tblT e chg temp k) (tblT e chg temp (k + 1)) soc

/-- The least table value above the SoC breakpoints (R252). -/
def tblMin (e : Env) (chg : Bool) (temp : Int) : Int :=
  ((List.range 7).map (fun s => tblT e chg temp (s + 1))).foldl min (tblT e chg temp 0)

/-- SoC in 0.01 %, not clamped (R237). -/
def socOf (b : Blk) (l : LCell) : Int := if l.cap = 0 then 0 else qOf b l * 10 / l.cap

/-- The partner of a cell beside a broken middle wire, by the CMU's diagnosed wires (R222). -/
def pairOf (wires n : Nat) : Option Nat :=
  let j := n % 16
  if 1 ≤ j ∧ bitOf wires j then some (n - 1)
  else if j ≤ 14 ∧ bitOf wires (j + 1) then some (n + 1) else none

/-- The substitute of R223 for a cell with a broken end wire: V_SUP minus the other 15 cells, 100 µV. -/
def endSubst (b : Blk) (n : Nat) (m : CmuRec) : Int :=
  let g := n / 16 * 16
  let others := ((List.range 16).map (fun j => g + j)).filter (fun k => k != n)
  (m.vsup * 100 : Int) - (others.map (fun k => ((b.chain.cells[k]?.map CellRec.v).getD 0 : Int))).sum

/-- A division with the result left open where the divisor is not positive (R252 states none there). -/
def headroom (num r : Int) : Int := if r ≤ 0 then Config.openResult 252 [num, r] else num / r

/-- Charge and discharge headroom of a cell in mA (R252, R223). DESIGN CHOICE: the present frame's current compensates the last value of an
aged cell too (notes/assumptions/119.md). -/
def heads (e : Env) (b : Blk) (i : Int) (n : Nat) (c : CellRec) (l : LCell) : Int × Int :=
  let cv : Int := e.get LEDGER_LIM_V_CHG_V
  let dv : Int := e.get LEDGER_LIM_V_DSG_V
  let r := (compR e l).1
  match servingCmu b n with
  | none => (headroom (cv * 100000 - vIr c.v i r) r, headroom (vIr c.v i r - dv * 100000) r)
  | some m =>
    if c.endWire then
      let v := endSubst b n m * 100000 - i * r
      (headroom (cv * 100000 - v) r, headroom (v - dv * 100000) r)
    else match (if c.unsure then pairOf m.wires n else none) with
      | some k =>
        let c2 := (b.chain.cells[k]?.map CellRec.v).getD 0
        let r2 := r + ((b.ledger.cells[k]?.map (fun x => (compR e x).1)).getD 0)
        let v : Int := ((c.v + c2 : Nat) : Int) * 100000 - i * r2
        (headroom (2 * cv * 100000 - v) r2, headroom (v - 2 * dv * 100000) r2)
      | none => (headroom (cv * 100000 - vIr c.v i r) r, headroom (vIr c.v i r - dv * 100000) r)

/-- A candidate limit: magnitude in mA, cell, term. -/
structure Lim where
  v : Int
  cell : Nat
  term : Nat
deriving DecidableEq, Repr

def Lim.less (a c : Lim) : Lim := if c.v < a.v then c else a

/-- One cell's charge and discharge limits (R252). -/
def cellLims (e : Env) (b : Blk) (i : Int) (n : Nat) (c : CellRec) (l : LCell) : Lim × Lim :=
  let soc := max 0 (min 10000 (socOf b l))
  let temp := cellTemp e b n
  let tab := fun chg => (if l.socUnk then tblMin e chg temp else tblInterp e chg temp soc) * l.cap / 360000000000
  let (hc, hd) := heads e b i n c l
  let one := fun (t h : Int) => if h < t then (⟨max 0 h, n, 1⟩ : Lim) else ⟨max 0 t, n, 0⟩
  (one (tab true) hc, one (tab false) hd)

/-- R252 after the minimum above cells: thermal factor, end flag, derating and backstop; a step that leaves the limit as it is does
not set it. -/
def limChain (e : Env) (factor : Nat) (ended derate : Bool) (oc : Nat) (a : Lim) : Lim :=
  let a1 := if factor < 100 ∧ 0 < a.v then { a with v := a.v * factor / 100, term := 2 } else a
  let a2 := if ended then { a1 with v := 0, term := 3 } else a1
  let a3 := if derate ∧ 0 < a2.v then { a2 with v := a2.v * e.get LEDGER_DERATE_FACTOR / 100, term := 4 } else a2
  let cap : Int := e.get LEDGER_DERATE_OC_MARGIN * oc * 10
  if cap < a3.v then { a3 with v := cap, term := 5 } else a3

/-- The cells with their records. -/
def zipCells (b : Blk) : List (Nat × CellRec × LCell) :=
  (mapIdx (fun n (p : CellRec × LCell) => (n, p)) 0 (b.chain.cells.zip b.ledger.cells)).take (cellCount b)

/-- The limits are computed and published (R252). -/
def limitCompute (e : Env) (i : Int) (b : Blk) : Blk :=
  let ls := (zipCells b).map (fun p => cellLims e b i p.1 p.2.1 p.2.2)
  match ls with
  | [] => b
  | (c0, d0) :: rest =>
    let c := rest.foldl (fun a p => a.less p.1) c0
    let d := rest.foldl (fun a p => a.less p.2) d0
    let (fc, fd) := thermFactors e b
    let derate := activeAt b 2 || (zipCells b).any (fun p => p.2.1.stale)
    let c' := limChain e fc (b.get LEDGER_STA_FULL == 1) derate (e.get HVS_LIM_OC_CHG) c
    let d' := limChain e fd (b.get LEDGER_STA_EMPTY == 1) derate (e.get HVS_LIM_OC_DSG) d
    let b1 := (b.put LEDGER_LIM_CHG_LIMIT c'.v.toNat).put LEDGER_LIM_DSG_LIMIT d'.v.toNat
    let b2 := (b1.put LEDGER_LIM_CAUSE_CHG_CELL c'.cell).put LEDGER_LIM_CAUSE_CHG_TERM c'.term
    let b3 := (b2.put LEDGER_LIM_CAUSE_DSG_CELL d'.cell).put LEDGER_LIM_CAUSE_DSG_TERM d'.term
    ((b3.put LEDGER_TFACTOR_CHG fc).put LEDGER_TFACTOR_DSG fd).put LEDGER_STA_DERATED (boolBit derate)

/-! ### End flags and published figures (R246 to R249) -/

/-- The largest bound among cells, in 0.01 % of C_i, with its cell. -/
def boundPct (l : LCell) : Nat := if l.cap = 0 then 0 else min 65534 (l.bound * 10 / l.cap)

/-- FULL is set: the charge at which it was set is what a net discharge counts from (R249). -/
def fullSet (b : Blk) : Blk := modLed (fun l => { l with taperQ := some l.qc }) (b.put LEDGER_STA_FULL 1)
def fullClear (b : Blk) : Blk := modLed (fun l => { l with taperQ := none }) (b.put LEDGER_STA_FULL 0)

/-- R249: the taper window of the SC-288; a full anchor sets FULL beside it. -/
def taperStep (e : Env) (x : FrameCtx) (fa : Bool) (b : Blk) : Blk :=
  let cn := e.get LEDGER_C_NOM
  let vmax := (zipCells b).foldl (fun m p => if p.2.1.fresh then max m p.2.1.v else m) 0
  let run := decide (0 < x.iPath) && decide (x.iPath * 360000 ≤ (e.get LEDGER_TAPER_I_TAPER * cn : Nat)) &&
    decide (e.get LEDGER_TAPER_V_V_CV ≤ vmax)
  let t := if run then b.ledger.taper + x.dT else 0
  let b1 := modLed (fun l => { l with taper := t }) ((b.put LEDGER_STA_TAPER_RUN (boolBit run)).put LEDGER_TAPER_V_ELAPSED
    (min 65535 (t / sec 1)))
  let limit := sec (e.get LEDGER_TAPER_T_TAPER)
  if (fa ∧ b.get LEDGER_STA_FULL = 0) ∨ (limit ≤ t ∧ b.ledger.taper < limit) then fullSet b1
  else match b1.ledger.taperQ with
    | some q0 => if (10 * cn : Nat) ≤ q0 - b1.ledger.qc then fullClear b1 else b1
    | none => b1

/-- The taper timer stands at 0 while the taper window is not in use. -/
def taperOff (b : Blk) : Blk :=
  modLed (fun l => { l with taper := 0 }) ((b.put LEDGER_STA_TAPER_RUN 0).put LEDGER_TAPER_V_ELAPSED 0)

/-- The end flags (R247), the usable charge (R248) and the figures LEDGER shows. `fa`, `ea`: a full or empty anchor was taken
in this frame. -/
def endFlags (e : Env) (x : FrameCtx) (fa ea : Bool) (b : Blk) : Blk :=
  let cs := (zipCells b).map (fun p => (p.1, p.2.2))
  let known := cs.filter (fun p => !p.2.socUnk)
  let hi := e.get LEDGER_RESERVE_HIGH
  let lo := e.get LEDGER_RESERVE_LOW
  let up := fun (l : LCell) => qOf b l + l.bound - (1000 * l.cap - pctCap l hi)
  let dn := fun (l : LCell) => qOf b l - l.bound - pctCap l lo
  let fullC := fa || known.any (fun p => decide (0 ≤ up p.2))
  let fullOff := !fa && known.all (fun p => decide (up p.2 < -(pctCap p.2 50)))
  let emptyC := ea || known.any (fun p => decide (dn p.2 ≤ 0))
  let emptyOff := !ea && known.all (fun p => decide (pctCap p.2 50 < dn p.2))
  let b1 := if e.get LEDGER_CTL_COMPAT288 = 1 then taperStep e x fa b
    else if fullC then (if b.get LEDGER_STA_FULL = 1 then taperOff b else fullSet (taperOff b))
    else if fullOff then fullClear (taperOff b) else taperOff b
  let b2 := if emptyC then b1.put LEDGER_STA_EMPTY 1 else if emptyOff then b1.put LEDGER_STA_EMPTY 0 else b1
  let least := fun (f : LCell → Int) => match known with
    | [] => 0
    | p :: r => (r.foldl (fun m q => min m (f q.2)) (f p.2)).toNat / 1000
  let b3 := (b2.put LEDGER_AVAIL_DSG_Q (least dn)).put LEDGER_AVAIL_CHG_Q (least (fun l => -(up l)))
  let socs := known.map (fun p => (max 0 (min 10000 (socOf b p.2))).toNat)
  let b4 := (b3.put LEDGER_SOC_RANGE_MIN (socs.foldl min (socs.headD 0))).put LEDGER_SOC_RANGE_MAX (socs.foldl max 0)
  let big := known.foldl (fun (a : Nat × Nat) p => if a.2 < boundPct p.2 then (p.1, boundPct p.2) else a) (0, 0)
  let b5 := (b4.put LEDGER_BOUND_MAX_BOUND big.2).put LEDGER_BOUND_MAX_CELL big.1
  let above := (known.filter (fun p => decide (pctCap p.2 (e.get LEDGER_ANCHOR_LIMIT_LIMIT) < p.2.bound))).length
  let unk := cs.length - known.length
  let b6 := (b5.put LEDGER_ANCHOR_STA_OVER above).put LEDGER_ANCHOR_STA_UNKNOWN unk
  let b7 := (b6.put LEDGER_STA_SOC_UNKNOWN (boolBit (unk != 0))).put LEDGER_STA_ANCHOR_REQUEST (boolBit (above != 0 || unk != 0))
  let b8 := (b7.put LEDGER_LEARN_STA_OPEN (cs.filter (fun p => p.2.cyc.isSome)).length).put LEDGER_LEARN_STA_PENDING
    (cs.filter (fun p => p.2.pend)).length
  (b8.put LEDGER_STA_LEARN_PENDING (boolBit (cs.any (fun p => p.2.pend)))).put LEDGER_STA_Z_VALID
    (boolBit (cs.all (fun p => (p.2.zAt.map (fun t => decide (e.now ≤ t + sec (e.get LEDGER_Z_CFG_MAXAGE)))).getD false)))

/-! ### The current paths (R256, R257) -/

/-- Every cell enters the SoC-unknown state. -/
def allUnknown (b : Blk) : Blk :=
  modLed (fun l => { l with cells := l.cells.map (fun (c : LCell) => { c with socUnk := true }) })
    (b.put LEDGER_STA_SOC_UNKNOWN 1)

/-- R256: integration moves to the Hall path, with the shunt differences replaced that were counted in the frames which ended within
the last 2 ms. -/
def hallSwitch (e : Env) (b : Blk) : Blk :=
  let fix := ((b.ledger.diffs.filter (fun d => decide (e.now ≤ d.1 + ms 2))).map (fun d => d.2.2 - d.2.1)).sum
  modLed (fun l => { l with
    qc := l.qc + fix
    cells := l.cells.map (fun (c : LCell) => { voidCycle c with hall := true }) }) (b.put LEDGER_STA_SRC_HALL 1)

/-- R255, R257: no current is counted: every cell's SoC is unknown, every learning cycle void. -/
def currentLost (b : Blk) : Blk :=
  modLed (fun l => { l with cells := l.cells.map voidCycle }) (allUnknown (b.put LEDGER_STA_NO_CURRENT 1))

/-- The Hall path's input is healthy (R257). -/
def hallOk (b : Blk) : Bool := b.get HVS_STA_HALL_OK == 1

/-- What a fault of a current input or the loss of lane B does to the ledger (R256, R257), once its bits have been set in `old`. -/
def pathFault (e : Env) (old b : Blk) : Blk :=
  let lostB := old.get TRIP_TEST_RES_RETIRED_B == 0 && b.get TRIP_TEST_RES_RETIRED_B == 1
  if b.get LEDGER_STA_NO_CURRENT = 1 then b
  else if b.get LEDGER_STA_SRC_HALL = 1 then (if hallOk b ∧ ¬ lostB then b else currentLost b)
  else if b.get HVS_STA_SHUNT_OK = 1 then b
  else if hallOk b then hallSwitch e b else currentLost b

/-- The conditions of the current paths. -/
def pathConds (b : Blk) : List Cond :=
  [⟨b.get LEDGER_STA_SRC_HALL == 1, SRC_HALL_INTEGRATION, 0, 0, 0, 0⟩,
   ⟨b.get LEDGER_STA_NO_CURRENT == 1, SRC_NO_CURRENT, 0, 0, 0, 0⟩]

/-- R257: counting resumes in the first frame in which a path that may be used is healthy: the Hall path where HALL_OK is 1. -/
def pathResume (e : Env) (b : Blk) : Blk :=
  if b.get LEDGER_STA_NO_CURRENT = 0 then b
  else if b.get LEDGER_STA_SRC_HALL = 0 then
    (if b.get HVS_STA_SHUNT_OK = 1 then b.put LEDGER_STA_NO_CURRENT 0
     else if hallOk b then hallSwitch e (b.put LEDGER_STA_NO_CURRENT 0) else b)
  else if hallOk b then b.put LEDGER_STA_NO_CURRENT 0 else b

/-- R256, R491: an edge reset after SHUNT_OK has been 1 for 1 s returns integration to the shunt, and both sources of the paths end. -/
def shuntReturn (e : Env) (b : Blk) : Blk :=
  if b.get LEDGER_STA_SRC_HALL = 1 ∧ b.get HVS_STA_SHUNT_OK = 1 ∧ b.hvs.shuntOkAt + sec 1 ≤ e.now then
    endExc e SRC_HALL_INTEGRATION 0 (endExc e SRC_NO_CURRENT 0
      (modLed (fun l => { l with cells := l.cells.map (fun (c : LCell) => { c with hall := false }) })
        ((b.put LEDGER_STA_SRC_HALL 0).put LEDGER_STA_NO_CURRENT 0)))
  else b

/-! ### The frame (R236) -/

/-- The cells of a frame, one by one: the new cells, what they raise, the learned capacities, and which anchors were taken. -/
def frameCells (e : Env) (b : Blk) (x : FrameCtx) :
    List (Nat × CellRec × LCell) → List LCell × List Raise × List (Nat × Nat) × Bool × Bool
  | [] => ([], [], [], false, false)
  | (n, c, l) :: rest =>
    let (ls, rs, caps, fa, ea) := frameCells e b x rest
    let l0 := cycStep b x n c l
    let (l1, r1, nc) := anchorStep e b x n c l0
    let took := l1.anchorAt == some e.now && l.anchorAt != some e.now
    (driftStep e x n l1 :: ls, r1 ++ rs, nc.toList.map (fun k => (n, k)) ++ caps, fa || (took && l1.anchor == 1),
      ea || (took && l1.anchor == 2))

/-- The values that a frame counts with: a STANDBY's own latch, with the partner's currents, voltages and accumulator differences where
it mirrored them (R164, R262). -/
def frameLat (l : Ledger) (own : Lat) (mir : Option Lat) : Lat :=
  let p := l.last.getD ⟨own.t, own.at_, 0, 0, 0, 0, []⟩
  let (dS, dH) := match mir, l.mlast, l.own with
    | some m, some k, _ => (m.qS - k.qS, m.qH - k.qH)
    | _, _, some o => (own.qS - o.qS, own.qH - o.qH)
    | _, _, none => (own.qS, own.qH)
  let v := mir.getD own
  ⟨own.t, own.at_, v.i, v.iH, p.qS + dS, p.qH + dH, v.v⟩

/-- R260: the ledger at the close of a frame's step 6. -/
def shoot (b : Blk) : Blk :=
  modLed (fun l => { l with shot := some ⟨l.qc, l.cells, b.shuttle.reps, b.get LEDGER_STA_SRC_HALL == 1⟩ }) b

/-- LEDGER's frame (R236), at the close of a sweep with its latched values: the terms of R235 in order, then anchors, bound,
end flags and limits. The answer carries what the frame raises. -/
def ledgerFrame (e : Env) (own : Lat) (mir : Option Lat) (supply : List (Nat × Nat × Nat)) (b0 : Blk) : Blk × List Raise :=
  let b := pathResume e b0
  let lat := frameLat b.ledger own mir
  let p := b.ledger.last.getD ⟨lat.t, lat.at_, 0, 0, 0, 0, []⟩
  let dS := lat.qS - p.qS
  let dH := lat.qH - p.qH
  let hall := b.get LEDGER_STA_SRC_HALL == 1
  let dead := b.get LEDGER_STA_NO_CURRENT == 1
  let dQ := if dead then 0 else if hall then dH else dS
  let x : FrameCtx := ⟨lat.i, if hall then lat.iH else lat.i, dQ, lat.at_ - p.at_, hall,
    e.get (if hall then LEDGER_DRIFT_HALL_OFFSET else LEDGER_DRIFT_SHUNT_OFFSET),
    e.get (if hall then LEDGER_DRIFT_HALL_GAIN else LEDGER_DRIFT_SHUNT_GAIN), b.ledger.repQ⟩
  let b1 := modLed (fun l =>
    let cs := l.repQ.foldl applyRep l.cells
    let cs := supply.foldl (fun cs s => supplyDebit s.1 s.2.1 s.2.2 cs) cs
    { l with qc := l.qc + dQ, last := some lat, own := some own, mlast := mir, repQ := [], cells := cs
             diffs := (if dead ∨ hall then (lat.at_, 0, 0) else (lat.at_, dS, dH)) :: l.diffs.take 3 }) b
  let (cs, rs, caps, fa, ea) := frameCells e b1 x (zipCells b1)
  let b2 := modLed (fun l => { l with cells := cs ++ l.cells.drop cs.length }) b1
  let b3 := limitCompute e lat.i (endFlags e x fa ea b2)
  let b4 := if caps.isEmpty then b3 else nvRequest (.journal false) (modLed (fun l => { l with
      cells := caps.foldl (fun cs q => modAt cs q.1 (fun c => { c with cap := q.2 })) l.cells })
    (b3.bump LEDGER_LEARN_CNT_ACCEPTED caps.length))
  let rej := (rs.filter (fun r => r.src == SRC_LEARN_REJECTED)).length
  (shoot (b4.bump LEDGER_LEARN_CNT_REJECTED rej), rs)

/-- The request of R246 as a condition. -/
def anchorCond (b : Blk) : Cond := ⟨b.get LEDGER_STA_ANCHOR_REQUEST == 1, SRC_ANCHOR_REQUEST, 0, 0, 0, 0⟩

/-- R250: the temperature of every open learning cycle, sampled every 100 ms. -/
def cycTempOf (t : Int) (c : LCell) : LCell :=
  { c with cyc := c.cyc.map (fun y => { y with tSum := y.tSum + t, tN := y.tN + 1 }) }

def cycTemp (b : Blk) : Blk :=
  modLed (fun l => { l with
    cells := mapIdx (fun n c => cycTempOf ((b.chain.cells[n]?.map CellRec.temp).getD 0) c) 0 l.cells }) b

/-- What every 100 ms brings: THERM's evaluation of the groups (R286), and a temperature for every open learning cycle (R250). -/
def thermGroups (e : Env) (b : Blk) : Blk := onlyIf (thermRuns b) (fun b => groupEval e (onlyIf b.running cycTemp b)) b

/-! ### The rows of LEDGER -/

/-- R254: `i` in mA, `held` µs beyond the published limit by 5 % + 10 A. -/
def limitExceeded (i : Int) (held : Nat) (e : Env) (b : Blk) : Blk :=
  let lim : Int := if 0 ≤ i then b.get LEDGER_LIM_CHG_LIMIT else b.get LEDGER_LIM_DSG_LIMIT
  let above := decide (100 * lim + 5 * lim + 1000000 < 100 * iabs i) && b.mode == .connected && b.running
  judge e (above && (decide (2000000 ≤ held) || inExc b SRC_LIMIT_EXCEEDED 0)) SRC_LIMIT_EXCEEDED 0 0 (dataWord i)
    (dataWord lim) b

/-- R261, R263: the journal period; in HOLDUP and in a warm boot no commit follows from it. -/
def journalPeriod (e : Env) (b : Blk) : Blk :=
  onlyIf (b.running && !b.holdup) (nvRequest (.journal false)) (modLed (fun l => { l with jrnAt := some (e.now + sec (e.get LEDGER_JRN_CFG_PERIOD)) }) b)

/-- LSTATE of a cell (R260). -/
def lstateOf (l : LCell) : Nat :=
  boolBit l.capUnk + 2 * boolBit l.pend + 4 * boolBit l.lost + 8 * boolBit l.socUnk + 16 * boolBit l.cyc.isSome + 32 * boolBit l.hall

/-- A cell's journal record (R260): counts in mC, throughput in C, age in s. -/
def jcell (e : Env) (x : Shot) (n : Nat) (l : LCell) : JCell :=
  let cnt := ((x.reps.find? (fun r => r.1 == n / 16)).bind (fun r => r.2[n % 16]?)).getD (0, 0)
  { q := x.qc + l.q, b := l.bound, cap := l.cap, inQ := cnt.1, outQ := cnt.2, anchor := l.anchor
    lstate := lstateOf l
    through := ((l.cyc.map Cyc.through).getD 0) / 1000000
    tSum := (l.cyc.map Cyc.tSum).getD 0
    age := ((l.cyc.map (fun c => e.now - c.at_)).getD 0) / sec 1 }

/-- R260: what a snapshot holds: the ledger at the latest frame's close; before the first frame, as it stands. -/
def shotOf (b : Blk) : Shot := b.ledger.shot.getD ⟨b.ledger.qc, b.ledger.cells, b.shuttle.reps, b.get LEDGER_STA_SRC_HALL == 1⟩

/-- R260: the ledger's snapshot at the start of a journal commit; its sequence comes with the commit's end. -/
def jrnSnap (e : Env) (final : Bool) (b : Blk) : Jrn :=
  { seq := 0, boot := b.get PWR_BOOT_BOOT_NUMBER, final := final, hall := (shotOf b).hall
    compat := e.get LEDGER_CTL_COMPAT288 == 1, count := cellCount b, tb0 := e.clk.ns0, wrap := e.clk.wrap
    cells := mapIdx (jcell e (shotOf b)) 0 (shotOf b).cells, ok := true }

/-- Whether slot A holds the winning copy (R261): the valid slot with the higher sequence. -/
def jrnWinner (l : Ledger) : Option (Bool × Jrn) :=
  match l.jrnA.filter Jrn.ok, l.jrnB.filter Jrn.ok with
  | some a, some c => if c.seq ≤ a.seq then some (true, a) else some (false, c)
  | some a, none => some (true, a)
  | none, some c => some (false, c)
  | none, none => none

/-- A journal commit starts. -/
def journalStart (e : Env) (final : Bool) (b : Blk) : Blk := modLed (fun l => { l with snap := some (jrnSnap e final b) }) b

/-- R260: a journal commit completes into the slot that does not hold the latest valid copy; the pending capacities that it holds are
committed (R251). -/
def journalDone (e : Env) (final : Bool) (b : Blk) : Blk :=
  let w := jrnWinner b.ledger
  let seq := ((w.map (fun p => p.2.seq)).getD 0 + 1) % 2 ^ 32
  let toA := !((w.map Prod.fst).getD false)
  let s := b.ledger.snap.getD (jrnSnap e final b)
  let j : Jrn := { s with seq := seq, final := final }
  let b1 := modLed (fun l => { l with
    jrnA := if toA then some j else l.jrnA
    jrnB := if toA then l.jrnB else some j
    jrnDone := e.now
    snap := none
    cells := mapIdx (fun n (c : LCell) => match s.cells[n]? with
      | some r => { c with pend := c.pend && !(bitOf r.lstate 1 && r.cap == c.cap) }
      | none => c) 0 l.cells }) b
  ((b1.put LEDGER_JRN_STA_SEQ (seq % 65536)).put LEDGER_JRN_STA_SLOT (boolBit (!toA))).put LEDGER_STA_LEARN_PENDING
    (boolBit (b1.ledger.cells.any LCell.pend))

/-- R261, R264: a journal commit fails its read-back: the slot it wrote has no valid CRC, and nothing pending is committed. -/
def journalTorn (e : Env) (final : Bool) (b : Blk) : Blk :=
  let toA := !(((jrnWinner b.ledger).map Prod.fst).getD false)
  let j : Jrn := { b.ledger.snap.getD (jrnSnap e final b) with final := final, ok := false }
  modLed (fun l => { l with
    jrnA := if toA then some j else l.jrnA
    jrnB := if toA then l.jrnB else some j
    snap := none }) b

/-- R260: the bytes of a cell's record. -/
def jcellBytes (j : JCell) : List Byte :=
  leBytes 8 (rawBits 64 j.q) ++ leBytes 8 j.b ++ leBytes 4 j.cap ++ leBytes 4 j.inQ ++ leBytes 4 j.outQ ++ leBytes 1 j.anchor ++
    leBytes 1 j.lstate ++ leBytes 4 j.through ++ leBytes 4 (rawBits 32 j.tSum) ++ leBytes 4 j.age ++ leBytes 6 0

/-- R260: the bytes of a slot; `ok` is their magic and CRC-32C agreeing when it is read. -/
def jrnBytes (j : Jrn) : List Byte :=
  let flags := boolBit j.final + 2 * boolBit j.hall + 4 * boolBit j.compat
  let body := leBytes 4 0x4C454447 ++ leBytes 4 j.seq ++ leBytes 1 j.boot ++ leBytes 1 flags ++ leBytes 2 j.count ++
    leBytes 4 j.tb0 ++ leBytes 4 j.wrap ++ leBytes 44 0 ++ j.cells.flatMap jcellBytes
  body ++ leBytes 4 (crc32c body)

/-- R258: one cell from its journal record, with the allowances, its open learning cycle voided; `unfin` where the slot was not FINAL. -/
def restoreCell (e : Env) (unfin : Bool) (j : JCell) (l : LCell) : LCell :=
  let open_ := bitOf j.lstate 4
  let add := e.get LEDGER_DRIFT_BOOT_BOOT + (if unfin then e.get LEDGER_DRIFT_BOOT_UNFINAL else 0)
  { l with q := j.q, cap := j.cap, b := j.b + add * j.cap / 10, prov := 0, capUnk := bitOf j.lstate 0,
           socUnk := bitOf j.lstate 3, anchor := j.anchor, pend := false, lost := unfin && open_
           cyc := if open_ then some ⟨1000000 * j.through, j.tSum, 0, e.now, true⟩ else none
           hall := false, fullN := 0, emptyN := 0 }

/-- R258: the ledger restored from the winning slot, or cleared where none is valid. -/
def ledgerRestore (e : Env) (b : Blk) : Blk :=
  match jrnWinner b.ledger with
  | some (isA, j) =>
    let cs := mapIdx (fun n (l : LCell) => match j.cells[n]? with
      | some r => restoreCell e (!j.final) r l
      | none => clearCell (e.get LEDGER_C_NOM) 0 l) 0 b.ledger.cells
    let lost := (cs.filter LCell.lost).length
    let reps := (List.range (j.count / 16)).map (fun g =>
      (g, ((j.cells.drop (16 * g)).take 16).map (fun (r : JCell) => (r.inQ, r.outQ))))
    let b0 := { b with shuttle := { b.shuttle with reps := reps } }
    let b1 := modLed (fun l => { l with qc := 0, last := none, own := none, mlast := none, diffs := [], cells := cs, repQ := [], shot := none }) b0
    let b2 := (((b1.put LEDGER_JRN_STA_SEQ (j.seq % 65536)).put LEDGER_JRN_STA_SLOT (boolBit (!isA))).put
      LEDGER_JRN_STA_BOOT_FINAL (boolBit j.final)).put LEDGER_LEARN_STA_LOST lost
    raiseAll e ((if j.final then [] else [{ src := SRC_LEDGER_RESTORED }]) ++
      (mapIdx (fun n (c : LCell) => (n, c)) 0 cs).filterMap (fun p =>
        if p.2.lost then some { src := SRC_LEARN_LOST, code := p.1 } else none)) b2
  | none =>
    let b1 := modLed (fun l => { l with
      qc := 0, last := none, own := none, mlast := none, diffs := [], repQ := [], shot := none
      cells := l.cells.map (clearCell (e.get LEDGER_C_NOM) 0) }) b
    raise e SRC_JOURNAL_FAULT 0 0 0 ((b1.put LEDGER_JRN_STA_BOTH_INVALID 1).put LEDGER_STA_SOC_UNKNOWN 1)

end Sys2Proof.Machine
end

