-- ==== Sys2Proof/Machine/WatchCmd.lean ====
section
/-! DEFINITION. WATCH's commands: activity, ERR_N, first fault, host raises, log commits, anchors and captures (R340 to
R365). -/

namespace Sys2Proof.Machine

def modWatch (f : Watch → Watch) (b : Blk) : Blk := { b with watch := f b.watch }

/-- The present record time as a stamp. -/
def stampNow (e : Env) : Option (Nat × Nat) := some e.at0

/-- R340: an event-kind source below L3 stops being active once its hold has passed. -/
def eventHoldExpiry (src : Nat) (e : Env) (b : Blk) : Blk :=
  modWatch (fun w => { w with act := w.act.filter (fun a => a.src != src || match a.hold with
    | some t => decide (e.now < t)
    | none => true) }) b

def holdTimer (src : Nat) (b : Blk) : Option Nat := (b.watch.act.find? (fun a => a.src == src)).bind Act.hold

/-- R364: the record of an operator's action. -/
def operatorAction (e : Env) (code : Nat) (b : Blk) : Blk := recordRaise e { src := SRC_OPERATOR_ACTION, code := code } b

/-- R346, R351: the release is armed while ERR_N is asserted, unless a raise at L1 or above came in the same cycle; otherwise the
write has no effect. -/
def errRelease (e : Env) (b : Blk) : Blk := localCmd (fun b =>
  if b.watch.errOn ∧ ¬ (cycleSeen e b.watch ∧ b.watch.errSince = e.now) then finish .ok (operatorAction e 4 (modWatch (fun w => { w with errArmed := true }) b))
  else finish .ok b) b

/-- R346: the conditions of the release. -/
def errReleaseDue (e : Env) (b : Blk) : Bool :=
  b.phase == .run && b.watch.errOn && b.watch.errArmed && !activeAt b 1 && decide (b.watch.errSince + ms 2 ≤ e.now)

/-- R346: ERR_N is released. -/
def errNRelease (e : Env) (b : Blk) : Blk :=
  onlyIf (errReleaseDue e b) (modWatch (fun w => { w with errOn := false, errArmed := false })) b

/-- R350, R351: the acknowledgement of the first fault; it applies before the raises of its own cycle, of which the first at or
above the capture level becomes the new first fault. -/
def ffAck (seq : Nat) (e : Env) (b : Blk) : Blk := localCmd (fun b =>
  let c := cycleOf e b.watch
  if c.ran then finish .denied b
  else if b.watch.ffValid ∧ b.watch.ff.map Rec.seq = some seq ∧ c.qual.map Rec.seq ≠ some seq then
    let b1 := modWatch (fun w => { w with ffValid := false }) b
    finish .ok (operatorAction e 3 (modWatch (fun w => (c.qual.map (fun q => ffTake q w)).getD w) b1))
  else finish .conflict b) b

/-- R365: a spare source whose producer is HOST. -/
def hostRaise (src code d0 : Nat) (e : Env) (b : Blk) : Blk := hostCmd (fun b =>
  if 0xF0 ≤ src ∧ src ≤ 0xFF ∧ e.get (FAULT_SPARE_MAP_PRODUCER (src - 0xF0)) = 1 then
    finish .ok (raise e src code d0 0 b)
  else finish .denied b) b

/-- R356: a commit of the log is asked for. -/
def logCommit (_ : Env) (b : Blk) : Blk :=
  if b.watch.cache.isEmpty then modWatch (fun w => { w with logAt := none }) b
  else nvRequest .log (modWatch (fun w => { w with logAt := none }) b)

/-- Insert into the log's slots, slots rising. -/
def slotPut : List (Nat × Rec) → Nat × Rec → List (Nat × Rec)
  | [], p => [p]
  | q :: l, p => if p.1 < q.1 then p :: q :: l else if p.1 = q.1 then p :: l else q :: slotPut l p

/-- R356: the commit completes: up to 64 cached records reach MRAM with the counters and the first-fault copy, and waiting
ingest slots go on. -/
def logDone (e : Env) (b : Blk) : Blk :=
  ceilingAsk <| dropCheck e b.watch.dropped <| modWatch (fun w =>
    let take := w.cache.take 64
    let w1 := { w with
      cache := w.cache.drop 64
      mram := take.foldl slotPut w.mram
      committed := take.foldl (fun m p => max m p.2.seq) w.committed
      mcnt := w.cnt
      mff := w.ff
      mffValid := w.ffValid
      logAt := if (w.cache.drop 64).isEmpty then none else some (e.now + ms 1) }
    logDrain e.now w1.ingest w1) b

/-- R356: a new sequence ceiling is committed. -/
def ceilingDone (v : Nat) (e : Env) (b : Blk) : Blk :=
  ceilingAsk (dropCheck e b.watch.dropped
    (modWatch (fun w => logDrain e.now w.ingest { w with ceiling := max w.ceiling v, ceilAsked := false }) b))

/-- R358: the host's anchor: `v` the TB0 ns written, `abs` the absolute time. -/
def anchorTb0 (v : Nat) (e : Env) (b : Blk) : Blk := localCmd (fun b =>
  if 1000000000 < (e.clk.ns0 + 2 ^ 32 - v % 2 ^ 32) % 2 ^ 32 then finish .conflict b
  else
    let w := if v ≤ e.clk.ns0 then e.clk.wrap else (e.clk.wrap + 2 ^ 32 - 1) % 2 ^ 32
    finish .ok (recordRaise e ⟨SRC_TIME_ANCHOR, 0, e.get LOG_ANCHOR_ABS_LO, e.get LOG_ANCHOR_ABS_HI, false, some (v, w)⟩ b)) b

/-- R357: a lookup is held for the session. -/
def logLookup (session seq : Nat) (_ : Env) (b : Blk) : Blk := localCmd (fun b =>
  finish .ok { b with sess := modAt b.sess session (fun s => { s with lookup := seq }) }) b

/-! ### Captures -/

/-- TRIP.TRIP_TIME_HI's word (R186): fraction, first lane and lanes flagged. -/
def tripWord (t : Trip) : Nat := t.frac + t.first * 2 ^ 24 + t.lanes * 2 ^ 26

/-- R187: a trigger, `sub` times 1.25 ns after the CORE tick: marked in a running capture, or the start of a new one, which holds the
pretrigger buffer's edges. `seq` is the log sequence of its record. -/
def captureTrigger (e : Env) (src seq sub : Nat) (b : Blk) : Blk :=
  match b.watch.bufs.find? (fun c => c.runs (4 * e.now + sub)) with
  | some _ => modWatch (fun w => { w with bufs := w.bufs.map (fun c =>
      if c.runs (4 * e.now + sub) then
        { c with
          further := (c.further ++ [(src, (e.now + ms 10 - c.endsAt) / 200)]).take 8, furtherN := min 255 (c.furtherN + 1) }
      else c) }) b
  | none =>
    if b.watch.bufs.length < 2 then
      let t0 := e.clk.tb0 + sub * 20971520
      let at4 := 4 * e.now + sub
      let edges := b.trip.recent.filter (fun p => decide (at4 ≤ p.1 + 8000000))
      (modWatch (fun w => { w with bufs := w.bufs ++ [{
        trig := src, tb0 := t0 / 2 ^ 24 % 2 ^ 32, wrap := (e.clk.wrap + t0 / 2 ^ 56) % 2 ^ 32, seq := seq, further := [], furtherN := 0
        endsAt := e.now + ms 10, frozen := false, edges := (edges.map (fun p => ((p.1 : Int) - at4, p.2))).take 256
        lanes := if src = SRC_CLICK_TRIP then tripWord b.trip else 0, warm := b.phase == .warmBoot, at4 := at4
        overflow := decide (256 < edges.length) }] }) b).put TRIP_CAP_CTL_RUNNING 1
    else raise e SRC_CAPTURE_LOST 0 0 0 b

/-- The log sequence of a source's latest record. -/
def seqOf (b : Blk) (src : Nat) : Nat := ((latestOf b.watch src).map Rec.seq).getD 0

/-- TRIP.CAP_CTL.MANUAL (R187). DESIGN CHOICE: such a trigger has no source and no record; the capture shows 0 for both
(notes/assumptions/146.md). -/
def captureManual (e : Env) (b : Blk) : Blk := hostCmd (fun b => finish .ok (captureTrigger e 0 0 0 b)) b

/-- The end of the post-trigger time of the buffer that freezes next (R187); the island keeps it in a warm boot too. -/
def freezeTimer (b : Blk) : Option Nat :=
  if b.phase = .run ∨ b.phase = .warmBoot then (b.watch.bufs.find? (fun c => !c.frozen)).map CapBuf.endsAt else none

/-- R360: the slot of a capture: a free one, else the one with the oldest unprotected capture. -/
def capSlot (b : Blk) : Option Nat :=
  match (List.range 12).find? (fun k => !(b.watch.caps.any (fun c => c.slot == k))) with
  | some k => some k
  | none => (((b.watch.caps.filter (fun c => !(bitOf (b.get LOG_CAP_PROTECT) c.slot))).foldl
      (fun (a : Option Cap) c => match a with
        | none => some c
        | some d => if c.number < d.number then some c else some d) none).map Cap.slot)

/-- R360: the storage of a frozen buffer begins in the slot that it gets, or the capture is lost. Only a CLICK_TRIP's sets its protect
bit. -/
def captureStore (e : Env) (c : CapBuf) (b : Blk) : Blk :=
  match capSlot b with
  | none => raise e SRC_CAPTURE_LOST 0 0 0 (modWatch (fun w => { w with bufs := w.bufs.filter (fun x => x.at4 != c.at4) }) b)
  | some k =>
    let b1 := modWatch (fun w => { w with
      capNum := w.capNum + 1
      caps := w.caps.filter (fun x => x.slot != k) ++ [⟨k, w.capNum + 1, c, b.get PWR_BOOT_BOOT_NUMBER, c.warm, false, 0⟩] }) b
    let b2 := b1.put LOG_CAP_VALID (setBit (b.get LOG_CAP_VALID) k false)
    let b3 := if c.trig = SRC_CLICK_TRIP then b2.put LOG_CAP_PROTECT (setBit (b2.get LOG_CAP_PROTECT) k true) else b2
    nvRequest (.capture k) (b3.put LOG_STA_STORING 1)

/-- R187, R360: the buffer whose post-trigger time ends freezes. It is stored at once, one that froze in a warm boot once that has
ended. -/
def captureFreeze (e : Env) (b : Blk) : Blk :=
  match b.watch.bufs.find? (fun c => !c.frozen) with
  | none => b
  | some c0 =>
    let c : CapBuf := { c0 with
      frozen := true, lanes := if c0.trig = SRC_CLICK_TRIP ∧ c0.tb0 = b.trip.ns then tripWord b.trip else c0.lanes }
    let b1 := modWatch (fun w => { w with bufs := w.bufs.map (fun x => if x.at4 = c.at4 then c else x) }) b
    let b2 := b1.put TRIP_CAP_CTL_RUNNING (boolBit (b1.watch.bufs.any (fun x => !x.frozen)))
    if b.phase = .run then captureStore e c b2 else b2

/-- The captures that froze in a warm boot are stored after it (R360, R361). -/
def captureResume (e : Env) (b : Blk) : Blk :=
  (b.watch.bufs.filter (fun c => c.frozen && !(b.watch.caps.any (fun x => x.buf.at4 == c.at4)))).foldl
    (fun (x : Blk) c => captureStore e c x) b

/-- One storage commit of a capture is done (R360). -/
def captureDone (slot : Nat) (b : Blk) : Blk :=
  let b1 := modWatch (fun w => { w with
    caps := w.caps.map (fun c => if c.slot = slot then { c with parts := min 35 (c.parts + 1) } else c) }) b
  if b1.watch.caps.any (fun c => c.slot == slot && decide (c.parts < 35)) then nvRequest (.capture slot) b1 else b1

/-- A capture whose 35 commits are done and that is not yet shown as stored. -/
def captureReady (b : Blk) : Option Cap :=
  b.watch.caps.find? (fun c => c.parts == 35 && !(bitOf (b.get LOG_CAP_VALID) c.slot))

/-- R360: the record of a stored capture; its buffer is free. -/
def captureStored (e : Env) (b : Blk) : Blk :=
  match captureReady b with
  | none => b
  | some c =>
    let b1 := modWatch (fun w => { w with bufs := w.bufs.filter (fun x => !(x.frozen && x.tb0 == c.buf.tb0 && x.wrap == c.buf.wrap)) }) b
    let b2 := (((b1.put LOG_CAP_VALID (setBit (b.get LOG_CAP_VALID) c.slot true)).put LOG_CAP_LAST_SLOT c.slot).put
      LOG_CAP_LAST_NUMBER (c.number % 2 ^ 24)).put LOG_STA_STORING
        (boolBit (b1.watch.caps.any (fun x => x.slot != c.slot && !(bitOf (b.get LOG_CAP_VALID) x.slot) && !x.incomplete)))
    recordRaise e ⟨SRC_CAPTURE_STORED, 0, c.slot, c.number, false, none⟩ b2

end Sys2Proof.Machine
end

