-- ==== Sys2Proof/Machine/Hvs.lean ====
section
/-! DEFINITION. HVS and TRIP: the island's measurements and checks, insulation monitoring, the click path, its lane tests and
its latches (file 06, R148 to R190). -/

namespace Sys2Proof.Machine

def modHvs (f : Hvs → Hvs) (b : Blk) : Blk := { b with hvs := f b.hvs }

/-! ### Measurement -/

/-- R154: a channel's reading as the island corrects it: gain in ppm, offset, and a curvature in ppm per K² of the island temperature's
distance from 25 °C, in the channel's own unit. Channels: 0 to 5 the HV nodes, 6 the shunt, 7 Hall, 8 and 9 the NTCs, 10 and 11
the injector's voltage and current. The form of the correction is a DESIGN CHOICE (notes/assumptions/107.md). -/
def calibrated (b : Blk) (ch : Nat) (x : Int) : Int :=
  match b.hvs.cal[ch]? with
  | none => x
  | some (g, o, c) =>
    let d := b.int HVS_ISLAND_TEMP_TEMP - 250
    x + divRound (x * g) 1000000 + o + divRound (x * c * d * d) 100000000

/-- R155: the shunt current in mA from SH_P − SH_N in nV. -/
def shuntCurrent (e : Env) (b : Blk) (nv : Int) : Int :=
  let g := 100000 + e.int HVS_SHUNT_TRIM_GAIN
  let t := 10000000 + e.int HVS_SHUNT_TRIM_TC * (b.hvs.ntcA - 250)
  divRound (nv * 1000 * g * 100) ((e.get HVS_SHUNT_R_R : Int) * t) - b.int HVS_ZERO_SHUNT_OFS

/-- R157: the Hall current in mA from HALL_SIG in µV. -/
def hallCurrent (e : Env) (b : Blk) (uv : Int) : Int :=
  divRound (uv * e.int HVS_HALL_SCALE_SCALE) 1000000 - 100 * b.int HVS_ZERO_HALL_OFS

/-- R152: a node value saturates at ±2,200 V, in 10 mV. -/
def clampNode (v : Int) : Int := max (-220000) (min 220000 v)
def nodeOver (v : Int) : Bool := decide (220000 < iabs v)

/-- R163: the follow flags. -/
def followFlags (b : Blk) : Blk :=
  (b.put HVS_STA_FOLLOW_P (boolBit (decide (50 * iabs (nodeV b 1 - nodeV b 0) ≤ nodeV b 0 - nodeV b 3)))).put
    HVS_STA_FOLLOW_N (boolBit (decide (iabs (nodeV b 4 - nodeV b 3) ≤ 500)))

/-- The latest values in HVS's registers. -/
def showLat (l : Lat) (sat : Bool) (b : Blk) : Blk :=
  let b1 := mapIdx (fun n v => (n, v)) 0 l.v |>.foldl (fun x p => x.putInt (HVS_V_NODE p.1) p.2) b
  let v := fun n => (l.v[n]?).getD 0
  let b2 := (b1.putInt HVS_V_STRING_V (v 0 - v 3)).putInt HVS_V_BUS_V (v 2 - v 5)
  followFlags ((((b2.putInt HVS_I_SHUNT_I l.i).putInt HVS_I_HALL_I l.iH).put HVS_T_SAMPLE_T l.t).put HVS_STA_OVERRANGE
    (boolBit sat))

/-- R124, R129: both MID nodes lie within 60 V of HVN (precondition 2). -/
def midsLow (b : Blk) : Bool :=
  decide (iabs (nodeV b 1 - nodeV b 3) < 6000) && decide (iabs (nodeV b 4 - nodeV b 3) < 6000)

/-- R129: precondition 2 lost while the sequence itself keeps the SSBs off (steps 1 and 2) aborts the connect. DEDUCED: it is judged from
one sample to the next, with no weld pulse since the first, while every contactor reads open; a pulse charges the MID nodes, and KC and
KN closed bring the bus voltage to them (notes/assumptions/125.md). -/
def midsJudge (e : Env) (old b : Blk) : Blk :=
  let since := e.now - (sdiff32 e.clk.ns1 (old.get HVS_T_SAMPLE_T)).toNat / 5
  let quiet := b.seq.pulseBy.isNone && (b.seq.pulseEnd.map (fun t => decide (t ≤ since))).getD true
  if (seqStep b = stepWeldConnect ∨ seqStep b = 2) ∧ quiet ∧ ¬ [0, 1, 2].any (fbClosed b) ∧ midsLow old ∧ ¬ midsLow b then precondLost e 0 b else b

/-- R153, R154, R159, R211: the sample instant of the earliest announced sweep not yet sampled. `nv` and `uv` are the current
inputs, `v` the six nodes in 10 mV, before calibration; `dqS` and `dqH` the corrected charge since the last instant in nC. Nothing
happens where no instant is announced. -/
def sampleInstant (nv uv : Int) (v : List Int) (dqS dqH : Int) (e : Env) (b : Blk) : Blk :=
  match b.chain.flight.find? (fun s => s.lat.isNone) with
  | none => b
  | some s =>
    let qS := b.hvs.qS + dqS
    let qH := b.hvs.qH + dqH
    let w := mapIdx (calibrated b) 0 (v.take 6)
    let l : Lat := ⟨s.t, e.now, shuntCurrent e b (calibrated b 6 nv), hallCurrent e b (calibrated b 7 uv), qS / 1000, qH / 1000,
      w.map clampNode⟩
    let b1 := modHvs (fun h => { h with qS := qS, qH := qH }) b
    midsJudge e b (compStep e (showLat l (w.any nodeOver) { b1 with
      chain := { b1.chain with
        flight := b1.chain.flight.map (fun (x : Sweep) => if x.id = s.id ∧ x.lat.isNone then { x with lat := some l } else x) } }))

/-! ### The island's link and clocks (R150, R151) -/

/-- R150: loss of the link forces BK_G low, the island drops its commands, and injection stops. -/
def islandLinkLoss (e : Env) (b : Blk) : Blk :=
  if b.get HVS_STA_ISLAND_OK = 0 then b else
  let warm := b.phase == .warmBoot
  let b1 := imdStop ((gateDrop e b).put HVS_STA_ISLAND_OK 0)
  beginExc e SRC_ISLAND_FAULT 0 0 0 0 (modTrip (fun t => { t with warmDrop := t.warmDrop || warm }) b1)

/-- R150, R182: the link is valid again; BK_G waits for a new command of SAFE. -/
def islandLinkRestored (e : Env) (b : Blk) : Blk := endExc e SRC_ISLAND_FAULT 0 (b.put HVS_STA_ISLAND_OK 1)

/-- R91, R189: loss of the SAMP clock at the island. -/
def sampClkLoss (e : Env) (b : Blk) : Blk :=
  precondLost e SRC_ISLAND_FAULT (beginExc e SRC_ISLAND_FAULT 1 0 0 0 ((b.put HVS_STA_SAMP_OK 0).put CLK_STA_SAMP_FWD_OK 0))

/-- The limits of R165: 0 discharge current, 1 charge current, 2 string overvoltage, 3 string undervoltage, 4 bus
overvoltage, 5 rate of rise. `x` in mA, 10 mV, or mA per 10 µs; `d` µs, or windows for the rate. -/
def limitValue (e : Env) (k : Nat) : Int := match k with
  | 0 => 1000 * e.get HVS_LIM_OC_DSG
  | 1 => 1000 * e.get HVS_LIM_OC_CHG
  | 2 => 10 * e.get HVS_LIM_V_OV
  | 3 => 10 * e.get HVS_LIM_V_UV
  | 4 => 10 * e.get HVS_LIM_BUS_BUS_OV
  | _ => 1000 * e.get HVS_LIM_DIDT_RATE

/-- R165, R188: BUS_OV is evaluated in CONNECTING and CONNECTED, in HOLDUP while CONNECTED only. -/
def busOvRuns (b : Blk) : Bool := b.mode == .connected || (b.mode == .connecting && !b.holdup)

/-- Whether a quantity lies beyond its limit; `sat` tells that a node it is taken from saturates, which counts as beyond (R152). -/
def limitBeyond (e : Env) (b : Blk) (k : Nat) (x : Int) (sat : Bool) : Bool := match k with
  | 0 => decide (x < -(limitValue e 0))
  | 1 => decide (limitValue e 1 < x)
  | 2 => sat || decide (limitValue e 2 < x)
  | 3 => e.get HVS_LIM_V_UV != 0 && (sat || decide (x < limitValue e 3))
  | 4 => busOvRuns b && (sat || decide (limitValue e 4 < x))
  | _ => decide (limitValue e 5 < iabs x)

/-- How long it must last. -/
def limitTime (e : Env) (k : Nat) : Nat := match k with
  | 0 => 1000 * e.get HVS_LIM_OC_TIME_TIME
  | 1 => 1000 * e.get HVS_LIM_OC_TIME_TIME
  | 5 => e.get HVS_LIM_DIDT_COUNT
  | _ => 1000

/-- R151: during a warm boot the island's own limit checker sets the limit latch and forces BK_G low. -/
def islandLimitLatch (k : Nat) (x : Int) (sat : Bool) (d : Nat) (e : Env) (b : Blk) : Blk :=
  if b.phase = .warmBoot ∧ k ≠ 3 ∧ limitBeyond e b k x sat ∧ limitTime e k ≤ d ∧ b.get HVS_STA_LIMIT_LATCH = 0 then
    raise e SRC_ISLAND_LIMIT_DROP 0 0 0
      (modTrip (fun t => { t with warmDrop := true }) (gateEdges e b (b.put HVS_STA_LIMIT_LATCH 1)))
  else b

/-- R165, R187: a limit outside the click path, judged on its quantity and duration; it ends when the quantity is back inside.
Outside a warm boot it acts through SAFE and may trigger a capture. -/
def limitJudge (src k : Nat) (cap : Bool) (x : Int) (sat : Bool) (d : Nat) (e : Env) (b : Blk) : Blk :=
  if b.phase ≠ .run then b else
  let new := limitBeyond e b k x sat && decide (limitTime e k ≤ d) && !inExc b src k
  let b1 := judge e (new || (limitBeyond e b k x sat && inExc b src k)) src k 0 (dataWord x) (dataWord (limitValue e k)) b
  if new ∧ cap ∧ e.get TRIP_CAP_CTL_HVS_L4 = 1 then captureTrigger e src (seqOf b1 src) 0 b1 else b1

/-- OVERCURRENT: the direction gives the limit. A current of one direction ends an excursion of the other. -/
def overcurrent (x : Int) (d : Nat) (e : Env) (b : Blk) : Blk :=
  if x < 0 then limitJudge SRC_OVERCURRENT 0 true x false d e (endExc e SRC_OVERCURRENT 1 b)
  else limitJudge SRC_OVERCURRENT 1 true x false d e (endExc e SRC_OVERCURRENT 0 b)

/-- R163: MID nodes while CONNECTED with both SSBs and both main contactors commanded closed; nodes in 10 mV, `d` µs of violation. -/
def midMismatch (v : List Int) (d : Nat) (e : Env) (b : Blk) : Blk :=
  if b.phase ≠ .run then b else
  let g := fun n => (v[n]?).getD 0
  let worst := max (max (iabs (g 1 - g 0)) (iabs (g 4 - g 3))) (max (iabs (g 2 - g 1)) (iabs (g 5 - g 4)))
  let out := b.mode == .connected && commanded b 0 && commanded b 1 && b.get SAFE_SW_STATE_SSBP_CMD == 1 &&
    b.get SAFE_SW_STATE_SSBN_CMD == 1 && (decide (2000 < worst) || (v.take 6).any nodeOver)
  let new := out && decide (100 ≤ d) && !inExc b SRC_MID_MISMATCH 0
  let b1 := judge e (new || (out && inExc b SRC_MID_MISMATCH 0)) SRC_MID_MISMATCH 0 0 (dataWord worst) 2000 b
  if new ∧ e.get TRIP_CAP_CTL_HVS_L4 = 1 then captureTrigger e SRC_MID_MISMATCH (seqOf b1 SRC_MID_MISMATCH) 0 b1 else b1

/-! ### Lanes (R172, R176 to R179) -/

def failFld (k : Nat) : Fld := match k with
  | 0 => TRIP_TEST_RES_FAIL_A
  | 1 => TRIP_TEST_RES_FAIL_B
  | _ => TRIP_TEST_RES_FAIL_C
def retiredFld (k : Nat) : Fld := match k with
  | 0 => TRIP_TEST_RES_RETIRED_A
  | 1 => TRIP_TEST_RES_RETIRED_B
  | _ => TRIP_TEST_RES_RETIRED_C
def testTimeFld (k : Nat) : Fld := match k with
  | 0 => TRIP_TEST_TIME_A
  | 1 => TRIP_TEST_TIME_B
  | _ => TRIP_TEST_TIME_C

def retired (b : Blk) (k : Nat) : Bool := b.get (retiredFld k) == 1
def onPath (b : Blk) (k : Nat) : Bool := b.get (onPathFld k) == 1

/-- R179: a lane on the gate path that has not failed its last test, is not retired and whose input is sound. -/
def laneHealthy (b : Blk) (k : Nat) : Bool :=
  onPath b k && b.get (failFld k) == 0 && !retired b k &&
  (if k = 1 then b.get HVS_STA_HALL_OK == 1 else b.get HVS_STA_SHUNT_OK == 1)

/-- R179: fewer than two healthy lanes. -/
def insufficient (b : Blk) : Bool := decide (([0, 1, 2].filter (laneHealthy b)).length < 2)

/-- LANES_INSUFFICIENT as a condition, with its flag shown. -/
def lanesShow (b : Blk) : Blk :=
  (b.put TRIP_STA_INSUFFICIENT (boolBit (insufficient b))).put TRIP_STA_GATE_FORCED (boolBit (gateForced b))
def lanesCond (b : Blk) : Cond := ⟨insufficient b, SRC_LANES_INSUFFICIENT, 0, 0, 0, 0⟩

/-- Lane C joins the gate path in a lane's place, if it is in reserve. -/
def cJoin (k : Nat) (b : Blk) : Blk :=
  if b.get TRIP_STA_C_ROLE = 0 ∧ ¬ retired b 2 then (b.put TRIP_STA_C_ROLE (k + 1)).put TRIP_STA_ON_PATH_C 1 else b

/-- R178: a lane is retired until the next cold boot; lane C is brought in for good where it is available. -/
def retireLane (k : Nat) (b : Blk) : Blk :=
  let b1 := (b.put (retiredFld k) 1).put (onPathFld k) 0
  if k = 2 then b1.put TRIP_STA_C_ROLE 3 else
  let b2 := cJoin k b1
  if b2.get TRIP_STA_C_ROLE = k + 1 then b2.put SYS_RESERVE_USED_USED (setBit (b2.get SYS_RESERVE_USED_USED) 0 true) else b2

/-- R43, R364: a reserve brought in is recorded with its bit. -/
def reserveRecord (e : Env) (bit : Nat) (old b : Blk) : Blk :=
  if ¬ bitOf (old.get SYS_RESERVE_USED_USED) bit ∧ bitOf (b.get SYS_RESERVE_USED_USED) bit then
    recordRaise e { src := SRC_RESERVE_IN, code := bit } b
  else b

/-- A lane takes its place on the gate path: lane C only where it stands in for another. -/
def rejoin (k : Nat) (b : Blk) : Blk :=
  if k = 2 ∧ (b.get TRIP_STA_C_ROLE = 0 ∨ b.get TRIP_STA_C_ROLE = 3) then b else b.put (onPathFld k) 1

/-- A pass (R178, R180): the failure count clears, the lane takes its place, and lane C returns to reserve. -/
def lanePass (k : Nat) (b : Blk) : Blk :=
  let b1 := rejoin k (b.put (failFld k) 0)
  if k ≠ 2 ∧ b1.get TRIP_STA_C_ROLE = k + 1 then (b1.put TRIP_STA_C_ROLE 0).put TRIP_STA_ON_PATH_C 0 else b1

/-- A lane is kept off the gate path; lane C, if in reserve, joins in its place (R178, R180). -/
def laneOff (k : Nat) (b : Blk) : Blk :=
  let b1 := b.put (onPathFld k) 0
  if k = 2 then b1 else cJoin k b1

/-- A lane's test takes the next slot out of turn. -/
def outOfTurn (k : Nat) (b : Blk) : Blk := modTrip (fun t => { t with again := t.again.filter (· != k) ++ [k] }) b

/-- A failure (R178); `held` where the latch or a comparator was still active at step 7: the lane stays off the path, otherwise it
rejoins. -/
def laneFail (k : Nat) (held : Bool) (b : Blk) : Blk × List Raise :=
  let n := b.get (failFld k) + 1
  let reserveC := k == 2 && b.get TRIP_STA_C_ROLE == 0
  let b1 := b.put (failFld k) (min 2 n)
  let b2 := if held then laneOff k b1 else rejoin k b1
  let b3 := outOfTurn k b2
  let fail : Raise := { src := SRC_LANE_TEST_FAIL, code := k + 1 }
  if 2 ≤ n ∨ reserveC then
    (modTrip (fun t => { t with again := t.again.filter (· != k) }) (retireLane k b3), [fail, { src := SRC_LANE_RETIRED, code := k + 1 }])
  else (b3, [fail])

/-- The next lane of the rotation that is not retired (R176). -/
def nextLane (b : Blk) : Option Nat :=
  match b.trip.again.find? (fun k => !retired b k) with
  | some k => some k
  | none => [b.trip.next, (b.trip.next + 1) % 3, (b.trip.next + 2) % 3].find? (fun k => !retired b k)

/-- R176: the comparator tested (true the high one) and its level in the lane's LSB: the present current shifted by MARGIN to the
tripping side and kept to the DAC's range; where less than 8 LSB of overdrive would be left, the other comparator. -/
def testLevel (e : Env) (cur : Int) (high : Bool) : Bool × Int :=
  let m : Int := e.get TRIP_TEST_CTL_MARGIN
  let lvl := fun (h : Bool) => max (-512) (min 511 (if h then cur - m else cur + m))
  if 8 ≤ iabs (cur - lvl high) then (high, lvl high) else (!high, lvl !high)

/-- R173, R186: a latch set on the gate path is part of the trip that stands, or begins one where none stands or lane tests have cleared
its latches: it is timestamped `sub` times 1.25 ns
after the CORE tick, raised and captured. -/
def latchTrips (lane sub : Nat) (e : Env) (b : Blk) : Blk :=
  let t0 := e.clk.tb0 + sub * 20971520
  let alone := [0, 1, 2].all (fun k => k == lane || b.get (latchFld k) == 0)
  let first := (b.trip.at_.map (fun t => alone && decide (t + ms 1 < e.now))).getD true
  let b1 := lanesShow (modTrip (fun t =>
    if first then { t with ns := t0 / 2 ^ 24 % 2 ^ 32, frac := t0 % 2 ^ 24, first := lane + 1, lanes := 2 ^ lane, at_ := some e.now }
    else if (t.at_.getD 0) + ms 1 < e.now then t
    else { t with lanes := setBit t.lanes lane true }) b)
  if ¬ first then b1 else
  let warm := b.phase == .warmBoot
  let b2 := modTrip (fun t => { t with warmDrop := t.warmDrop || warm })
    ((b1.bump TRIP_TRIP_CNT_BOOT).bump TRIP_TRIP_CNT_LIFE)
  let time := (t0 / 2 ^ 24 % 2 ^ 32, (e.clk.wrap + t0 / 2 ^ 56) % 2 ^ 32)
  let b3 := nvRequest .retained (raiseAll e [⟨SRC_CLICK_TRIP, lane + 1, 0, 0, false, some time⟩] b2)
  captureTrigger e SRC_CLICK_TRIP (if b3.phase = .run then seqOf b3 SRC_CLICK_TRIP else 0) sub b3

/-- A change of the gate path that brings a set latch onto it trips as that latch's setting would (R173, R182). -/
def pathJoined (e : Env) (old b : Blk) : Blk :=
  let b1 := gateEdges e old b
  match [0, 1, 2].find? (fun k => b1.get (latchFld k) == 1 && onPath b1 k) with
  | some k => if b1.trip.at_.isNone then latchTrips k 0 e b1 else b1
  | none => b1

/-- The latch edges of a test that begins at this time (R177): set at step 4, reset at step 6. -/
def testEdges (k : Nat) (resp : Option Nat) (held : Bool) (e : Env) (b : Blk) : Blk :=
  match resp with
  | none => b
  | some r =>
    let b1 := edgeAt (4 * e.now + 20 + r) (k + 1) b
    if held then b1 else edgeAt (4 * e.now + 960) (4 + k) b1

/-- R177, R178, R180: one test of the lane whose turn it is. `resp` is the latch's response in 1.25 ns (none: not set at step
5), `held` whether latch or comparator is still active at step 7, `meas` the measured current in the lane's LSB, `other`
whether another latch on the path set during the test. A test that is not counted leaves a slot out of turn as it was. -/
def laneTest (resp : Option Nat) (held : Bool) (meas : Int) (other : Bool) (e : Env) (b : Blk) : Blk :=
  if b.get CLK_STA_TRIP_FWD_OK = 0 then b else
  match nextLane b with
  | none => b
  | some k0 =>
    let blocked := !other && k0 == 0 && b.get TRIP_STA_C_ROLE == 0 && b.get TRIP_STA_LATCH_C == 1
    let k := if blocked then 2 else k0
    let thr := thrCode e b k
    let bound := if k = 1 then 200 else 32
    let (high, lvl) := testLevel e meas !((b.trip.lastHigh[k]?).getD false)
    let b1 := testEdges k resp held e (modTrip (fun t => { t with
      next := if t.again.contains k0 then t.next else (k0 + 1) % 3
      again := if blocked then [0] ++ t.again.filter (· != 0) else t.again
      lastHigh := setAt t.lastHigh k high, level := lvl
      comp := setAt t.comp k (((t.comp[k]?).getD false) || (held && !other)) }) b)
    if other then
      let b2 := lanesShow (rejoin k (if held then b1.put (latchFld k) 1 else b1))
      pathJoined e b (judgeAll e [lanesCond b2] b2)
    else if held ∧ thr ≤ meas.natAbs then
      let b2 := lanesShow (rejoin k (b1.put (latchFld k) 1))
      pathJoined e b (judgeAll e [lanesCond b2] b2)
    else if held ∧ thr < meas.natAbs + 8 then
      let b2 := lanesShow (outOfTurn k (laneOff k (b1.put (latchFld k) 1)))
      pathJoined e b (judgeAll e [lanesCond b2] b2)
    else
      let b1 := modTrip (fun t => { t with again := t.again.filter (fun j => j != k || blocked) }) b1
      let b2 := ((b1.bump TRIP_TEST_RES_TESTS).put (testTimeFld k) (min 255 (resp.getD 255))).put (latchFld k) (boolBit held)
      let pass := !held && (resp.map (fun r => decide (r ≤ bound))).getD false
      let (b3, rs) := if pass then (lanePass k b2, []) else laneFail k held b2
      let b4 := lanesShow (pathFault e b b3)
      pathJoined e b (reserveRecord e 0 b (judgeWith e (lanesCond b4 :: pathConds b4) rs b4))

/-- R180: loss of the TRIP clock fails a running test (`during` its lane). -/
def tripClkLoss (during : Option Nat) (e : Env) (b : Blk) : Blk :=
  let b0 := b.put CLK_STA_TRIP_FWD_OK 0
  let (b1, rs) := match during with
    | some k => if k < 3 ∧ ¬ retired b k then laneFail k false b0 else (b0, [])
    | none => (b0, [])
  let b2 := lanesShow (pathFault e b b1)
  precondLost e SRC_TRIP_CLK_LOSS <| pathJoined e b (reserveRecord e 0 b (judgeWith e (lanesCond b2 :: ⟨true, SRC_TRIP_CLK_LOSS, 0, 0, 0, 0⟩ :: pathConds b2) rs b2))

def tripClkRestored (e : Env) (b : Blk) : Blk := endExc e SRC_TRIP_CLK_LOSS 0 (b.put CLK_STA_TRIP_FWD_OK 1)

/-- R181: at cold boot each lane is tested twice in each polarity; `bad` names the lanes that failed one. DESIGN CHOICE: they are retired with
their failure counts at 0 (notes/assumptions/94.md). -/
def laneBootTest (bad : List Nat) (b : Blk) : Blk :=
  let b0 := ((((b.put TRIP_STA_ON_PATH_A 1).put TRIP_STA_ON_PATH_B 1).put TRIP_STA_ON_PATH_C 0).put TRIP_STA_C_ROLE 0)
  lanesShow (([2, 0, 1].filter (fun k => bad.contains k)).foldl (fun x k => retireLane k x) b0)

/-! ### The click path (R173, R186) -/

/-- R173, R186: a lane's latch sets. `sub` counts 1.25 ns since the CORE tick. A latch on the gate path forces BK_G low (R182); the
first one of a trip is timestamped and raised. -/
def latchSet (lane sub : Nat) (e : Env) (b : Blk) : Blk :=
  if 2 < lane ∨ ¬ b.powered then b
  else if b.get (latchFld lane) = 1 then modTrip (fun t => { t with comp := setAt t.comp lane true }) b else
  let b1 := edgeAt (4 * e.now + sub) (lane + 1)
    (modTrip (fun t => { t with comp := setAt t.comp lane true }) (b.put (latchFld lane) 1))
  if onPath b lane then latchTrips lane sub e (gateEdgesAt (4 * e.now + sub) e b b1) else lanesShow b1

/-- R183: the command that BK_FB of SSB `k` is compared with: BK_G, in TWIN together with the partner's mirrored command; on a
standby during an announced pulse that pulse. -/
def bkOn (e : Env) (b : Blk) (k : Nat) : Bool :=
  if announced e b k 50000 then announced e b k 0
  else bkG e b k && ((b.tw.pcmds.bind (fun l => l[3 + k]?)).getD true)

/-- R183: `fell` a fall of BK_G with its BK_FB delay, otherwise a low reading of BK_FB of an SSB confirmed on; `d` in 0.1 µs. -/
def bkFbMismatch (k : Nat) (fell : Bool) (d : Nat) (e : Env) (b : Blk) : Blk :=
  let k := if k = 0 then 0 else 1
  let conf := if k = 0 then b.trip.confP else b.trip.confN
  if fell then
    if bkOn e b k then b else
    let b1 := b.put (if k = 0 then TRIP_BK_LAST_FB1 else TRIP_BK_LAST_FB2) (min 65535 d)
    if e.get TRIP_BK_TIME_FALL < d then raise e SRC_BK_FB_MISMATCH (k + 1) 0 0 b1 else setBk e k false b1
  else if bkOn e b k ∧ conf ∧ e.get TRIP_BK_TIME_ON_LOSS ≤ d then raise e SRC_BK_FB_MISMATCH (k + 1) 0 0 (setBk e k false b)
  else b

/-! ### Current inputs (R156 to R161) -/

/-- The conditions a fault of a current input brings in one cycle. -/
def inputConds (b : Blk) : List Cond := lanesCond b :: pathConds b

/-- R158: the shunt input: |SH_P − SH_N| in µV lasting `d` µs, or `still` µs without modulator transitions. -/
def shuntFault (uv : Int) (d still : Nat) (e : Env) (b : Blk) : Blk :=
  if ¬ ((510000 < iabs uv ∧ 1000 ≤ d) ∨ 10 ≤ still) ∨ b.get HVS_STA_SHUNT_OK = 0 then b else
  let rail := decide (510000 < iabs uv) && decide (1000 ≤ d)
  let b1 := lanesShow (pathFault e b (modHvs (fun h => { h with rail := rail }) (b.put HVS_STA_SHUNT_OK 0)))
  judgeAll e (⟨true, SRC_SHUNT_FAULT, 0, 0, 0, 0⟩ :: inputConds b1) b1

/-- R158, R156: a failed Hall input retires lane B and brings lane C in. -/
def hallFail (e : Env) (b : Blk) : Blk :=
  let was := retired b 1
  let b1 := lanesShow (pathFault e b (retireLane 1 (b.put HVS_STA_HALL_OK 0)))
  pathJoined e b (reserveRecord e 0 b (judgeWith e (⟨true, SRC_HALL_FAULT, 0, 0, 0, 0⟩ :: inputConds b1)
    (if was then [] else [{ src := SRC_LANE_RETIRED, code := 2 }]) b1))

/-- R158: the Hall input: supply current in mA, |HALL_SIG| in µV lasting `d` µs. -/
def hallFault (ma : Nat) (uv : Int) (d : Nat) (e : Env) (b : Blk) : Blk :=
  let b0 := b.put HVS_HALL_SUP_CURRENT ma
  if ¬ (ma < 5 ∨ 150 < ma ∨ (10200000 < iabs uv ∧ 1000 ≤ d)) ∨ b.get HVS_STA_HALL_OK = 0 then b0 else hallFail e b0

/-- R158: an input whose diagnosis no longer holds: 0 the shunt, otherwise Hall. Integration resumes at the next frame
(R257). -/
def inputRestored (k : Nat) (e : Env) (b : Blk) : Blk :=
  if k = 0 then
    (if b.get HVS_STA_SHUNT_OK = 1 then b else
     let b1 := lanesShow (compStep e (modHvs (fun h => { h with shuntOkAt := e.now, rail := false }) (b.put HVS_STA_SHUNT_OK 1)))
     judgeAll e [⟨false, SRC_SHUNT_FAULT, 0, 0, 0, 0⟩, lanesCond b1] b1)
  else if b.get HVS_STA_HALL_OK = 1 then b
  else
    let b1 := lanesShow (b.put HVS_STA_HALL_OK 1)
    judgeAll e [⟨false, SRC_HALL_FAULT, 0, 0, 0, 0⟩, lanesCond b1] b1

/-- R156: no path through the string: every contactor commanded open and reading open. -/
def openPath (b : Blk) : Bool :=
  [0, 1, 2].all (fun k => !commanded b k && !fbClosed b k) && b.phase == .run && b.mode != .connecting && b.mode != .connected

/-- R156: an averaging is due: the path has been open for 100 ms, and no earlier one in this state lies within 10 s. `held` is how
long the path had read open, in ms, when the 100 ms of averaging began. -/
def zeroDue (e : Env) (b : Blk) (held : Nat) : Bool :=
  openPath b && decide (100 ≤ held) &&
  (b.hvs.zeroAt.map (fun t => decide (t + sec 10 ≤ e.now) || decide (t + ms (held + 100) ≤ e.now))).getD true

/-- R156: the residuals in mA averaged over 100 ms on an open path. -/
def openPathZero (s h : Int) (held : Nat) (e : Env) (b : Blk) : Blk :=
  if ¬ zeroDue e b held then b else
  let sOk := decide (iabs s ≤ 200)
  let hOk := decide (iabs h ≤ 50000)
  let b0 := modHvs (fun x => { x with zeroAt := some e.now }) b
  let b1 := if sOk then modHvs (fun x => { x with zeroS := true }) (b0.putInt HVS_ZERO_SHUNT_OFS s) else b0
  let b2 := if hOk then modHvs (fun x => { x with zeroH := true }) (b1.putInt HVS_ZERO_HALL_OFS (divRound h 100)) else b1
  let b3 := b2.put HVS_STA_ZERO_VALID (boolBit (b2.hvs.zeroS && b2.hvs.zeroH))
  let b4 := judge e (!sOk) SRC_SHUNT_OFFSET 0 0 (dataWord s) 200 b3
  if hOk ∨ b.get HVS_STA_HALL_OK = 0 then b4 else hallFail e b4

/-- R161: the window of the shunt–Hall check in mA. -/
def xchkWindow (e : Env) (s : Int) : Int := max ((e.get HVS_XCHK_WIN_PCT : Int) * iabs s / 1000) (1000 * e.get HVS_XCHK_WIN_A)

/-- R161: whether the check runs. -/
def xchkRuns (b : Blk) : Bool := b.phase == .run && !isActive b SRC_SHUNT_FAULT && !isActive b SRC_HALL_FAULT

/-- R161: the means differ beyond the window for `d` µs. -/
def shuntHallMismatch (s h : Int) (d : Nat) (e : Env) (b : Blk) : Blk :=
  onlyIf (xchkRuns b && decide (xchkWindow e s < iabs (s - h)) && decide (1000 * e.get HVS_XCHK_WIN_TIME ≤ d))
    (beginExc e SRC_SHUNT_HALL_MISMATCH 0 0 (dataWord (s - h)) (dataWord (xchkWindow e s))) b

/-- R161: the difference has stayed within the window for `d` µs. -/
def shuntHallMatch (s h : Int) (d : Nat) (e : Env) (b : Blk) : Blk :=
  onlyIf (xchkRuns b && decide (iabs (s - h) ≤ xchkWindow e s) && decide (1000 * e.get HVS_XCHK_WIN_TIME ≤ d))
    (endExc e SRC_SHUNT_HALL_MISMATCH 0) b

/-- R162: the sum-of-cells check of a COMPLETE sweep: `sum` and `v` in 10 mV. -/
def sumCheck (e : Env) (checked : Bool) (sum v : Int) (b : Blk) : Blk × List Raise :=
  if ¬ checked then (b.put HVS_STA_SUM_CHECKED 0, []) else
  let bad := decide ((e.get HVS_SUM_TOL_PCT : Int) * iabs v + 10000 * e.get HVS_SUM_TOL_ABS < 10000 * iabs (sum - v))
  let n := if bad then b.hvs.sumRun + 1 else 0
  (modHvs (fun h => { h with sumRun := n }) (b.put HVS_STA_SUM_CHECKED 1),
    if n = 3 then [{ src := SRC_SUM_MISMATCH, d0 := dataWord sum, d1 := dataWord v }] else [])

/-! ### Insulation monitoring (R167 to R170) and NTCs -/

/-- R169: the end of a listen window, with the largest step of the system-to-PE voltage in V. A cycle begins if injection is
permitted. -/
def imdListenEnd (step : Nat) (e : Env) (b : Blk) : Blk :=
  if e.get HVS_IMD_CFG_ROLE = 0 ∨ b.phase ≠ .run then b else
  let seen := decide (20 < step)
  let may := imdMay e b
  let b1 := (b.put HVS_STA_IMD_FOREIGN (boolBit seen)).put HVS_STA_IMD_INJECTING (boolBit may)
  let b2 := modHvs (fun h => { h with imdBad := seen }) b1
  if seen ∧ may then raise e SRC_IMD_FOREIGN 0 0 0 b2 else b2

/-- R170: one result against a level: the counts below it and above its end. -/
def imdCount (r lvl : Nat) (low up : Nat) : Nat × Nat :=
  (if r < lvl then low + 1 else 0, if 125 * lvl ≤ 100 * r then up + 1 else 0)

/-- R167: a half-period in ms for a leakage capacitance in 10 nF: 950 ms, or five time constants of the internal 470 kΩ where they
are longer, up to 10 s. -/
def imdHalf (cap : Nat) : Nat := max 950 (min 10000 (235 * cap / 10))

/-- R167: the length of a cycle in 0.1 s: 100 ms of listening and two half-periods, each by its own estimate of the capacitance. -/
def imdPeriod (capp capm : Nat) : Nat := (100 + imdHalf capp + imdHalf capm + 50) / 100

/-- R167, R170: the end of a cycle. Voltages in mV and currents in nA before calibration (R154), the
capacitance in 10 nF as each half-period estimates it; the later estimate is the one shown (notes/assumptions/130.md). A cycle
whose conditions have ended is discarded. That a discarded or invalid cycle leaves the counts of consecutive results as they stand is a
DESIGN CHOICE (notes/assumptions/109.md), and that a result flagged BELOW is compared as the 10 kΩ it shows too
(notes/assumptions/158.md). -/
def imdCycle (vp vm ip im : Int) (capp capm : Nat) (e : Env) (b : Blk) : Blk :=
  if b.get HVS_STA_IMD_INJECTING = 0 then b else
  if ¬ imdMay e b then imdStop b else
  if b.hvs.imdBad then
    (((b.put HVS_IMD_RES_VALID 0).put HVS_STA_IMD_VALID 0).put HVS_STA_IMD_INJECTING 0).bump HVS_IMD_RES_CYCLES
  else
    let dv := calibrated b 10 vp - calibrated b 10 vm
    let di := calibrated b 11 ip - calibrated b 11 im
    let ohm := if di = 0 then Config.openResult 167 [dv] else divZero (dv * 1000000) di
    let k := ohm.toNat / 1000
    let below := decide (ohm < 10000)
    let above := decide (50000000 < ohm)
    let r := if below then 10 else if above then 50000 else k
    let (wl, wu) := imdCount r (e.get HVS_IMD_THR_WARN) b.hvs.imdW b.hvs.imdWUp
    let (fl, fu) := imdCount r (e.get HVS_IMD_THR_FAULT) b.hvs.imdF b.hvs.imdFUp
    let b1 := modHvs (fun h => { h with imdW := wl, imdWUp := wu, imdF := fl, imdFUp := fu }) b
    let b2 := ((((b1.put HVS_IMD_RES_R_ISO r).put HVS_IMD_RES_BELOW (boolBit below)).put HVS_IMD_RES_ABOVE (boolBit above)).put
      HVS_IMD_RES_VALID 1).put HVS_STA_IMD_VALID 1
    let b3 := (((b2.put HVS_IMD_DETAIL_PERIOD (imdPeriod capp capm)).put HVS_IMD_DETAIL_CAP capm).put HVS_STA_IMD_INJECTING 0).bump
      HVS_IMD_RES_CYCLES
    let held := fun src low up => (decide (2 ≤ low) || (inExc b src 0 && decide (up < 2)))
    judgeAll e [⟨held SRC_IMD_WARN wl wu, SRC_IMD_WARN, 0, 0, r, e.get HVS_IMD_THR_WARN⟩,
      ⟨held SRC_IMD_FAULT fl fu, SRC_IMD_FAULT, 0, 0, r, e.get HVS_IMD_THR_FAULT⟩] b3

/-- R154, R171: the busbar NTCs in 0.1 °C, before calibration; an open or short one keeps the last valid value for R155. -/
def ntcRead (a c : Int) (e : Env) (b : Blk) : Blk :=
  let a := calibrated b 8 a
  let c := calibrated b 9 c
  let ok := fun (t : Int) => decide (-400 ≤ t) && decide (t ≤ 1500)
  let b1 := ((modHvs (fun h => { h with ntcRead := true }) b).putInt HVS_NTC_NTC_A (if ok a then a else -32768)).putInt
    HVS_NTC_NTC_B (if ok c then c else -32768)
  let b2 := if ok a then modHvs (fun h => { h with ntcA := a }) b1 else b1
  judgeAll e [⟨!ok a, SRC_NTC_FAULT, 0, 0, 0, 0⟩, ⟨!ok c, SRC_NTC_FAULT, 1, 0, 0, 0⟩] b2

end Sys2Proof.Machine
end

