-- ==== Sys2Proof/Machine/Chain.lean ====
section
/-! DEFINITION. CHAIN: paths and slots of the line, instants and their announcement, sweeps, copies and retries, breaks and tones
(file 07, R191 to R200, R205 to R219, R229, R230). Enumeration, open-wire tests, authentication, spares and bursts stand in
Diag.lean, the close of a sweep in Frame.lean. -/

namespace Sys2Proof.Machine

def modChain (f : Chain → Chain) (b : Blk) : Blk := { b with chain := f b.chain }

def modCmu (p : Nat) (f : CmuRec → CmuRec) (b : Blk) : Blk := modChain (fun c => { c with cmus := modAt c.cmus p f }) b

def cmuAt (b : Blk) (p : Nat) : Option CmuRec := b.chain.cmus[p]?

/-- The ring of a position: 0 ring 1, 1 ring 2 (R191). -/
def ringOf (p : Nat) : Nat := if p < 18 ∨ p = 36 ∨ p = 37 then 0 else 1

/-- The registers of a ring's breaks. -/
def firstFld (ring : Nat) : Fld := if ring = 0 then CHAIN_BREAK_1_FIRST else CHAIN_BREAK_2_FIRST
def secondFld (ring : Nat) : Fld := if ring = 0 then CHAIN_BREAK_1_SECOND else CHAIN_BREAK_2_SECOND
def ringOkFld (ring : Nat) : Fld := if ring = 0 then CHAIN_STA_RING1_OK else CHAIN_STA_RING2_OK

/-- The located breaks of a ring: the physical index below each, 0xFE at the end A port (R198). -/
def breaksOf (b : Blk) (ring : Nat) : List Nat := [b.get (firstFld ring), b.get (secondFld ring)].filter (· != 255)

/-- Whether an end's path to a position is intact: no located break lies between them. -/
def reaches (b : Blk) (n p : Nat) : Bool :=
  n / 2 == ringOf p && match (cmuAt b p).bind CmuRec.index with
    | none => true
    | some i => (breaksOf b (n / 2)).all (fun k => if n % 2 = 0 then k != 0xFE && decide (i ≤ k) else k == 0xFE || decide (k < i))

/-- The latency of a position from an end, ns. -/
def hopFrom (b : Blk) (n p : Nat) : Nat := ((cmuAt b p).map (fun m => if n % 2 = 0 then m.hopA else m.hopB)).getD 0

/-- R212: the end with the shorter latency to a position among the mapped ends whose path is intact; where none is, those mapped. -/
def endFor (b : Blk) (p : Nat) : List Nat :=
  let ends := ringEnds b (ringOf p)
  let open_ := ends.filter (fun n => reaches b n p)
  match (if open_.isEmpty then ends else open_) with
  | [] => []
  | n :: l => [l.foldl (fun a k => if hopFrom b k p < hopFrom b a p then k else a) n]

/-- The sweeps in flight, shown for each ring. -/
def showFlight (b : Blk) : Blk :=
  let n := min 7 b.chain.flight.length
  (b.put CHAIN_SWEEP_STA_FLIGHT1 n).put CHAIN_SWEEP_STA_FLIGHT2 (if 18 < b.chain.count then n else 0)

/-! ### Instants (R206 to R210) -/

/-- R230: the aperture in µs and the equaliser preset of a band. -/
def bandAperture (n : Nat) : Nat × Nat := match n with
  | 0 => (8, 5)
  | 1 => (6, 4)
  | 2 => (4, 3)
  | 3 => (4, 2)
  | _ => (6, 1)

/-- The sweep gap of a warm boot, ms (R462), known at the first instant after it. -/
def gapShow (t : Nat) (b : Blk) : Blk := match b.chain.gapFrom with
  | some p => b.put KEEP_BOOT_INFO_LAST_GAP (min 65535 (((t + 2 ^ 32 - p) % 2 ^ 32) / 1000000))
  | none => b

/-- R33: the instant the next insertion counts from: the announced instants that follow `p` with no gap above 1 ms. -/
def absorb (ts : List Nat) (p : Nat) : Nat :=
  ts.foldl (fun p _ => ts.foldl (fun p t => if 0 < sdiff32 t p ∧ sdiff32 t p ≤ 1000000 then t else p) p) p

/-- A sweep is announced: SAMPLE_AT on every mapped end, with the aperture of the present band. -/
def announceAs (id t : Nat) (auto : Bool) (b : Blk) : Blk :=
  let band := b.get THERM_STA_BAND
  let split := b.get CHAIN_BREAK_1_FIRST != 255 || b.get CHAIN_BREAK_2_FIRST != 255
  let b1 := (b.put CHAIN_BAND band).put CHAIN_BAND_APERTURE (bandAperture band).1
  let b2 := modChain (fun c => { c with
    flight := c.flight ++ [⟨id, t, auto, false, [], split, false, none, [], [], [], [], none⟩]
    prevT := some (match c.prevT with
      | some p => if 0 < sdiff32 p t then p else t
      | none => t)
    base := some (match c.base with
      | some p => absorb (t :: c.flight.map Sweep.t) (if auto then t else p)
      | none => t)
    nextId := (id + 1) % 256
    gapFrom := none }) (gapShow t b1)
  showFlight (chainAll 0x01 (leBytes 1 id ++ leBytes 4 t ++ leBytes 1 band ++ leBytes 1 (boolBit auto)) b2)

/-- SAMPLE_AT with the next sweep ID. -/
def announce (t : Nat) (auto : Bool) (b : Blk) : Blk := announceAs b.chain.nextId t auto b

/-- R206, R208: the valid schedule entry with the smallest signed difference. -/
def schedNext (e : Env) (b : Blk) : Option (Nat × Nat) :=
  ((List.range 32).filter (fun n => bitOf (b.get CHAIN_SCHED_VALID) n)).foldl (fun (a : Option (Nat × Nat)) n =>
    let t := e.get (CHAIN_SCHED n)
    match a with
    | none => some (n, t)
    | some (m, u) => if sdiff32 t e.clk.ns1 < sdiff32 u e.clk.ns1 then some (n, t) else some (m, u)) none

/-- The next instant of the selected source. -/
def nextInstant (e : Env) (b : Blk) : Option Nat :=
  match e.get CHAIN_SWEEP_CTL_SRC with
  | 0 => match b.chain.base with
    | some p => some ((p + 1000000) % 2 ^ 32)
    | none => some ((e.clk.ns1 + 10000 * e.get CHAIN_SWEEP_CTL_LEAD) % 2 ^ 32)
  | 1 => b.chain.pred.head?
  | _ => (schedNext e b).map Prod.snd

/-- The instants that a host-dictated source still holds. -/
def knownInstants (e : Env) (b : Blk) : List Nat :=
  match e.get CHAIN_SWEEP_CTL_SRC with
  | 0 => []
  | 1 => b.chain.pred
  | _ => ((List.range 32).filter (fun n => bitOf (b.get CHAIN_SCHED_VALID) n)).map (fun n => e.get (CHAIN_SCHED n))

/-- An instant leaves its source. -/
def dropInstant (e : Env) (b : Blk) : Blk :=
  match e.get CHAIN_SWEEP_CTL_SRC with
  | 0 => modChain (fun c => { c with base := nextInstant e b }) b
  | 1 => modChain (fun c => { c with pred := c.pred.drop 1 }) b
  | _ => match schedNext e b with
    | some (n, _) => b.put CHAIN_SCHED_VALID (setBit (b.get CHAIN_SCHED_VALID) n false)
    | none => b

/-- Announcements are made: in service, after the first enumeration, and not by a STANDBY (R201, R210, R462). -/
def announces (b : Blk) : Bool := b.phase == .run && b.owner && b.get CHAIN_ENUM_STA_RESULT != 0 &&
  !(b.keep.act.any (fun a => a.stage == 2))

/-- R209: what happens to an instant now. -/
inductive Verdict where
  | skip | late | wait | go
deriving DecidableEq, Repr

def judgeInstant (e : Env) (b : Blk) (t : Nat) : Verdict :=
  let lead := sdiff32 t e.clk.ns1
  if lead < 50000 then .late
  else if (b.chain.prevT.map (fun p => decide (sdiff32 t p < 250000))).getD false then .skip
  else if (10000 * e.get CHAIN_SWEEP_CTL_LEAD : Nat) < lead ∨ 4 ≤ b.chain.flight.length then .wait
  else .go

/-- R209: an instant is skipped, with its count. -/
def skipLate (e : Env) (b : Blk) : Blk := raise e SRC_SWEEP_LATE 0 0 0 (b.bump CHAIN_SWEEP_CNT_LOW)
def skipNear (e : Env) (b : Blk) : Blk := raise e SRC_SWEEP_SKIP 0 0 0 (b.bump CHAIN_SWEEP_CNT_HIGH)

/-! ### Transactions of the shuttle and diagnostic classes (R39, R229, R288) -/

/-- The ns until the next SAMPLE_AT is due; none where none is known, or where only the bound on sweeps in flight holds it. -/
def announceIn (e : Env) (b : Blk) : Option Nat :=
  let due := fun (x : Int) => if 0 < x then some x.toNat else none
  let own := (nextInstant e b).bind (fun t => due (sdiff32 t e.clk.ns1 - (10000 * e.get CHAIN_SWEEP_CTL_LEAD : Nat)))
  let ins := b.chain.base.bind (fun p => if e.get CHAIN_SWEEP_CTL_SRC = 0 then none else due (950000 - sdiff32 e.clk.ns1 p))
  if ¬ announces b then none else
  match own, ins with
  | some x, some y => some (min x y)
  | some x, none => some x
  | none, y => y

/-- R229: the ns that the line stays free from now: until the next beacon, SAMPLE_AT or response window; 0 within the window of 70 µs
after an instant. -/
def gapNs (e : Env) (b : Blk) : Nat :=
  let ts := b.chain.flight.map (fun (s : Sweep) => sdiff32 s.t e.clk.ns1)
  let closed := (b.ledger.last.map (fun l => decide (e.now < l.at_ + us 70))).getD false
  if closed ∨ ts.any (fun x => decide (x ≤ 0) && decide (-70000 < x)) then 0 else
  let beacon := (b.chain.beaconAt.bind (fun t => if e.now < t + us 100 then some (5 * (t + us 100 - e.now)) else none)).toList
  ((ts.filter (fun x => decide (0 < x))).map Int.toNat ++ beacon ++ (announceIn e b).toList).foldl min 1000000000

/-- The time of a frame with `n` payload bytes on the line, ns (R194, R195). -/
def frameNs (n : Nat) : Nat := 32 * (8 + n)

/-- The payload of the response to a command of a type; none where no CMU answers it. A BURST_READ's is the longest frame. -/
def replyLen (type : Nat) : Option Nat := match type with
  | 0x05 => some 2
  | 0x06 => some 24
  | 0x0B => some 240
  | 0x10 => some 4
  | 0x11 => some 6
  | 0x12 => some 145
  | _ => none

/-- The time a transaction takes on its rings, in CORE periods: the frame, the longest path there and, with the response, back.
DESIGN CHOICE: a CMU's turnaround is left out of it (notes/assumptions/114.md). -/
def transTime (b : Blk) (r : ChainReq) : Nat :=
  let path := (b.chain.cmus.map (fun m => max m.hopA m.hopB)).foldl max 0
  let ns := match replyLen r.type with
    | some n => frameNs r.payload.length + 2 * path + frameNs n
    | none => frameNs r.payload.length + path
  (ns + 4) / 5

/-- The types that the transaction pause parts (R288). -/
def pausedType (t : Nat) : Bool := t == 0x10 || t == 0x12 || t == 0x0A || t == 0x0B

/-- The nonce of a number. -/
def nonceOf (n : Nat) : List Byte := (List.range 16).map (fun i => Config.nonceByte n i)

/-- Samples that one BURST_READ asks for: 16 cells of 2 bytes each in at most 240. DESIGN CHOICE (notes/assumptions/114.md). -/
def burstChunk : Nat := 7

/-- A transaction's frame leaves at a time: an AUTH with a fresh nonce and 4 ms for its answer (R224); a CONFIG brings its position the
latencies it awaited (R204). -/
def chainGo (at_ : Nat) (r : ChainReq) (b : Blk) : Blk :=
  if r.type = 0x06 then
    let n := b.free
    chainTx r.ends r.dest 0x06 (nonceOf n) (modCmu r.pos (fun m => { m with nonce := some (n, at_ + ms 4) }) { b with free := n + 1 })
  else chainTx r.ends r.dest r.type r.payload
    (if r.type = 0x07 then modChain (fun c => { c with echo := c.echo.filter (fun q => q.1 != r.pos) }) b else b)

/-- The read of a burst's next samples; none after the last of the 2,000 (R228). -/
def burstNext (r : ChainReq) : Option ChainReq :=
  let o := leVal (r.payload.take 2) + burstChunk
  if r.type = 0x0B ∧ o < 2000 then some { r with payload := leBytes 2 o ++ leBytes 1 (min burstChunk (2000 - o)), held := false } else none

/-- R288: when the pause after the last transaction of a paused type is over on every end of a transaction. -/
def pauseOver (b : Blk) (r : ChainReq) : Nat :=
  let pause := us (b.get THERM_STEPS_MOD_PAUSE)
  if pausedType r.type ∧ pause ≠ 0 then
    (r.ends.map (fun n => match b.chain.pausedAt[n]? with
      | some (t + 1) => t + 1 + pause
      | _ => 0)).foldl max 0
  else 0

/-- What one waiting transaction does in the idle time from now. It is held behind an earlier one on its rings that waits for the line, and
a type that pauses part behind one of its class that a pause holds (R289); else it starts as soon as its rings are free, if it ends in
time and no pause moves it. The list is what stays waiting. -/
def pumpOne (e : Env) (gap : Nat) (a : Blk × List ChainReq) (r : ChainReq) : Blk × List ChainReq :=
  let (b, kept) := a
  let blocked := kept.any (fun h => h.rings.any r.rings.contains && (!h.held || (h.shuttle == r.shuttle && pausedType r.type)))
  if blocked then (b, kept ++ [r]) else
  let start := (r.rings.map (fun k => (b.chain.freeAt[k]?).getD 0)).foldl max e.now
  let stop := start + transTime b r
  if start < pauseOver b r then
    (if r.held then b else b.bump THERM_PAUSE_STA_CHAIN_DELAYED, kept ++ [{ r with held := true }])
  else if 5 * (stop - e.now) ≤ gap then
    let b1 := modChain (fun c => { c with
      freeAt := r.rings.foldl (fun l k => setAt l k stop) c.freeAt
      pausedAt := if pausedType r.type then r.ends.foldl (fun l n => setAt l n stop) c.pausedAt else c.pausedAt }) (chainGo start r b)
    (b1, kept ++ (burstNext r).toList)
  else (b, kept ++ [{ r with held := false }])

/-- R230: an end takes the equaliser preset of the present band in an idle gap of at least 1 µs. -/
def presetStep (e : Env) (b : Blk) : Blk :=
  let pre := (bandAperture (b.get THERM_STA_BAND)).2
  let busy := b.chain.freeAt.any (fun t => decide (e.now < t))
  if b.get CHAIN_BAND_PRESET ≠ pre ∧ ¬ busy ∧ 1000 ≤ gapNs e b then b.put CHAIN_BAND_PRESET pre else b

/-- R39, R229: the waiting transactions that fit into the idle time from now leave, shuttle before diagnostics, in MAINTENANCE
diagnostics before shuttle. -/
def chainPump (e : Env) (b : Blk) : Blk :=
  if ¬ b.running then b else
  let b0 := presetStep e b
  let ws := b0.chain.wait
  if ws.isEmpty then b0 else
  let first := b0.mode != .maintenance
  let (b1, kept) := (ws.filter (fun r => r.shuttle == first) ++ ws.filter (fun r => r.shuttle != first)).foldl (pumpOne e (gapNs e b0))
    (modChain (fun c => { c with wait := [] }) b0, [])
  modChain (fun c => { c with wait := kept }) b1

/-- Transactions are asked for. -/
def chainAsk (e : Env) (rs : List ChainReq) (b : Blk) : Blk :=
  chainPump e (modChain (fun c => { c with wait := c.wait ++ rs.filter (fun r => !r.ends.isEmpty) }) b)

/-- A transaction with one position. -/
def reqTo (b : Blk) (shuttle : Bool) (p type : Nat) (payload : List Byte) : ChainReq :=
  ⟨shuttle, [ringOf p], endFor b p, p, type, payload, p, false⟩

/-- A broadcast of the diagnostic class on every mapped end. -/
def reqAll (b : Blk) (type : Nat) (payload : List Byte) : ChainReq :=
  ⟨false, [0, 1], mappedEnds b, 0xFF, type, payload, 0, false⟩

/-- A diagnostic transaction that has its own time leaves now, before those that wait in its class, or not at all: whether it left. -/
def chainNow (e : Env) (r : ChainReq) (b : Blk) : Bool × Blk :=
  let first := b.chain.wait.any (fun h => h.shuttle && !h.held) && b.mode != .maintenance
  if ¬ b.running ∨ first ∨ r.ends = [] ∨ b.get CLK_STA_PLLN_LOCK = 0 then (false, b) else
  let (b1, kept) := pumpOne e (gapNs e b) (b, []) r
  (kept.isEmpty, b1)

/-- The announcement of the selected source's next instant (R206 to R209). -/
def announceNext (e : Env) (b : Blk) : Blk :=
  if ¬ announces b then b else
  match nextInstant e b with
  | none => b
  | some t => match judgeInstant e b t with
    | .skip => skipNear e (dropInstant e b)
    | .late => skipLate e (dropInstant e b)
    | .wait => b
    | .go => announce t false (dropInstant e b)

/-- R33, R209: the instant inserted where none is due by 1 ms after the previous one, announced 950 µs after it. DESIGN CHOICE: with SRC 1
or 2 nothing is inserted before the host's first instant, which has no previous one to count from (notes/assumptions/90.md). -/
def insertInstant (e : Env) (b : Blk) : Blk :=
  match b.chain.base with
  | none => b
  | some p =>
    let t := (p + 1000000) % 2 ^ 32
    let due := (knownInstants e b).any (fun u => decide (0 < sdiff32 u p ∧ sdiff32 u p ≤ 1000000))
    if ¬ announces b ∨ due ∨ sdiff32 e.clk.ns1 p < 950000 then b
    else if sdiff32 t e.clk.ns1 < 50000 then skipLate e (modChain (fun c => { c with base := some t }) b)
    else if 4 ≤ b.chain.flight.length then b
    else announce t (e.get CHAIN_SWEEP_CTL_SRC != 0) b

/-- R207: a rising SYNC edge. -/
def syncEdge (e : Env) (b : Blk) : Blk :=
  let t := e.clk.ns1
  let gaps := match b.chain.edgeT with
    | some p => (((t + 2 ^ 32 - p) % 2 ^ 32) :: b.chain.gaps).take 16
    | none => []
  let sum := gaps.sum
  let p := if gaps.length = 0 then 0 else sum / gaps.length
  let near := gaps.length == 16 && gaps.all (fun g => decide (99 * p ≤ 100 * g) && decide (100 * g ≤ 101 * p))
  let locked := (b.get CHAIN_STA_SYNC_LOCKED == 1 && !gaps.isEmpty) || near
  let n := b.chain.edgeNo + 1
  let tx := ((t : Int) + (e.get CHAIN_SYNC_CFG_K * p : Nat) + e.int CHAIN_SYNC_OFFSET_OFFSET) % 2 ^ 32
  let b1 := modChain (fun c => { c with
    edgeT := some t
    edgeAt := e.now
    gaps := gaps
    edgeNo := n
    pred := if locked && e.get CHAIN_SWEEP_CTL_SRC == 1 && n % e.get CHAIN_SYNC_CFG_DIV == 0
      then c.pred ++ [tx.toNat] else c.pred }) b
  let b2 := ((b1.put CHAIN_SYNC_PERIOD_VALUE p).put CHAIN_SYNC_LAST_VALUE t).put CHAIN_STA_SYNC_LOCKED (boolBit locked)
  if locked then endExc e SRC_SYNC_LOSS 0 b2 else b2

/-- R207: the deadline of the next edge: 2 × P after the last. -/
def syncTimer (b : Blk) : Option Nat :=
  if b.chain.edgeT.isSome ∧ 0 < b.get CHAIN_SYNC_PERIOD_VALUE then some (b.chain.edgeAt + 2 * b.get CHAIN_SYNC_PERIOD_VALUE / 5)
  else none

def syncLoss (e : Env) (b : Blk) : Blk :=
  let b1 := modChain (fun c => { c with edgeT := none, gaps := [], pred := [] }) (b.put CHAIN_STA_SYNC_LOCKED 0)
  if e.get CHAIN_SWEEP_CTL_SRC = 1 then beginExc e SRC_SYNC_LOSS 0 0 0 0 b1 else b1

/-! ### Copies (R195, R212, R214) -/

def s8 (n : Nat) : Int := if n % 256 < 128 then (n % 256 : Nat) else (n % 256 : Nat) - 256
def s16 (n : Nat) : Int := if n % 65536 < 32768 then (n % 65536 : Nat) else (n % 65536 : Nat) - 65536

/-- A chain frame with a correct CRC: source or destination, type, SEQ and payload of at most 240 bytes. -/
def chainParse (f : List Byte) : Option (Nat × Nat × Nat × List Byte) :=
  let n := (f[3]?.map BitVec.toNat).getD 0
  if n ≤ 240 ∧ f.length = 6 + n ∧ crc16 0xFFFF (f.take (4 + n)) = beVal (f.drop (4 + n)) then
    some ((f[0]?.map BitVec.toNat).getD 0, (f[1]?.map BitVec.toNat).getD 0, (f[2]?.map BitVec.toNat).getD 0, slice f 4 n)
  else none

/-- A SWEEP_DATA response: position, sweep ID and values (R196). -/
def sweepParse (isup : Option (Nat × Int)) (f : List Byte) : Option (Nat × Nat × SwData) :=
  match chainParse f with
  | none => none
  | some (src, ty, _, p) =>
    if ty = 0x83 ∧ p.length = 43 then
      some (src, leVal (slice p 0 1),
        { err := s8 (leVal (slice p 1 1)), status := leVal (slice p 2 2)
          v := (List.range 16).map (fun j => leVal (slice p (4 + 2 * j) 2))
          vsup := leVal (slice p 36 2), pair := leVal (slice p 38 1)
          t0 := s16 (leVal (slice p 39 2)), t1 := s16 (leVal (slice p 41 2)), isup := isup })
    else none

/-- Whether a sweep holds a good copy of a position. -/
def Sweep.has (s : Sweep) (p : Nat) : Bool := s.good.any (fun g => g.1 == p)

/-- R221: an open-wire slot over the sweep's instant names the position: its copies give no values. -/
def Sweep.owTakes (s : Sweep) (p : Nat) : Bool := s.ow && s.owPos.contains p

/-- Change the sweep with an ID. -/
def modSweep (id : Nat) (f : Sweep → Sweep) (b : Blk) : Blk :=
  modChain (fun c => { c with flight := c.flight.map (fun (s : Sweep) => if s.id = id then f s else s) }) b

/-- The receive buffer of a ring end, bytes (R42): the copies of a sweep in flight stand in it until the close. -/
def chainBuffer : Nat := 8192

/-- Room in it for one more SWEEP_DATA frame of 51 symbols. -/
def chainRoom (b : Blk) : Bool := decide (51 * ((b.chain.flight.map (fun (s : Sweep) => s.good.length)).sum + 1) ≤ chainBuffer)

/-- R212: the bad copies of an end are counted. -/
def countBad (endB : Bool) (p : Nat) (b : Blk) : Blk :=
  modCmu p (fun m => if endB then { m with crcB := min 255 (m.crcB + 1) } else { m with crcA := min 255 (m.crcA + 1) }) b

/-- The ns from a READ_SWEEP at an end to the end of its response there. -/
def retryNs (b : Blk) (p : Nat) : Nat := frameNs 1 + 2 * ((endFor b p).map (fun n => hopFrom b n p)).sum + frameNs 43

/-- R212: a bad copy where no good one is held begins a retry sequence or continues it: READ_SWEEP goes out from the end with the
shorter latency, at most three times, and only where its response can arrive within 20 µs of the first bad copy. -/
def badCopy (e : Env) (endB : Bool) (p : Nat) (b0 : Blk) : Blk :=
  let b := countBad endB p b0
  match b.chain.flight.find? (fun s => s.lat.isSome && !s.has p) with
  | none => b
  | some s =>
    let old := s.retries.find? (fun r => r.pos == p)
    let at_ := (old.map Retry.at_).getD e.now
    let n := (old.map Retry.n).getD 0
    if (old.map Retry.done).getD false ∨ 3 ≤ n ∨ 20000 < 5 * (e.now - at_) + retryNs b p then
      modSweep s.id (fun s => { s with
        retries := s.retries.map (fun (r : Retry) => if r.pos = p then { r with n := 4 } else r) }) b
    else
      let b2 := modSweep s.id (fun s => { s with
        retried := true
        retries := s.retries.filter (fun r => r.pos != p) ++ [⟨p, at_, n + 1, false⟩] }) b
      chainTx (endFor b p) p 0x03 (leBytes 1 s.id) (modCmu p (fun m => { m with retries := min 255 (m.retries + 1) })
        (b2.bump CHAIN_RETRY_CNT_LOW))

/-- R205: the reported timing error, and ALIGN_FAULT at the third consecutive one beyond ±100 ns. -/
def alignStep (e : Env) (p : Nat) (err : Int) (b : Blk) : Blk :=
  let out := decide (100 < err.natAbs)
  let b1 := modCmu p (fun m => { m with
    errNow := err, errMax := max m.errMax err.natAbs, errRun := if out then m.errRun + 1 else 0 }) b
  let n := ((cmuAt b1 p).map CmuRec.errRun).getD 0
  judge e (decide (3 ≤ n)) SRC_ALIGN_FAULT p p 0 0
    (b1.put CHAIN_STA_ALIGNED (boolBit (b1.chain.cmus.all (fun m => m.errNow.natAbs ≤ 100))))

/-- The instant T of a sweep on the module's own count of time, from which ages run (R215, R232). -/
def instantAt (e : Env) (s : Sweep) : Nat := e.now - (sdiff32 e.clk.ns1 s.t).toNat / 5

/-- R228: whether a burst of the position samples within one aperture of the instant, so that both share one value. -/
def burstShares (b : Blk) (p t : Nat) : Bool := match b.chain.burst with
  | none => false
  | some u =>
    let x := sdiff32 t u.startT
    let d := x.toNat % 50000
    u.poss.contains p && decide (0 ≤ x) && decide (x < 100000000) &&
      decide (min d (50000 - d) ≤ 1000 * b.get CHAIN_BAND_APERTURE)

/-- One cell with a value of a sweep, unless it already has a later one (R34 step 3, R232). -/
def cellFill (s : Sweep) (now v : Nat) (via shared : Bool) (temp : Int) (c : CellRec) : CellRec :=
  if c.has ∧ now < c.at_ then c else
  { c with has := true, v := v, sweep := s.id, t := s.t, at_ := now, fresh := true, via := via, burst := shared, temp := temp
           vmin := min c.vmin v, vmax := max c.vmax v }

/-- A CMU's record with the data of its copy. -/
def cmuFill (now at_ : Nat) (d : SwData) (m : CmuRec) : CmuRec :=
  let sum : Int := (d.v.sum : Nat)
  { m with
    vsup := d.vsup
    sumDiff := divRound (sum - 100 * d.vsup) 100
    ntc := setAt (setAt m.ntc (2 * d.pair) d.t0) (2 * d.pair + 1) d.t1
    ntcAt := setAt (setAt m.ntcAt (2 * d.pair) (some at_)) (2 * d.pair + 1) (some at_)
    isup := (d.isup.map Prod.fst).getD m.isup
    die := (d.isup.map Prod.snd).getD m.die
    isupAt := if d.isup.isSome then now else m.isupAt }

/-- R34 step 3: a copy of a position fills its CMU's record and its cells; the sweep holds the supply's charge for the frame. -/
def fillCopy (e : Env) (s : Sweep) (p : Nat) (d : SwData) (via : Bool) (b : Blk) : Blk :=
  match cmuAt b p with
  | none => b
  | some m => match m.serves with
    | none => modCmu p (cmuFill e.now (instantAt e s) d) b
    | some g =>
      let m1 := cmuFill e.now (instantAt e s) d m
      let debit := (d.isup.map (fun i => (g, i.1, if m.isupAt = 0 then 0 else e.now - m.isupAt))).toList
      modSweep s.id (fun s => { s with debits := s.debits ++ debit }) (modChain (fun c => { c with
        cmus := setAt c.cmus p m1
        cells := mapIdx (fun n (x : CellRec) => if n / 16 = g then
          cellFill s (instantAt e s) ((d.v[n % 16]?).getD 0) via (burstShares b p s.t) ((m1.ntc[n % 16 / 2]?).getD 0) x
          else x) 0 c.cells }) b)

/-- R212, R234: a SWEEP_DATA copy arrives at an end from the position whose slot it is; `isup` the CMU's supply current and internal
temperature where a new value came with it. The first good copy fills the cell table; one of another source, or of a sweep that is not
open, is not accepted, but is not bad either. -/
def sweepData (endB : Bool) (p : Nat) (isup : Option (Nat × Int)) (f : List Byte) (e : Env) (b : Blk) : Blk :=
  if ¬ b.running then b else
  match sweepParse isup f with
  | none => badCopy e endB p b
  | some (src, id, d) =>
    if src ≠ p then b else
    if ¬ chainRoom b then badCopy e endB p b else
    match b.chain.flight.find? (fun s => s.id == id && s.lat.isSome) with
    | none => b
    | some s =>
      if s.has p then b else
      let b1 := modSweep id (fun s => { s with
        good := s.good ++ [(p, d)], retries := s.retries.filter (fun r => r.pos != p) }) b
      let b2 := alignStep e p d.err (if s.owTakes p then b1 else fillCopy e s p d false b1)
      judge e (Config.cmuSelfTestFails d.status) SRC_CMU_FAULT (1000 + p) p 0 0 b2

/-- R212: a copy that did not arrive in time at an end whose path is intact is bad. -/
def copyOverdue (endB : Bool) (p : Nat) (e : Env) (b : Blk) : Blk :=
  let n := 2 * ringOf p + boolBit endB
  onlyIf (b.running && (ringEnds b (ringOf p)).contains n && reaches b n p) (badCopy e endB p) b

/-- R212: a retry sequence ends without a good copy. -/
def retryExhausted (p : Nat) (e : Env) (b : Blk) : Blk :=
  match b.chain.flight.find? (fun s => s.retries.any (fun r => r.pos == p && !r.done && (decide (4 ≤ r.n) || decide (r.at_ + us 20 ≤ e.now)))) with
  | none => b
  | some s =>
    raise e SRC_RETRY_EXHAUSTED p 0 0 ((modSweep s.id (fun s => { s with
      retries := s.retries.map (fun (r : Retry) => if r.pos = p then { r with done := true } else r) }) b).bump CHAIN_RETRY_CNT_HIGH)

/-- R214: a frame of the partner's RAW is held for the close. -/
def rawHold (f : List Byte) (b : Blk) : Blk :=
  match sweepParse none f with
  | none => b
  | some (p, id, d) => modSweep id (fun s =>
      if s.raw.any (fun g => g.1 == p) then s else { s with raw := s.raw ++ [(p, d)] }) b

/-! ### Ports, breaks and tones (R198, R199, R217, R219) -/

/-- The end a physical port serves: 0 1A, 1 1B, 2 2A, 3 2B. -/
def endOfPort (b : Blk) (port : Nat) : Option Nat := (List.range 4).find? (fun n => b.chain.map[n]? == some port && port != 0)

def silentFld (n : Nat) : Fld := match n with
  | 0 => CHAIN_BREAK_1_END_A_SILENT
  | 1 => CHAIN_BREAK_1_END_B_SILENT
  | 2 => CHAIN_BREAK_2_END_A_SILENT
  | _ => CHAIN_BREAK_2_END_B_SILENT
/-- R198: a ring end port without a valid symbol for 10 µs; that of a mapped end raises PORT_SILENT, outside a warm boot (R231). -/
def portSilent (port : Nat) (e : Env) (b : Blk) : Blk :=
  let b1 := modChain (fun c => { c with silent := insSet c.silent port }) b
  match endOfPort b port with
  | none => b1
  | some n => let b2 := b1.put (silentFld n) 1; if b.running then beginExc e SRC_PORT_SILENT port 0 0 0 b2 else b2

def portRestored (port : Nat) (e : Env) (b : Blk) : Blk :=
  let b1 := modChain (fun c => { c with silent := c.silent.filter (· != port) }) b
  match endOfPort b port with
  | none => b1
  | some n => endExc e SRC_PORT_SILENT port (b1.put (silentFld n) 0)

/-- R198: the ends whose ports are silent, under the present map. -/
def silenceShow (b : Blk) : Blk :=
  (List.range 4).foldl (fun x n => x.put (silentFld n) (boolBit (((b.chain.map[n]?).map (fun p => b.chain.silent.contains p)).getD false))) b

/-- The conditions of the chain's ports: silent where they are mapped. -/
def silenceConds (b : Blk) : List Cond :=
  [1, 2, 3, 4].map (fun p => ⟨b.chain.silent.contains p && b.chain.map.contains p, SRC_PORT_SILENT, p, 0, 0, 0⟩)

/-- R231: what the ports and breaks show once a warm boot is over. -/
def breakConds (b : Blk) : List Cond :=
  silenceConds b ++ [0, 1].flatMap (fun ring => (breaksOf b ring).map (fun k => ⟨true, SRC_RING_BREAK, 256 * ring + k, 0, 0, 0⟩))

/-- CMUs that the configured count gives a ring (R191). -/
def ringCount (count ring : Nat) : Nat := if ring = 0 then min 18 count else count - 18

/-- CMUs of a ring: those found, at least the configured ones. -/
def ringLen (b : Blk) (ring : Nat) : Nat :=
  max (ringCount b.chain.count ring) (b.get (if ring = 0 then CHAIN_ENUM_STA_FOUND1 else CHAIN_ENUM_STA_FOUND2))

/-- The physical index below the hop that a CMU's silent input tells of (R198). -/
def belowOf (idx : Nat) (sideA : Bool) : Nat := if sideA then (if idx = 0 then 0xFE else idx - 1) else idx

/-- R198: whether the break may be seen from the ring's other end too: the hop lies between two CMUs, and the module has both ends of
the ring, neither silent nor behind a break already located. -/
def seenTwice (b : Blk) (ring below : Nat) : Bool :=
  below != 0xFE && decide (below + 1 < ringLen b ring) && (ringEnds b ring).length == 2 && (breaksOf b ring).isEmpty &&
    b.get (silentFld (2 * ring)) == 0 && b.get (silentFld (2 * ring + 1)) == 0

/-- R198: a break is located, and raised outside a warm boot (R231). -/
def locateBreak (e : Env) (ring below : Nat) (b : Blk) : Blk :=
  if (breaksOf b ring).contains below then b else
  let b1 := if b.get (firstFld ring) = 255 then b.put (firstFld ring) below
    else if b.get (secondFld ring) = 255 then b.put (secondFld ring) below else b
  if b.running then beginExc e SRC_RING_BREAK (256 * ring + below) 0 0 0 b1 else b1

/-- R198: a break notice of the CMU with a physical index whose input on side A (or B) is silent. Breaks are located once notices have
come from both ends, each end telling of the break next to it; where no notice can come from the other end, from this one alone. -/
def breakNotice (ring idx : Nat) (sideA : Bool) (e : Env) (b : Blk) : Blk :=
  if 1 < ring ∨ 20 ≤ idx then b else
  let below := belowOf idx sideA
  let b0 := modChain (fun c => { c with
    noticeAt := c.noticeAt.filter (fun p => p.1 != ring) ++ [(ring, e.now)]
    flight := c.flight.map (fun (s : Sweep) => { s with split := true }) }) (b.put (ringOkFld ring) 0)
  let far := b.chain.notices.filter (fun n => n.1 == ring && n.2.2 != sideA)
  if (breaksOf b ring).contains below then b0
  else if seenTwice b ring below ∧ far.isEmpty then
    modChain (fun c => { c with notices := c.notices.filter (fun n => n.1 != ring || n.2.2 != sideA) ++ [(ring, idx, sideA)] }) b0
  else
    far.foldl (fun x n => locateBreak e ring (belowOf n.2.1 n.2.2) x) (locateBreak e ring below
      (modChain (fun c => { c with notices := c.notices.filter (fun n => n.1 != ring) }) b0))

/-- The cells of a group with their records. -/
def groupCells (b : Blk) (g : Nat) : List (Nat × CellRec) :=
  (List.range 16).filterMap (fun j => (b.chain.cells[16 * g + j]?).map (fun c => (16 * g + j, c)))

/-- R219: what a tone of one kind raises at once: the source of the lowest cell beyond the tone limit, FAULT_TONE with no cell
within 100 mV of it, else nothing. -/
def toneKind (e : Env) (ov : Bool) (p : Nat) (cs : List (Nat × CellRec)) : List Cond :=
  let lim := e.get (if ov then CHAIN_TONE_LIM_OV else CHAIN_TONE_LIM_UV)
  let out := fun (c : CellRec) => if ov then decide (lim < c.v) else decide (c.v < lim)
  let near := fun (c : CellRec) => if ov then decide (lim ≤ c.v + 1000) else decide (c.v ≤ lim + 1000)
  match cs.find? (fun c => out c.2) with
  | some (n, c) => [⟨true, if ov then SRC_CELL_OV else SRC_CELL_UV, n, n, c.v, lim⟩]
  | none => if cs.any (fun c => near c.2) then [] else [⟨true, SRC_FAULT_TONE, p, p, 0, 0⟩]

/-- R215, R219: the rows a tone of a position meets. DESIGN CHOICE: cells that are not stale but not all fresh either are judged like fresh
ones (notes/assumptions/154.md). -/
def toneConds (e : Env) (p flags : Nat) (cs : List (Nat × CellRec)) : List Cond :=
  (if bitOf flags 2 then [⟨true, SRC_CMU_FAULT, p, p, 0, 0⟩] else []) ++
  (if cs.any (fun c => c.2.stale) then [⟨true, SRC_STALE_TONE, p, p, 0, 0⟩]
   else
     let ov := if bitOf flags 0 then toneKind e true p cs else []
     ov ++ (if bitOf flags 1 then (toneKind e false p cs).filter (fun c => !ov.contains c) else []))

/-- The tone's excursion of a position ends (R340). -/
def toneEnd (p : Nat) (e : Env) (b : Blk) : Blk :=
  [SRC_CMU_FAULT, SRC_STALE_TONE, SRC_FAULT_TONE].foldl (fun x s => endExc e s p x) b

/-- R199, R219: a fault tone of a position: flags [0] overvoltage, [1] undervoltage, [2] internal fault. Repeated tones are one
excursion while they follow within 20 µs (R340): each is judged, and each source raised once in it. A source of R280 raised so
halts the shuttle. -/
def toneReceived (p flags : Nat) (e : Env) (b : Blk) : Blk :=
  match cmuAt b p with
  | none => b
  | some m =>
    let again := decide (e.now ≤ m.toneAt + us 20) && m.toneFlags == flags % 8 && m.tones != 0
    let b1 := modCmu p (fun m => { m with tones := min 255 (m.tones + 1), toneFlags := flags % 8, toneAt := e.now }) b
    let b2 := if again then b1 else toneEnd p e b1
    let cs := toneConds e p flags ((m.serves.map (groupCells b)).getD [])
    let told := modChain (fun c => { c with
      faulty := if bitOf flags 2 then insSet (if isActive b2 SRC_CMU_FAULT then c.faulty else []) p else c.faulty }) b2
    let b3 := judgeAll e cs told
    if cs.any (fun c => c.src != SRC_CMU_FAULT && !inExc b2 c.src c.obj) then shuttleHalt b3 else b3

end Sys2Proof.Machine
end

