-- ==== Sys2Proof/Machine/Diag.lean ====
section
/-! DEFINITION. CHAIN's own diagnosis: enumeration, latencies, open-wire tests, authentication, ring repair, spares and bursts (file 07,
R201 to R205, R217, R220 to R228; file 08, R241 to R243). -/

namespace Sys2Proof.Machine

/-! ### Reserves (R43) -/

/-- R43: every unit of a reserve that is brought in is recorded: `n` of them with the reserve's bit. -/
def reserveUnits (e : Env) (bit n : Nat) (b : Blk) : Blk :=
  raiseAll e (List.replicate n { src := SRC_RESERVE_IN, code := bit }) b

/-- The bits of `v` that `u` lacks. -/
def newBits (u v w : Nat) : Nat := ((List.range w).filter (fun k => bitOf v k && !bitOf u k)).length

/-! ### Enumeration (R201 to R204) -/

/-- R203, R227: the position of a CMU found at an index of a ring: its own, its spare where that is retired, or beyond the count an idle
spare that serves no retired position. -/
def posOfIndex (count : Nat) (retire : List (Nat × Nat)) (ring i : Nat) : Option (Nat × Option Nat × Nat) :=
  let n := ringCount count ring
  if i < n then
    let p := 18 * ring + i
    match retire.find? (fun r => r.1 == p) with
    | some r => some (r.2, some p, 1)
    | none => some (p, some p, 1)
  else
    (([36 + 2 * ring, 37 + 2 * ring].filter (fun k => !(retire.any (fun r => r.2 == k))))[i - n]?).map (fun k => (k, none, 6))

/-- R225: the state of a CMU that has been found: FOREIGN and SWAPPED positions stay so until a later authentication passes, and one
that has passed since its challenge (`passed`) is authenticated. -/
def foundState (passed : Bool) (st : Nat) (m : CmuRec) : Nat :=
  if m.auth = 2 then 3
  else if st = 6 then 6
  else if m.auth = 3 ∧ m.conf ≠ some m.serial then 4
  else if passed ∧ m.auth = 1 then 2
  else st

/-- One CMU found: (ring, index, latency from A, latency from B, home end). -/
def placeCmu (count : Nat) (retire : List (Nat × Nat)) (passed : Nat → Bool) (f : Nat × Nat × Nat × Nat × Nat) (b : Blk) : Blk :=
  match posOfIndex count retire f.1 f.2.1 with
  | none => b
  | some (p, serves, st) => modCmu p (fun m => { m with
      index := some f.2.1, serves := serves, state := foundState (passed p) st m
      hopA := f.2.2.1, hopB := f.2.2.2.1, home := f.2.2.2.2 }) b

/-- R192: which ends are mapped to a port that is not their own, of 1A, 1B, 2A, 2B. -/
def remapped (m : List Nat) : Nat :=
  (mapIdx (fun n p => if p = 0 ∨ p = n + 1 then 0 else 2 ^ n) 0 m).sum

/-- The ends of the ring map that a module of a pair does not have (R25): X has 1A and 2B, Y has 1B and 2A. The block is shared
(R415), so each module sees and writes its own ends only. -/
def foreignEnd (b : Blk) (f : Fld) : Bool :=
  b.twin && f.addr == 0x604C &&
    (if b.get SYS_STRAPS_TWIN_ID = 0 then f.lo == 4 || f.lo == 8 else f.lo == 0 || f.lo == 12)

/-- The ring end ports in use, of 1A, 1B, 2A, 2B. -/
def ringMap (e : Env) (b : Blk) : List Nat :=
  [CHAIN_PORT_MAP_END_1A, CHAIN_PORT_MAP_END_1B, CHAIN_PORT_MAP_END_2A, CHAIN_PORT_MAP_END_2B].map
    (fun f => if foreignEnd b f then 0 else e.get f)

/-- R201, R203: per ring in use ENUM from end A and the check from end B, then ECHO from both ends to every index the ring is to have,
which also finds the CMUs beyond a break from end B. DESIGN CHOICE: the check carries index 0 (notes/assumptions/115.md). -/
def enumFrames (e : Env) (b : Blk) : List ChainReq :=
  let map := ringMap e b
  let count := e.get CHAIN_CMU_COUNT_COUNT
  let ends := fun (r : Nat) => [2 * r, 2 * r + 1].filter (fun n => (map[n]?).getD 0 != 0)
  let rings := if count ≤ 18 then [0] else [0, 1]
  rings.flatMap (fun r => (ends r).map (fun n => ⟨false, [r], [n], 0xFF, 0x04, leBytes 1 0, 0, false⟩)) ++
  rings.flatMap (fun r => (List.range (ringCount count r)).flatMap (fun i => (ends r).map (fun n =>
    ⟨false, [r], [n], 0x80 + i, 0x05, [], 18 * r + i, false⟩)))

/-- An enumeration starts; the first one takes the count and the map at once (R192, R201). The chirp of every mapped end is checked. -/
def enumStart (e : Env) (b : Blk) : Blk :=
  let first := b.get CHAIN_ENUM_STA_RESULT == 0
  let b1 := modChain (fun c => { c with
    enum := some ⟨e.now, none⟩
    count := if first then e.get CHAIN_CMU_COUNT_COUNT else c.count
    map := if first then ringMap e b else c.map }) ((b.put CHAIN_STA_ENUM_RUNNING 1).put CHAIN_ENUM_CMD_ENUMERATE 1)
  judgeAll e (silenceConds b1) (silenceShow (chainAsk e (enumFrames e b) b1))

/-- R202: a commanded enumeration; none starts in the hold after a takeover by path loss (R421). -/
def enumerate (e : Env) (b : Blk) : Blk := hostCmd (fun b =>
  if b.mode = .connecting ∨ b.mode = .connected ∨ b.holdup ∨ b.get TWIN_STA_TAKEOVER_HOLD = 1 then finish .denied b
  else if b.chain.enum.isSome then finish .ok b
  else finish .ok (enumStart e b)) b

/-- The latency in ns of an ECHO (R204): round trip and turnaround in 0.1 ns, in steps of 3.2 ns. -/
def echoLatency (rt turn : Nat) : Nat := (rt - turn) / 2 / 32 * 32 / 10

/-- R204: whether latencies lie more than 10 ns from those that a position's CMU has; a CMU that is new has none. -/
def latMoved (m : CmuRec) (x y : Nat) : Bool :=
  decide (m.hopA + 10 < x) || decide (x + 10 < m.hopA) || decide (m.hopB + 10 < y) || decide (y + 10 < m.hopB)

/-- R204: the latencies of a position that the next CONFIG is to carry. -/
def latNote (p x y : Nat) (b : Blk) : Blk :=
  if ((cmuAt b p).map (fun m => latMoved m x y)).getD false then
    modChain (fun c => { c with echo := c.echo.filter (fun q => q.1 != p) ++ [(p, x, y)] }) b
  else b

/-- The payload of a CONFIG (R196): position, rank, tone limits, aperture code and home end. DESIGN CHOICE: the limit OV comes before
UV (notes/assumptions/152.md); the latencies that moved (R204), for which R196 has no field, follow as 2 × u16 in ns
(notes/assumptions/151.md). -/
def configBytes (e : Env) (b : Blk) (p rank home : Nat) : List Byte :=
  leBytes 1 p ++ leBytes 1 rank ++ leBytes 2 (e.get CHAIN_TONE_LIM_OV) ++ leBytes 2 (e.get CHAIN_TONE_LIM_UV) ++
    leBytes 1 (b.get THERM_STA_BAND) ++ leBytes 1 home ++
    match b.chain.echo.find? (fun q => q.1 == p) with
    | some q => leBytes 2 q.2.1 ++ leBytes 2 q.2.2
    | none => []

/-- R201 steps 4 to 6, in their order: ECHO from both ends to the CMUs beyond the count, AUTH and CONFIG to every index found. -/
def configFrames (e : Env) (c : AddrCommit) (b : Blk) : List ChainReq :=
  let fs := c.found.filterMap (fun f => (posOfIndex c.count b.chain.retire f.1 f.2.1).map (fun q => (f, q.1)))
  let ends := fun (r : Nat) => [2 * r, 2 * r + 1].filter (fun n => (c.map[n]?).getD 0 != 0)
  let best := fun (f : Nat × Nat × Nat × Nat × Nat) => match ends f.1 with
    | [x, y] => if f.2.2.2.1 < f.2.2.1 then [y] else [x]
    | l => l
  (fs.filter (fun x => decide (ringCount c.count x.1.1 ≤ x.1.2.1))).flatMap (fun x => (ends x.1.1).map (fun n =>
    ⟨false, [x.1.1], [n], 0x80 + x.1.2.1, 0x05, [], x.2, false⟩)) ++
  fs.map (fun x => ⟨false, [x.1.1], best x.1, 0x80 + x.1.2.1, 0x06, [], x.2, false⟩) ++
  fs.map (fun x => ⟨false, [x.1.1], best x.1, 0x80 + x.1.2.1, 0x07, configBytes e b x.2 x.1.2.1 x.1.2.2.2.2, x.2, false⟩)

/-- A challenge of the position waits for its time on the line or for its answer. -/
def authOpen (b : Blk) (p : Nat) : Bool :=
  ((cmuAt b p).bind CmuRec.nonce).isSome || b.chain.wait.any (fun r => r.type == 0x06 && r.pos == p)

/-- R43, R227: the spare positions and the ends mapped to idle ports in use; those that are new are recorded. -/
def reservesShow (e : Env) (retire : List (Nat × Nat)) (map : List Nat) (b : Blk) : Blk :=
  let spares := (retire.map (fun q => 2 ^ (q.2 - 36))).sum
  let ends := remapped map
  let b1 := (b.put CHAIN_SPARE_DETAIL_SPARES spares).put CHAIN_SPARE_DETAIL_ENDS ends
  let b2 := b1.put SYS_RESERVE_USED_USED (setBit (setBit (b1.get SYS_RESERVE_USED_USED) 1 (spares != 0)) 3 (ends != 0))
  reserveUnits e 3 (newBits (b.get CHAIN_SPARE_DETAIL_ENDS) ends 4)
    (reserveUnits e 1 (newBits (b.get CHAIN_SPARE_DETAIL_SPARES) spares 4) b2)

/-- R202, R203: the new addresses take effect. The spare of a retired position serves its cells though no CMU was found there. -/
def enumApply (e : Env) (c : AddrCommit) (b : Blk) : Blk :=
  let ret := b.chain.retire
  let passed := fun p => !authOpen b p
  let blank := mapIdx (fun p (m : CmuRec) =>
    if ret.any (fun q => q.1 == p) then { m with state := 5, serves := none }
    else { m with
      state := 0, index := none
      serves := if p < c.count then some p else (ret.find? (fun q => q.2 == p)).map Prod.fst }) 0 b.chain.cmus
  let b1 := c.found.foldl (fun x f => placeCmu c.count ret passed f x)
    (modChain (fun h => { h with commit := none, count := c.count, map := c.map, cmus := blank }) b)
  let b2 := (b1.put CHAIN_STA_RING1_OK (boolBit (b.get CHAIN_BREAK_1_FIRST == 255))).put CHAIN_STA_RING2_OK
    (boolBit (b.get CHAIN_BREAK_2_FIRST == 255 && decide (18 < c.count)))
  judgeAll e (silenceConds b2) (silenceShow (reservesShow e ret c.map b2))

/-- R204: the positions whose latencies from both ends do not add up to their ring's through latency within 20 ns. DESIGN CHOICE: they
are kept, with no effect: the spec gives the failed check none (notes/assumptions/115.md). -/
def throughFails (c : AddrCommit) (retire : List (Nat × Nat)) (thru : List Nat) : List Nat :=
  c.found.filterMap (fun f => match thru[f.1]?, posOfIndex c.count retire f.1 f.2.1 with
    | some l, some q => if 20 < iabs (((f.2.2.1 + f.2.2.2.1 : Nat) : Int) - (l : Nat)) then some q.1 else none
    | _, _ => none)

/-- R205: a beacon from each mapped end, with TB1 and the end's code. DESIGN CHOICE: 0 to 3 for 1A, 1B, 2A and 2B
(notes/assumptions/152.md). -/
def beaconAll (e : Env) (b : Blk) : Blk :=
  (mappedEnds b).foldl (fun x n => chainTx [n] 0xFF 0x02 (leBytes 4 e.clk.ns1 ++ leBytes 1 n) x)
    (modChain (fun c => { c with beaconAt := some e.now }) b)

/-- R201 steps 2 to 6 are not over: a frame of the enumeration waits for the line, or a challenge of a CMU found is open. -/
def enumBusy (b : Blk) (c : AddrCommit) : Bool :=
  b.chain.wait.any (fun r => decide (4 ≤ r.type) && decide (r.type ≤ 7) && decide (0x80 ≤ r.dest)) ||
    c.found.any (fun f => ((posOfIndex c.count b.chain.retire f.1 f.2.1).map (fun q => authOpen b q.1)).getD false)

/-- R201 steps 7 and 8: the new addresses hold: three beacons from each end, the timers are aligned, and the result is shown. -/
def enumDone (e : Env) (b : Blk) : Blk :=
  match b.chain.enum with
  | some ⟨at_, some (res, n1, n2)⟩ =>
    let b1 := (beaconAll e (beaconAll e (beaconAll e b))).put CHAIN_STA_ALIGNED (boolBit (res == 1))
    let b2 := (((b1.put CHAIN_ENUM_STA_RESULT res).put CHAIN_ENUM_STA_FOUND1 (min 63 n1)).put CHAIN_ENUM_STA_FOUND2 (min 63 n2)).put
      CHAIN_ENUM_STA_DURATION (min 255 ((e.now - at_) / ms 1))
    modChain (fun c => { c with enum := none }) ((b2.put CHAIN_STA_ENUM_RUNNING 0).put CHAIN_ENUM_CMD_ENUMERATE 0)
  | _ => b

/-- R201, R202: steps 2 to 6 are over. Where no CMU had an address the new ones hold at once; else, once no sampled sweep is open,
ADDRESS_COMMIT names the instant 100 µs from now, where the next SAMPLE_AT is due no sooner than 100 µs after that. -/
def commitAsk (e : Env) (b : Blk) : Blk :=
  match b.chain.commit with
  | some ⟨none, found, count, map⟩ =>
    if enumBusy b ⟨none, found, count, map⟩ then b
    else if b.get CHAIN_ENUM_STA_RESULT = 0 then enumDone e (enumApply e ⟨none, found, count, map⟩ b) else
    let clear := b.chain.flight.all (fun s => s.lat.isNone) && ((announceIn e b).map (fun n => decide (200000 ≤ n))).getD true
    if ¬ clear then b else
    match chainNow e (reqAll b 0x08 (leBytes 4 ((e.clk.ns1 + 100000) % 2 ^ 32))) b with
    | (true, b1) => modChain (fun c => { c with commit := some ⟨some (e.now + us 100), found, count, map⟩ }) b1
    | (false, _) => b
  | _ => b

/-- R202: the named instant has come: every CMU has changed its address. -/
def commitStep (e : Env) (b : Blk) : Blk :=
  match b.chain.commit with
  | some c => if (c.at_.map (fun t => decide (t ≤ e.now))).getD false then enumDone e (enumApply e c b) else b
  | none => b

/-- R201 to R204: the CMUs of an enumeration are found, each with its ring, index, round trips at A and B and turnaround in 0.1 ns, and
home end; `thru` gives per ring its through latency in ns (none where the ends found different sequences), `late` tells whether time ran
out. AUTH and CONFIG follow; then the new addresses hold at once where no CMU had one, else at the instant of an ADDRESS_COMMIT, and the
result is recorded. -/
def enumComplete (cmus : List (Nat × Nat × Nat × Nat × Nat × Nat)) (thru : Option (List Nat)) (late : Bool) (e : Env) (b : Blk) : Blk :=
  match b.chain.enum with
  | none => b
  | some r =>
    if r.res.isSome then b else
    let found := cmus.map (fun f => (f.1, f.2.1, echoLatency f.2.2.1 f.2.2.2.2.1, echoLatency f.2.2.2.1 f.2.2.2.2.1, f.2.2.2.2.2))
    let c : AddrCommit := ⟨none, found, e.get CHAIN_CMU_COUNT_COUNT, ringMap e b⟩
    let n := fun ring => (found.filter (fun f => f.1 == ring)).length
    let missing := decide (n 0 < ringCount c.count 0) || decide (n 1 < ringCount c.count 1)
    let res := if thru.isNone then 3 else if late then 4 else if missing then 2 else 1
    let b1 := modChain (fun h => { h with
      enum := some ⟨r.at_, some (res, n 0, n 1)⟩, commit := some c
      thru := (thru.map (throughFails c h.retire)).getD [] })
      (found.foldl (fun x f => match posOfIndex c.count b.chain.retire f.1 f.2.1 with
        | some q => latNote q.1 f.2.2.1 f.2.2.2.1 x
        | none => x) b)
    let b2 := chainAsk e (configFrames e c b1) b1
    commitAsk e (if res = 1 then b2 else raise e SRC_ENUM_FAULT 0 0 0 b2)

/-- ECHO to a position from each mapped end of its ring. -/
def echoReqs (b : Blk) (p : Nat) : List ChainReq :=
  (ringEnds b (ringOf p)).map (fun n => ⟨false, [ringOf p], [n], p, 0x05, [], p, false⟩)

/-- CONFIG to a position under its present address (R196). -/
def configReq (e : Env) (b : Blk) (p : Nat) : ChainReq :=
  let m := (cmuAt b p).getD .absent
  reqTo b false p 0x07 (configBytes e b p (m.index.getD 0) m.home)

/-- R204: every CMU is echoed, (position, round trips at A and B, turnaround); a latency that moved by more than 10 ns goes with the next
CONFIG, which is sent for it. -/
def echoRecheck (l : List (Nat × Nat × Nat × Nat)) (e : Env) (b : Blk) : Blk :=
  if ¬ b.running ∨ b.role = .standby then b else
  let b1 := l.foldl (fun x q =>
    let u := echoLatency q.2.1 q.2.2.2
    let v := echoLatency q.2.2.1 q.2.2.2
    modCmu q.1 (fun m => { m with hopA := u, hopB := v }) (latNote q.1 u v x))
    (chainAsk e (l.flatMap (fun q => echoReqs b q.1)) b)
  chainAsk e ((l.filter (fun q => b1.chain.echo.any (fun x => x.1 == q.1))).map (fun q => configReq e b1 q.1)) b1

/-! ### Open-wire tests (R220 to R223) -/

/-- Slots and bursts are run by a SOLO or ACTIVE module in service outside HOLDUP (R221, R231), and outside the hold after a
takeover by path loss (R421). -/
def diagRuns (b : Blk) : Bool := b.running && b.owner && !b.holdup && b.get TWIN_STA_TAKEOVER_HOLD == 0

/-- R221: a time lies at least 200 µs after the previous instant and before the next announced one, and at least 50 µs ahead. -/
def owFree (e : Env) (b : Blk) (t : Nat) : Bool :=
  let clear := fun (x : Nat) => decide (200000 ≤ sdiff32 t x) || decide (200000 ≤ sdiff32 x t)
  decide (50000 ≤ sdiff32 t e.clk.ns1) && b.chain.flight.all (fun s => clear s.t) && (b.chain.prevT.map clear).getD true

/-- The positions of a slot: every configured one that is in no burst. -/
def owPositions (b : Blk) : List Nat :=
  (List.range 40).filter (fun p => ((cmuAt b p).map (fun m => m.serves.isSome && m.state != 0 && m.state != 5)).getD false &&
    !((b.chain.burst.map (fun u => u.poss.contains p)).getD false))

/-- A bitmap of positions, u64. -/
def posBits (l : List Nat) : Nat := l.foldl (fun a p => setBit a p true) 0

/-- OW_SLOT for a start and positions. -/
def owReq (b : Blk) (t : Nat) (ps : List Nat) : ChainReq := reqAll b 0x09 (leBytes 4 t ++ leBytes 8 (posBits ps))

/-- R221: the periodic slot at TB1 time `t`. Where the time does not serve, or the line has no room to announce it, it is deferred. -/
def openWireSlot (t : Nat) (e : Env) (b : Blk) : Blk :=
  if ¬ diagRuns b ∨ b.chain.owPlan.isSome ∨ e.now < b.chain.owSince + ms (10 * e.get CHAIN_OW_CFG_PERIOD) then b
  else
    let no := b.put CHAIN_STA_OW_DEFERRING (boolBit (decide (b.chain.owSince + ms (20 * e.get CHAIN_OW_CFG_PERIOD) ≤ e.now)))
    if ¬ owFree e b t then no else
    match chainNow e (owReq b t (owPositions b)) b with
    | (true, b1) => modChain (fun c => { c with owPlan := some (t, false), owSince := e.now }) (b1.put CHAIN_STA_OW_DEFERRING 0)
    | (false, _) => no

/-- R221: the deferral limit has passed: the slot takes the next sample instant that lies at least 50 µs ahead. -/
def owDeferred (e : Env) (b : Blk) : Blk :=
  let due := b.chain.owSince + ms (10 * e.get CHAIN_OW_CFG_PERIOD) + sec (e.get CHAIN_OW_CFG_DEFER)
  if ¬ diagRuns b ∨ b.chain.owPlan.isSome ∨ e.now < due then b else
  match b.chain.flight.find? (fun s => s.lat.isNone && decide (50000 ≤ sdiff32 s.t e.clk.ns1)) with
  | none => b
  | some s =>
    let ps := owPositions b
    match chainNow e (owReq b s.t ps) b with
    | (false, _) => b
    | (true, b1) => raise e SRC_OW_DEFERRED 0 0 0 (modSweep s.id (fun s => { s with ow := true, owPos := ps })
        (modChain (fun c => { c with owPlan := some (s.t, true), owSince := e.now }) (b1.put CHAIN_STA_OW_DEFERRING 0)))

/-- R222: whether a wire of a CMU is diagnosed broken, from the 16 steps and Σ − V_SUP, all in 100 µV. -/
def wireBroken (thr : Int) (steps : List Int) (diff : Int) (m : Nat) : Bool :=
  let st := fun j => (steps[j]?).getD 0
  if m = 0 then decide (thr < iabs (st 0)) && decide (1000 < iabs diff)
  else if m = 16 then decide (thr < iabs (st 15)) && decide (1000 < iabs diff)
  else decide (thr < iabs (st (m - 1))) && decide (thr < iabs (st m)) && decide (st (m - 1) * st m < 0)

/-- R220: the step of wire `m` of a CMU, from the steps of the cells on either side. DESIGN CHOICE: the larger one in magnitude, of two
equal ones the lower cell's (notes/assumptions/42.md). -/
def wireStep (steps : List Int) (m : Nat) : Int :=
  let hi := (steps[m]?).getD 0
  if m = 0 then hi else
  let lo := (steps[m - 1]?).getD 0
  if iabs lo < iabs hi then hi else lo

/-- R222: the mark of a wire's cells; each keeps its R_i (R242), and each pair newly marked by a middle wire is watched with the |Z| it
had (R243). -/
def markWires (e : Env) (g was wires : Nat) (b : Blk) : Blk :=
  let unsure := fun j => (decide (1 ≤ j) && bitOf wires j) || (decide (j ≤ 14) && bitOf wires (j + 1))
  let endw := fun j => (j == 0 && bitOf wires 0) || (j == 15 && bitOf wires 16)
  let b1 := modChain (fun c => { c with cells := mapIdx (fun n (x : CellRec) =>
    if n / 16 = g then { x with unsure := unsure (n % 16), endWire := endw (n % 16) } else x) 0 c.cells }) b
  let z := fun n => ((b.ledger.cells[n]?).map LCell.z).getD 0
  let mids := (List.range 16).filter (fun m => decide (1 ≤ m) && bitOf wires m && !bitOf was m)
  modLed (fun l => { l with
    pairs := l.pairs.filter (fun q => q.1 / 16 != g || bitOf wires (q.1 % 16 + 1)) ++
      mids.map (fun m => (16 * g + m - 1, z (16 * g + m - 1), z (16 * g + m), 0))
    cells := mapIdx (fun n (x : LCell) =>
      if n / 16 ≠ g then x
      else if unsure (n % 16) || endw (n % 16) then { x with rHeld := some (x.rHeld.getD (compR e x).1) }
      else { x with rHeld := none }) 0 l.cells }) b1

/-- One CMU's open-wire test: reference and injection values in 100 µV and V_SUP in 10 mV (R220, R222). -/
def owCmu (e : Env) (r : Nat × List (Nat × Nat) × Nat) (b : Blk) : Blk × List Cond :=
  match cmuAt b r.1 with
  | none => (b, [])
  | some m => match m.serves with
    | none => (b, [])
    | some g =>
      let steps := r.2.1.map (fun x => (x.2 : Int) - x.1)
      let diff := ((r.2.1.map Prod.fst).sum : Int) - 100 * r.2.2
      let bad := (List.range 17).filter (wireBroken (100 * e.get CHAIN_OW_CFG_THR) steps diff)
      let pass := fun w => if bad.contains w then 0 else (((m.passes.find? (fun q => q.1 == w)).map Prod.snd).getD 0) + 1
      let wires := (List.range 17).foldl (fun a w =>
        if bad.contains w then setBit a w true else if 2 ≤ pass w then setBit a w false else a) m.wires
      let b1 := modCmu r.1 (fun m => { m with
        wires := wires
        passes := ((List.range 17).filter (fun w => bitOf wires w)).map (fun w => (w, pass w)) }) b
      let b2 := modChain (fun c => { c with cells := mapIdx (fun n (x : CellRec) =>
        if n / 16 = g then { x with stepLo := wireStep steps (n % 16), stepHi := wireStep steps (n % 16 + 1) } else x) 0 c.cells }) b1
      let b3 := if wires = m.wires then b2 else markWires e g m.wires wires b2
      (b3, (List.range 17).map (fun w => ⟨bitOf wires w, if w = 0 ∨ w = 16 then SRC_END_WIRE_OPEN else SRC_SENSE_WIRE_OPEN,
        32 * r.1 + w, 16 * g + (w - 1), 0, 0⟩))

/-- R222: the results of a slot. -/
def openWireResult (rs : List (Nat × List (Nat × Nat) × Nat)) (e : Env) (b : Blk) : Blk :=
  match b.chain.owPlan with
  | none => b
  | some (_, took) =>
    let (b1, cs) := rs.foldl (fun (a : Blk × List Cond) r => let (x, c) := owCmu e r a.1; (x, a.2 ++ c)) (b, [])
    judgeAll e cs (modChain (fun c => { c with owPlan := none, owLast := e.now })
      ((b1.bump CHAIN_OW_STA_TESTS).put CHAIN_OW_STA_LAST_TOOK (boolBit took)))

/-! ### Authentication and spares (R224 to R227) -/

/-- CHAIN.STA's flags of the positions. -/
def showAuth (b : Blk) : Blk :=
  (b.put CHAIN_STA_UNCONFIRMED (boolBit (b.chain.cmus.any (fun m => m.state == 4)))).put CHAIN_STA_FOREIGN
    (boolBit (b.chain.cmus.any (fun m => m.state == 3)))

/-- The plant secret's key slot (R466). -/
def keyPlant : Nat := 0

def keyOf (b : Blk) (slot : Nat) : Option (List Byte) := (b.keep.keys.find? (fun k => k.1 == slot)).map Prod.snd

/-- R224: K_cmu from the plant secret and a serial number. -/
def cmuKey (plant : List Byte) (serial : Nat) : List Byte := hmac plant ([0x43, 0x4D, 0x31, 0x36] ++ leBytes 8 serial)

/-- The group of cells a position serves; of an enumeration whose addresses still wait, the one it will serve (R202, R225). -/
def servesSoon (b : Blk) (p : Nat) : Option Nat :=
  match b.chain.commit with
  | some c => match c.found.filterMap (fun f => (posOfIndex c.count b.chain.retire f.1 f.2.1).filter (fun q => q.1 == p)) with
    | q :: _ => q.2.1
    | [] => (cmuAt b p).bind CmuRec.serves
  | none => (cmuAt b p).bind CmuRec.serves

/-- R217: the repair's authentications are done. -/
def repairEnd (b : Blk) : Blk :=
  if b.get CHAIN_STA_REPAIR_RUNNING = 1 ∧ b.chain.authDue = [] ∧ ¬ (List.range 40).any (authOpen b) then b.put CHAIN_STA_REPAIR_RUNNING 0 else b

/-- R5, R225: the outcome of an authentication: 2 authenticated, 4 SWAPPED, 3 FOREIGN. An idle spare awaits no confirmation (R226). -/
def authOutcome (e : Env) (p serial st : Nat) (b : Blk) : Blk :=
  match cmuAt b p with
  | none => b
  | some _ =>
    let g := servesSoon b p
    let b1 := modCmu p (fun m => { m with
      nonce := none
      serial := if serial = 0 then m.serial else serial
      tries := min 255 (m.tries + 1)
      auth := if st = 2 then 1 else if st = 4 then 3 else 2
      state := if g.isNone ∧ st ≠ 3 then 6 else st }) b
    let b2 := match g with
      | some k => if st = 2 then b1 else historyClear e k b1
      | none => b1
    judgeAll e [⟨st == 3, SRC_CMU_FOREIGN, p, p, 0, 0⟩, ⟨st == 4 && g.isSome, SRC_CMU_SWAPPED, p, p, 0, 0⟩] (repairEnd (showAuth b2))

/-- R224, R225: an AUTH answer: the serial and the MAC over nonce, position and serial. -/
def authResponse (p serial : Nat) (mac : List Byte) (e : Env) (b : Blk) : Blk :=
  match (cmuAt b p).bind CmuRec.nonce with
  | none => b
  | some (n, _) =>
    let good := match keyOf b keyPlant with
      | none => false
      | some k => mac16 (cmuKey k serial) (nonceOf n ++ leBytes 1 p ++ leBytes 8 serial) == mac
    let conf := (cmuAt b p).bind CmuRec.conf
    authOutcome e p serial (if !good then 3 else if conf = some serial then 2 else 4) b

def authTimer (p : Nat) (b : Blk) : Option Nat := ((cmuAt b p).bind CmuRec.nonce).map Prod.snd
def authTimeout (p : Nat) (e : Env) (b : Blk) : Blk := authOutcome e p 0 3 b

/-- The modes in which CONFIRM and RETIRE are judged. -/
def chainWritable (b : Blk) : Bool := b.mode == .commissioning || b.mode == .isolated || b.mode == .maintenance

/-- R226: the host confirms a SWAPPED position. -/
def confirmSerial (p s16 : Nat) (e : Env) (b : Blk) : Blk := hostCmd (fun b =>
  if ¬ chainWritable b then finish .denied b else
  match cmuAt b p with
  | none => finish .denied b
  | some m =>
    if m.state ≠ 4 then finish .denied b
    else if m.serial % 65536 ≠ s16 then finish .conflict b
    else finish .ok (showAuth (endExc e SRC_CMU_SWAPPED p (nvRequest .retained
      (modCmu p (fun m => { m with conf := some m.serial, state := 2 }) b))))) b

/-- R227: a position is retired in favour of the lowest free spare of its ring. DESIGN CHOICE: one already retired, a spare or one that is
none answers CONFLICT (notes/assumptions/153.md). -/
def retirePos (p : Nat) (_ : Env) (b : Blk) : Blk := hostCmd (fun b =>
  if ¬ chainWritable b then finish .denied b
  else if 36 ≤ p ∨ b.chain.retire.any (fun r => r.1 == p) then finish .conflict b
  else match [36 + 2 * ringOf p, 37 + 2 * ringOf p].find? (fun k => !(b.chain.retire.any (fun r => r.2 == k))) with
    | none => finish .conflict b
    | some k => finish .ok (nvRequest .retained (modChain (fun c => { c with retire := c.retire ++ [(p, k)] }) b))) b

/-- The positions that are to be authenticated: those found that are not retired. -/
def authAll (e : Env) (ring : Option Nat) (b : Blk) : Blk :=
  chainAsk e (((List.range 40).filter (fun p => (ring.map (fun r => r == ringOf p)).getD true &&
    ((cmuAt b p).map (fun m => m.state != 0 && m.state != 5)).getD false)).map (fun p => reqTo b false p 0x06 [])) b

/-- R217: a broken ring carries valid symbols again without a break notice for 1 ms. `echoes` gives the positions reached with their index,
round trips at A and B and turnaround in 0.1 ns: each is echoed, one that had lost its index gets it by ENUM at its physical place, all are authenticated (in
HOLDUP once the supply is back), and CONFIG restores their home ends. A STANDBY clears its own break only (R231). -/
def ringRepair (ring : Nat) (echoes : List (Nat × Nat × Nat × Nat × Nat)) (e : Env) (b : Blk) : Blk :=
  let quiet := ((b.chain.noticeAt.find? (fun p => p.1 == ring)).map (fun p => decide (p.2 + ms 1 ≤ e.now))).getD false
  if ¬ b.running ∨ 1 < ring ∨ ¬ quiet ∨ b.get (firstFld ring) = 255 then b else
  let b1 := (breaksOf b ring).foldl (fun x k => endExc e SRC_RING_BREAK (256 * ring + k) x) b
  let b2 := modChain (fun c => { c with
      noticeAt := c.noticeAt.filter (fun p => p.1 != ring), notices := c.notices.filter (fun n => n.1 != ring) })
    (((b1.put (firstFld ring) 255).put (secondFld ring) 255).put (ringOkFld ring) 1)
  if b2.role = .standby then b2 else
  let found := echoes.map (fun f => (f.1, f.2.1, echoLatency f.2.2.1 f.2.2.2.2, echoLatency f.2.2.2.1 f.2.2.2.2))
  let mine := found.filter (fun f => ringOf f.1 == ring)
  let lost := mine.filter (fun f => ((cmuAt b f.1).map (fun m => m.index.isNone || m.state == 0)).getD false)
  let b3 := mine.foldl (fun x f => modCmu f.1 (fun m => { m with
      index := some f.2.1, hopA := f.2.2.1, hopB := f.2.2.2
      home := if lost.any (fun q => q.1 == f.1) then boolBit (decide (f.2.2.2 < f.2.2.1)) else m.home
      state := if m.state = 0 then foundState false (if m.serves.isSome then 1 else 6) m else m.state }) (latNote f.1 f.2.2.1 f.2.2.2 x)) b2
  let at_ := fun (f : Nat × Nat × Nat × Nat) (type : Nat) (pay : List Byte) =>
    ({ reqTo b3 false f.1 type pay with dest := if type = 0x04 then 0x80 + f.2.1 else f.1 } : ChainReq)
  let b4 := chainAsk e (mine.flatMap (fun f => echoReqs b3 f.1) ++ lost.map (fun f => at_ f 0x04 (leBytes 1 f.2.1)))
    (b3.put CHAIN_STA_REPAIR_RUNNING 1)
  let b5 := if b4.holdup then modChain (fun c => { c with authDue := insSet c.authDue ring }) b4 else authAll e (some ring) b4
  repairEnd (chainAsk e (mine.map (fun f => at_ f 0x07 (configBytes e b5 f.1 f.2.1 (((cmuAt b5 f.1).map CmuRec.home).getD 0)))) b5)

/-- R217, R231: authentications put off in HOLDUP are made. -/
def authDeferred (e : Env) (b : Blk) : Blk :=
  b.chain.authDue.foldl (fun x r => authAll e (some r) x) (modChain (fun c => { c with authDue := [] }) b)

/-! ### Bursts (R228, R241 to R243) -/

/-- R228, R241: a burst of up to four positions per ring, at least 50 µs ahead; a position is captured once in every 10 s. -/
def burst (poss : List Nat) (t : Nat) (e : Env) (b : Blk) : Blk :=
  let fresh := decide (b.chain.capFrom + sec 10 ≤ e.now)
  let done := if fresh then [] else b.chain.captured
  let ps := poss.filter (fun p => !(done.contains p))
  let few := fun r => decide ((ps.filter (fun p => ringOf p == r)).length ≤ 4)
  if ¬ diagRuns b ∨ e.get LEDGER_RIPPLE_F = 0 ∨ b.chain.burst.isSome ∨ sdiff32 t e.clk.ns1 < 50000 ∨ ps = [] ∨ ¬ (few 0 && few 1) then b
  else match chainNow e (reqAll b 0x0A (leBytes 4 t ++ leBytes 8 (posBits ps))) b with
  | (false, b1) => b1
  | (true, b1) => modChain (fun c => { c with
      burst := some ⟨t, e.now + (sdiff32 t e.clk.ns1).toNat / 5, ps, false⟩
      captured := ps.foldl insSet done
      capFrom := if fresh then e.now else c.capFrom }) (b1.put CHAIN_STA_BURST_RUNNING 1)

/-- R228: the burst's 100 ms are over: its samples are read, in diagnostic slots. -/
def burstRead (e : Env) (b : Blk) : Blk :=
  match b.chain.burst with
  | some u =>
    if u.read ∨ e.now < u.startAt + ms 100 then b else
    chainAsk e (u.poss.map (fun p => reqTo b false p 0x0B (leBytes 2 0 ++ leBytes 1 burstChunk)))
      (modChain (fun c => { c with burst := some { u with read := true } }) b)
  | none => b

/-- sin x for |x| ≤ π/2, both in 2⁻³², by its series. -/
def sinSeries (x : Int) : Int :=
  let y := x * x / 2 ^ 32
  x * ([272, 210, 156, 110, 72, 42, 20, 6].foldl (fun (a : Int) d => 2 ^ 32 - a * y / (2 ^ 32 * d)) (2 ^ 32)) / 2 ^ 32

/-- (cos, sin), in 2⁻³², of `num / den` turns. -/
def turn (num den : Nat) : Int × Int :=
  let f := num % den * 2 ^ 32 / den
  let x : Int := ((f % 2 ^ 30 * 26986075409 / 2 ^ 32 : Nat) : Int)
  let s := sinSeries x
  let c := sinSeries (6746518852 - x)
  match f / 2 ^ 30 with
  | 0 => (c, s)
  | 1 => (-s, c)
  | 2 => (-c, -s)
  | _ => (s, -c)

/-- The angle of a vector of the first quadrant in steps of 0.005°, by bisection on `k` bits. -/
def angleAux : Nat → Int → Int → Nat → Nat
  | 0, _, _, r => r
  | k + 1, x, y, r =>
    let m := r + 2 ^ k
    let (c, s) := turn m 72000
    if m ≤ 18000 ∧ s * x ≤ c * y then angleAux k x y m else angleAux k x y r

/-- The angle of a vector in 0.01°, from −17,999 to 18,000. -/
def angleOf (x y : Int) : Int :=
  let q := fun (u v : Int) => (((angleAux 15 u v 0) + 1) / 2 : Nat)
  if 0 ≤ x then (if 0 ≤ y then (q x y : Int) else -(q x (-y) : Int))
  else if 0 ≤ y then 18000 - (q (-x) y : Int) else (q (-x) (-y) : Int) - 18000

/-- R241: the sums of a quantity against the cosine and the sine reference, Σ x·e^(−j2πft) in 2⁻³²; times in ns from the burst's start,
`f` in 0.1 Hz. -/
def lockSum (f : Nat) (xs : List (Nat × Int)) : Int × Int :=
  xs.foldl (fun a x => let (c, s) := turn (f * x.1) 10000000000; (a.1 + x.2 * c, a.2 - x.2 * s)) (0, 0)

/-- R241: the samples of the largest whole number of ripple periods in the 100 ms: (time in ns from the start, current in mA, the
16 cells in 100 µV). A flagged sample comes with its actual instant. -/
def lockSamples (f : Nat) (xs : List (Nat × Int × List Nat)) : List (Nat × Int × List Nat) :=
  xs.filter (fun x => decide (x.1 * f < f / 100 * 10000000000))

/-- R241: Z of one cell in µΩ from its sums and the current's, real and imaginary part and the phase in 0.01°. DESIGN CHOICE: rounded to the
nearest (notes/assumptions/45.md). -/
def lockZ (v i : Int × Int) : Int × Int × Int :=
  let d := i.1 * i.1 + i.2 * i.2
  let re := divRound (100000 * (v.1 * i.1 + v.2 * i.2)) d
  let im := divRound (100000 * (v.2 * i.1 - v.1 * i.2)) d
  (re, im, angleOf re im)

/-- The estimate of local cell `j` from the samples and the current's sums. -/
def lockCell (f : Nat) (ss : List (Nat × Int × List Nat)) (i : Int × Int) (j : Nat) : Int × Int × Int :=
  lockZ (lockSum f (ss.map (fun s => (s.1, (((s.2.2[j]?).getD 0 : Nat) : Int))))) i

/-- R241, R242: one cell's estimate in µΩ and 0.01°. -/
def zUpdate (now : Nat) (z : Int × Int × Int) (l : LCell) : LCell :=
  { l with z := isqrt (z.1 * z.1 + z.2.1 * z.2.1).toNat, zCos := z.1, phase := z.2.2, zAt := some now }

/-- R243: whether a marked pair's estimates confirm the broken wire, against the |Z| held at the mark. -/
def zConfirms (a0 c0 a c : Nat) : Bool :=
  let da : Int := a - a0
  let dc : Int := c - c0
  decide (da * dc < 0) && decide ((20 * a0 : Int) < 100 * iabs da) && decide ((20 * c0 : Int) < 100 * iabs dc) &&
  decide (100 * iabs (((a + c : Nat) : Int) - (a0 + c0 : Nat)) ≤ (10 * (a0 + c0) : Nat))

/-- R243: one update of the watched pairs of a group: those that remain, and what the settled ones raise. -/
def pairStep (b : Blk) (g : Nat) (q : Nat × Nat × Nat × Nat) : (Nat × Nat × Nat × Nat) × Option Raise :=
  let z := fun n => ((b.ledger.cells[n]?).map LCell.z).getD 0
  let n := q.2.2.2 + 1
  if q.1 / 16 ≠ g then (q, none)
  else if zConfirms q.2.1 q.2.2.1 (z q.1) (z (q.1 + 1)) then (q, some { src := SRC_SENSE_Z_CONFIRM, code := q.1 })
  else if 3 ≤ n then (q, some { src := SRC_SENSE_Z_UNCONFIRMED, code := q.1 })
  else ((q.1, q.2.1, q.2.2.1, n), none)

/-- R241: the amplitude of the string's ripple, in mA. -/
def rippleAmp (f : Nat) (xs : List (Nat × Int × List Nat)) : Nat :=
  let ss := lockSamples f xs
  let i := lockSum f (ss.map (fun s => (s.1, s.2.1)))
  2 * isqrt ((i.1 * i.1 + i.2 * i.2) / 2 ^ 64).toNat / max 1 ss.length

/-- R241: the cells' samples, each with the string current of its instant. -/
def burstSamples (cells : List (Nat × List Nat)) (cur : List Int) : List (Nat × Int × List Nat) :=
  List.zipWith (fun c i => (c.1, i, c.2)) cells cur

/-- R241, R243: a position's samples have been read back. Below the minimum ripple they update no cell. -/
def burstData (p : Nat) (cells : List (Nat × List Nat)) (cur : List Int) (e : Env) (b : Blk) : Blk :=
  match b.chain.burst, (cmuAt b p).bind CmuRec.serves with
  | some u, some g =>
    if ¬ u.poss.contains p then b else
    let left := u.poss.filter (· != p)
    let b0 := modChain (fun c => { c with
        burst := if left.isEmpty then none else some { u with poss := left }
        wait := c.wait.filter (fun r => r.type != 0x0B || r.pos != p) }) (b.put CHAIN_STA_BURST_RUNNING (boolBit (!left.isEmpty)))
    let f := e.get LEDGER_RIPPLE_F
    let xs := burstSamples cells cur
    let ss := lockSamples f xs
    let i := lockSum f (ss.map (fun s => (s.1, s.2.1)))
    if rippleAmp f xs < 1000 * e.get LEDGER_RIPPLE_MIN then b0 else
    let b1 := modLed (fun l => { l with cells := mapIdx (fun n (x : LCell) =>
      if n / 16 = g then zUpdate e.now (lockCell f ss i (n % 16)) x else x) 0 l.cells }) b0
    let ps := b1.ledger.pairs.map (pairStep b1 g)
    raiseAll e (ps.filterMap Prod.snd) (modLed (fun l => { l with
      pairs := (ps.filter (fun q => q.2.isNone)).map Prod.fst }) b1)
  | _, _ => b

/-! ### The commands of the line -/

/-- What the passing of time brings on the line: a named commit's instant, one that can be named now, a burst's end, and room for
transactions that wait. -/
def diagStep (e : Env) (b : Blk) : Blk := chainPump e (burstRead e (commitAsk e b))

/-- R206 to R209: SAMPLE_AT. -/
def sampleAt (e : Env) (b : Blk) : Blk := chainPump e (announceNext e (commitStep e b))

/-- R33: AUTO_INSTANT. -/
def autoInstant (e : Env) (b : Blk) : Blk := chainPump e (insertInstant e (commitStep e b))

/-- R205: a beacon from each mapped end, every 100 µs. -/
def beacon (e : Env) (b : Blk) : Blk :=
  if ¬ b.running then b else diagStep e (beaconAll e (commitStep e b))

end Sys2Proof.Machine
end

