-- ==== Sys2Proof/Machine/Shuttle.lean ====
section
/-! DEFINITION. SHUTTLE: eligibility, the plan cycle, orders, acknowledgements, reports and the direction filter (file 09, R265
to R283). -/

namespace Sys2Proof.Machine

def modShut (f : Shuttle → Shuttle) (b : Blk) : Blk := { b with shuttle := f b.shuttle }

/-- The bit of a position in SHUTTLE.CMU_BLOCK. -/
def cmuBlocked (b : Blk) (p : Nat) : Bool :=
  if p < 32 then bitOf (b.get SHUTTLE_CMU_BLOCK_LO) p else bitOf (b.get SHUTTLE_CMU_BLOCK_HI) (p - 32)

def blockCmu (p : Nat) (b : Blk) : Blk :=
  if p < 32 then b.put SHUTTLE_CMU_BLOCK_LO (setBit (b.get SHUTTLE_CMU_BLOCK_LO) p true)
  else b.put SHUTTLE_CMU_BLOCK_HI (setBit (b.get SHUTTLE_CMU_BLOCK_HI) (p - 32) true)

/-- A CMU_FAULT is active for a position (R271). -/
def cmuFaulty (b : Blk) (p : Nat) : Bool :=
  inExc b SRC_CMU_FAULT (1000 + p) || (isActive b SRC_CMU_FAULT && b.chain.faulty.contains p)

/-- R271: the conditions of eligibility whose failure stops a running transfer, but for the role's voltage. -/
def holdsCell (e : Env) (b : Blk) (n : Nat) : Bool :=
  match servingPos b n, b.chain.cells[n]?, b.ledger.cells[n]? with
  | some p, some c, some l =>
    !l.socUnk && !c.unsure && !c.endWire && ((cmuAt b p).map (fun m => m.state == 2)).getD false && !cmuBlocked b p &&
    decide (cellTemp e b n < e.int THERM_CELL_THR_THROTTLE) && !cmuFaulty b p
  | _, _, _ => false

/-- R271: eligible, a stale cell excluded. -/
def eligible (e : Env) (b : Blk) (n : Nat) : Bool :=
  holdsCell e b n && ((b.chain.cells[n]?).map (fun c => !c.stale && c.has)).getD false

/-- V_ir of a cell at the latest frame, nV. -/
def cellVir (e : Env) (b : Blk) (n : Nat) : Int :=
  match b.chain.cells[n]?, b.ledger.cells[n]? with
  | some c, some l => vIr c.v ((b.ledger.last.map Lat.i).getD 0) (compR e l).1
  | _, _ => 0

def donorV (e : Env) (b : Blk) (n : Nat) : Bool :=
  decide ((e.get LEDGER_LIM_V_DSG_V : Int) * 100000 + e.get SHUTTLE_DEADBAND_V_GUARD * 1000000 < cellVir e b n)
def rcvV (e : Env) (b : Blk) (n : Nat) : Bool :=
  decide (cellVir e b n < (e.get LEDGER_LIM_V_CHG_V : Int) * 100000 - e.get SHUTTLE_DEADBAND_V_GUARD * 1000000)

/-- The direction in force: 1 DISCHARGE, 2 CHARGE (R270). -/
def shDir (e : Env) (b : Blk) : Nat := if e.get SHUTTLE_CTL_DIR_FORCE = 0 then b.shuttle.dir else e.get SHUTTLE_CTL_DIR_FORCE

/-- R269: the figure of a cell in µC. -/
def shFigure (e : Env) (b : Blk) (l : LCell) : Int :=
  if shDir e b = 1 then qOf b l - l.bound - pctCap l (e.get LEDGER_RESERVE_LOW)
  else 1000 * l.cap - pctCap l (e.get LEDGER_RESERVE_HIGH) - qOf b l - l.bound

/-- R269: the eligible cells with their excess in µC. -/
def excesses (e : Env) (b : Blk) : List (Nat × Int) :=
  let fs := (List.range (cellCount b)).filterMap (fun n =>
    if eligible e b n then (b.ledger.cells[n]?).map (fun l => (n, shFigure e b l)) else none)
  let mean := if fs.length = 0 then 0 else (fs.map Prod.snd).sum / fs.length
  fs.map (fun p => (p.1, if shDir e b = 1 then p.2 - mean else mean - p.2))

/-- Insert by excess, highest first; equal excesses by ascending cell. -/
def excInsert (x : Nat × Int) : List (Nat × Int) → List (Nat × Int)
  | [] => [x]
  | y :: l => if y.2 < x.2 ∨ (y.2 = x.2 ∧ x.1 < y.1) then x :: y :: l else y :: excInsert x l

def excSort (l : List (Nat × Int)) : List (Nat × Int) := l.foldr excInsert []

/-- Lowest first, equal excesses by ascending cell. -/
def excSortUp (l : List (Nat × Int)) : List (Nat × Int) := (excSort (l.map (fun p => (p.1, -p.2)))).map (fun p => (p.1, -p.2))

/-- R281: the mode and state permit new orders. -/
def shPlans (e : Env) (b : Blk) : Bool :=
  b.phase == .run && e.get SHUTTLE_CTL_EN == 1 && !b.holdup && !b.pwr.latch &&
  match b.mode with
  | .isolated => true
  | .connecting => true
  | .connected => true
  | .tripped => e.get SHUTTLE_CTL_RUN_TRIPPED == 1
  | .maintenance => b.get SHUTTLE_CTL_MAINT_RUN == 1
  | _ => false

/-- This module gives orders (R281, R282, R421). -/
def shOrdering (e : Env) (b : Blk) : Bool := shPlans e b && b.owner && b.get TWIN_STA_TAKEOVER_HOLD == 0

/-- Slots occupied, as 4 × position + slot. -/
def slotsBusy (xs : List Xfer) : List Nat := xs.flatMap Xfer.slots

/-- R272, R274, R279: the lowest slot of a position that is free, by the table and by the CMU's last report, and has been free for the
present pause. -/
def freeSlot (e : Env) (b : Blk) (xs : List Xfer) (p : Nat) : Option Nat :=
  ((List.range 4).map (fun k => 4 * p + k)).find? (fun s =>
    !((slotsBusy xs).contains s) && !b.shuttle.other.contains s &&
    ((b.shuttle.freeAt.find? (fun f => f.1 == s)).map (fun f => decide (f.2 + ms (shuttlePause e b) ≤ e.now))).getD true)

/-- R273: the time limit in 10 ms of a quantum in mC at a current in 0.1 A. -/
def shLimit (q i : Nat) : Nat := (15 * q + 200 * i + 10 * i - 1) / (10 * i)

/-- R272: one order, if it fits. -/
def tryOrder (e : Env) (b : Blk) (xs : List Xfer) (tid : Nat) (d r : Nat × Int) : Option Xfer :=
  match servingPos b d.1, servingPos b r.1 with
  | some pd, some pr =>
    let bus := pd != pr
    let q := (min (100000 * (e.get SHUTTLE_QUANTUM : Int)) ((d.2 - r.2) / 2) / 1000).toNat
    let buses := (xs.filter (fun x => x.bus && x.open_)).length
    if 144 ≤ (slotsBusy xs).length ∨ (bus ∧ e.get SHUTTLE_I_CELL_BUS_LIM ≤ buses) then none else
    match freeSlot e b xs pd, (if bus then freeSlot e b xs pr else none) with
    | some sd, some sr => some ⟨tid, d.1, r.1, q, (e.clk.ns1 + 2000000) % 2 ^ 32, e.now + ms 2, shLimit q (e.get SHUTTLE_I_CELL_I),
        e.get SHUTTLE_I_CELL_I, true, 1, some sd, some sr, false, false, 0, 0, false, false, false, false, false, false⟩
    | some sd, none => if bus then none else
        some ⟨tid, d.1, r.1, q, (e.clk.ns1 + 2000000) % 2 ^ 32, e.now + ms 2, shLimit q (e.get SHUTTLE_I_CELL_I),
          e.get SHUTTLE_I_CELL_I, false, 1, some sd, none, false, true, 0, 0, false, false, true, false, false, false⟩
    | none, _ => none
  | _, _ => none

/-- The first receiver that fits a donor, and the receivers left. -/
def pickRcv (e : Env) (b : Blk) (xs : List Xfer) (tid : Nat) (d : Nat × Int) :
    List (Nat × Int) → Option Xfer × List (Nat × Int)
  | [] => (none, [])
  | r :: l => match tryOrder e b xs tid d r with
    | some x => (some x, l)
    | none => let (o, l') := pickRcv e b xs tid d l; (o, r :: l')

/-- R272: the pairing; `n` orders may still be given. -/
def pairUp (e : Env) (b : Blk) : List (Nat × Int) → List (Nat × Int) → Nat → Nat → List Xfer → List Xfer
  | [], _, _, _, new => new
  | _, _, 0, _, new => new
  | d :: ds, rs, n + 1, tid, new =>
    match pickRcv e b (b.shuttle.xfers ++ new) tid d rs with
    | (some x, rs') => pairUp e b ds rs' n ((tid + 1) % 65536) (new ++ [x])
    | (none, _) => pairUp e b ds rs (n + 1) tid new

/-- R275: the SH_ORDER frames of a transfer. -/
def orderFrames (e : Env) (b : Blk) (x : Xfer) : List ChainReq :=
  let pay := fun (role dl rl : Nat) => leBytes 2 x.tid ++ leBytes 1 role ++ leBytes 1 dl ++ leBytes 1 rl ++ leBytes 4 x.q ++
    leBytes 1 (e.get SHUTTLE_I_CELL_I) ++ leBytes 2 x.limit ++ leBytes 4 x.startT
  let pd := (x.slotD.getD 0) / 4
  if x.bus then [reqTo b true pd 0x10 (pay 1 (x.donor % 16) 255), reqTo b true ((x.slotR.getD 0) / 4) 0x10 (pay 2 255 (x.rcv % 16))]
  else [reqTo b true pd 0x10 (pay 0 (x.donor % 16) (x.rcv % 16))]

/-- R273: the digest of a plan's orders. -/
def planDigest (xs : List Xfer) : Nat :=
  if xs.isEmpty then 0
  else crc32c (xs.flatMap (fun x => leBytes 2 x.tid ++ leBytes 2 x.donor ++ leBytes 2 x.rcv ++ leBytes 4 x.q))

/-- SHUTTLE's registers. -/
def shuttleShow (e : Env) (b : Blk) : Blk :=
  let xs := b.shuttle.xfers
  let b1 := (b.put SHUTTLE_COUNTS_ACTIVE (min 255 (slotsBusy xs).length)).put SHUTTLE_COUNTS_BUS
    (min 255 (xs.filter (fun x => x.bus && x.open_)).length)
  let b2 := ((b1.put SHUTTLE_STA_ORDERING (boolBit (shOrdering e b))).put SHUTTLE_STA_DIR (shDir e b)).put
    SHUTTLE_STA_DIR_FORCED (boolBit (e.get SHUTTLE_CTL_DIR_FORCE != 0))
  (((b2.put SHUTTLE_STA_PAUSED (boolBit (shuttlePause e b != 0))).put SHUTTLE_PAUSE (shuttlePause e b)).put
    SHUTTLE_PAUSE_STEP b.therm.cell.step).putInt SHUTTLE_I_FILT_I (divZero b.shuttle.iF 1000000)

/-- A slot is free from now on. -/
def slotFree (e : Env) (s : Nat) (b : Blk) : Blk :=
  modShut (fun h => { h with freeAt := h.freeAt.filter (fun f => f.1 != s) ++ [(s, e.now)] }) b

/-- The transfer leaves the table; the slots that it still holds are free. -/
def dropXfer (e : Env) (x : Xfer) (b : Blk) : Blk :=
  x.slots.foldl (fun y s => slotFree e s y)
    (modShut (fun s => { s with xfers := s.xfers.filter (fun y => y.tid != x.tid) }) b)

/-- R279: a pair whose order was refused or not acknowledged in time is free at the next plan cycle. -/
def dropVoid (e : Env) (b : Blk) : Blk := (b.shuttle.xfers.filter Xfer.void).foldl (fun y x => dropXfer e x y) b

/-- R272, R273, R283: the plan cycle of every 100th frame. A STANDBY plans and sends nothing (R282). -/
def planCycle (e : Env) (b : Blk) : Blk :=
  if ¬ b.running ∨ b.shuttle.frames < 100 then b else
  let b0 := dropVoid e (modShut (fun s => { s with frames := 0, planAt := e.now }) b)
  let ex := excesses e b0
  let cn := e.get LEDGER_C_NOM
  let db : Int := (e.get SHUTTLE_DEADBAND_DB * cn / 10 : Nat)
  let busy := b0.shuttle.xfers.flatMap (fun x => [x.donor, x.rcv])
  let donors := (excSort ex).filter (fun p => decide (db ≤ p.2) && donorV e b0 p.1 && !busy.contains p.1)
  let rcvs := (excSortUp ex).filter (fun p => decide (p.2 ≤ -db) && rcvV e b0 p.1 && !busy.contains p.1)
  let plan := if b0.role = .standby then shPlans e b0 else shOrdering e b0
  let new := if plan then pairUp e b0 donors rcvs (e.get SHUTTLE_PLAN_MAX_ORDERS) (b0.get SHUTTLE_NEXT_ID_ID) [] else []
  let hi := (excSort ex).head?
  let lo := (excSortUp ex).head?
  let spread := ((hi.map Prod.snd).getD 0 - (lo.map Prod.snd).getD 0) * 10 / (cn : Int)
  let sp := (max 0 (min 65535 spread)).toNat
  let alarm := decide (e.get SHUTTLE_PLAN_SPREAD_ALARM < sp)
  let b1 := ((((b0.put SHUTTLE_SPREAD sp).put SHUTTLE_TOP_DONOR ((hi.map Prod.fst).getD 0x3FF)).put SHUTTLE_TOP_RECEIVER
    ((lo.map Prod.fst).getD 0x3FF)).put SHUTTLE_COUNTS_ELIGIBLE_LOW (ex.length % 256)).put SHUTTLE_PLAN_DIGEST_DIGEST (planDigest new)
  let b2 := modShut (fun s => { s with spreadAt := if alarm then some (s.spreadAt.getD (e.now + sec 3600)) else none })
    (if alarm then b1 else endExc e SRC_SPREAD_HIGH 0 b1)
  if b2.role = .standby then shuttleShow e b2 else
  let all := b2.shuttle.xfers ++ new
  let b3 := (((b2.put SHUTTLE_COUNTS_ORDERS_LAST (min 255 new.length)).bump SHUTTLE_CNT_ORDERS new.length).put SHUTTLE_NEXT_ID_ID
    ((b2.get SHUTTLE_NEXT_ID_ID + new.length) % 65536)).put SHUTTLE_STA_SLOTS_FULL (boolBit (decide (144 ≤ (slotsBusy all).length)))
  let b4 := b3.put SHUTTLE_STA_BUS_FULL (boolBit (decide (e.get SHUTTLE_I_CELL_BUS_LIM ≤
    (all.filter (fun x => x.bus && x.open_)).length)))
  shuttleShow e (chainAsk e (new.flatMap (orderFrames e b4)) (modShut (fun s => { s with xfers := all }) b4))

/-- R283: the spread has stayed above the alarm for 1 h. -/
def spreadHigh (e : Env) (b : Blk) : Blk :=
  onlyIf ((b.shuttle.spreadAt.map (fun t => decide (t ≤ e.now))).getD false)
    (beginExc e SRC_SPREAD_HIGH 0 0 (b.get SHUTTLE_SPREAD) (e.get SHUTTLE_PLAN_SPREAD_ALARM)) b

/-- SH_STOP for a transfer on the CMUs that hold a slot of it (R275). -/
def sendStop (e : Env) (x : Xfer) (b : Blk) : Blk :=
  if ¬ b.owner then b else chainAsk e (x.poss.map (fun p => reqTo b true p 0x11 (leBytes 2 x.tid))) b

def modXfer (tid : Nat) (f : Xfer → Xfer) (b : Blk) : Blk :=
  modShut (fun s => { s with xfers := s.xfers.map (fun (x : Xfer) => if x.tid = tid then f x else x) }) b

/-- R279: an order or half is refused: a local or sole half leaves; the accepted half of the other CMU is stopped. -/
def shAck (p tid slot status : Nat) (e : Env) (b : Blk) : Blk :=
  match b.shuttle.xfers.find? (fun x => x.tid == tid && x.poss.contains p) with
  | none => b
  | some x =>
    let isD := x.slotD.map (· / 4) == some p
    if status = 0 then
      modXfer tid (fun x => if isD then { x with ackD := true, slotD := some (4 * p + slot % 4) }
        else { x with ackR := true, slotR := some (4 * p + slot % 4) }) b
    else
      let b1 := raise e SRC_SHUTTLE_NACK p 0 0 (b.bump SHUTTLE_CNT_NACKS)
      let other := if isD then x.slotR else x.slotD
      match other with
      | none => shuttleShow e (dropXfer e x b1)
      | some _ =>
        let y := if isD then { x with slotD := none, ackD := true, doneD := true, seenD := true, st := 4, stopped := true, void := true }
          else { x with slotR := none, ackR := true, doneR := true, seenR := true, st := 4, stopped := true, void := true }
        shuttleShow e (sendStop e y (modXfer tid (fun _ => y) (slotFree e ((if isD then x.slotD else x.slotR).getD 0) b1)))

/-- R279: an order is not acknowledged by 100 µs before its start. -/
def orderAckTimeout (tid : Nat) (e : Env) (b : Blk) : Blk :=
  match b.shuttle.xfers.find? (fun x => x.tid == tid) with
  | none => b
  | some x =>
    if (x.ackD ∧ x.ackR) ∨ e.now + us 100 < x.startAt ∨ x.st ≠ 1 then b else
    raise e SRC_SHUTTLE_NACK ((x.slotD.getD 0) / 4) 0 0
      (sendStop e x (modXfer tid (fun x => { x with st := 4, stopped := true, void := true }) (b.bump SHUTTLE_CNT_NACKS)))

/-- The end of a half at a CMU: its slot is free (R276). A transfer whose halves have both ended is ended. -/
def halfDone (e : Env) (p : Nat) (x : Xfer) (b : Blk) : Blk :=
  let d := x.slotD.map (· / 4) == some p && !x.doneD
  let r := x.slotR.map (· / 4) == some p && !x.doneR
  let y := { x with doneD := x.doneD || d, doneR := x.doneR || r }
  let y := if y.doneD ∧ y.doneR then { y with st := 3 } else y
  let b1 := if d then slotFree e (x.slotD.getD 0) b else b
  modXfer x.tid (fun _ => y) (if r then slotFree e (x.slotR.getD 0) b1 else b1)

/-- R278: a transfer with both final counts leaves the table: its loss, and its efficiency judged. -/
def settle (e : Env) (x : Xfer) (b : Blk) : Blk :=
  if ¬ (x.doneD ∧ x.doneR ∧ x.seenD ∧ x.seenR) then b else
  let b1 := modShut (fun s => { s with loss := s.loss + ((x.gave : Int) - x.got) }) (dropXfer e x b)
  if 0 < x.gave ∧ 100 * x.got < e.get SHUTTLE_PLAN_EFF_MIN * x.gave then
    raise e SRC_SHUTTLE_EFF_LOW 0 (100 * x.got / x.gave) (e.get SHUTTLE_PLAN_EFF_MIN) b1 else b1

/-- No half of the transfer has ended yet. -/
def Xfer.whole (x : Xfer) : Bool := !x.doneD && (!x.bus || !x.doneR)

/-- R276: an SH_STOPPED answer frees the slot; `moved` in mC. The charge comes with the next report. -/
def shStopped (p tid moved : Nat) (e : Env) (b : Blk) : Blk :=
  match b.shuttle.xfers.find? (fun x => x.tid == tid && x.poss.contains p) with
  | none => b
  | some x => shuttleShow e (halfDone e p x (if moved < x.q ∧ x.whole then b.bump SHUTTLE_CNT2_STOPS else b))

/-- What a report says of one of a CMU's four slots: transfer, state and status. -/
def slotReport (p : Nat) (s : Nat × Nat × Nat) (e : Env) (b : Blk) : Blk :=
  match b.shuttle.xfers.find? (fun x => x.tid == s.1 && x.poss.contains p) with
  | none => b
  | some x =>
    let half := if x.slotD.map (· / 4) = some p then x.doneD else x.doneR
    let b1 := if s.2.2 = 6 ∧ ¬ half then raise e SRC_SHUTTLE_BUS_FAULT p 0 0 b else b
    if s.2.1 = 3 ∨ s.2.1 = 4 then
      halfDone e p x (if s.2.1 = 4 ∧ x.whole ∧ x.gave < x.q then b1.bump SHUTTLE_CNT2_STOPS else b1)
    else if s.2.1 = 2 ∧ x.startAt + ms (10 * x.limit + 100) < e.now ∧ ¬ x.stopped then
      raise e SRC_TRANSFER_TIMEOUT p 0 0 (sendStop e x (modXfer x.tid (fun x => { x with st := 4, stopped := true })
        (b1.bump SHUTTLE_CNT2_TIMEOUTS)))
    else if s.2.1 = 2 ∧ x.st = 1 then modXfer x.tid (fun x => { x with st := 2 }) b1
    else b1

/-- The report's counts are final for the halves at a CMU that have ended and that its slots no longer show waiting or running. A stopped
order that no slot shows never ran. -/
def countsSeen (p : Nat) (slots : List (Nat × Nat × Nat)) (e : Env) (b : Blk) : Blk :=
  (b.shuttle.xfers.filter (fun x => x.poss.contains p)).foldl (fun (y : Blk) x =>
    let shown := slots.any (fun s => s.1 == x.tid && (s.2.1 == 1 || s.2.1 == 2))
    let isD := x.slotD.map (· / 4) == some p
    if shown ∨ ¬ (x.st = 4 ∨ (if isD then x.doneD else x.doneR)) then y else
    let y1 := halfDone e p x y
    let y2 := modXfer x.tid (fun x =>
      if isD then { x with seenD := true, seenR := x.seenR || !x.bus } else { x with seenR := true }) y1
    match y2.shuttle.xfers.find? (fun z => z.tid == x.tid) with
    | some z => settle e z y2
    | none => y2) b

/-- R277: whether a cell's increases are implausible: a step back, or more than the quanta of its transfers since the last report plus
1 C. -/
def cellImplausible (xs : List Xfer) (n rec given : Nat) : Bool :=
  let q := ((xs.filter (fun x => (x.donor == n && !x.seenD) || (x.rcv == n && !x.seenR))).map Xfer.q).sum + 1000
  decide (q < rec) || decide (q < given)

/-- R279: the slots of a CMU's report that wait or run for a transfer the table does not hold there. -/
def otherSlots (p : Nat) (slots : List (Nat × Nat × Nat)) (xs : List Xfer) : List Nat :=
  (mapIdx (fun k (s : Nat × Nat × Nat) => if (s.2.1 = 1 ∨ s.2.1 = 2) ∧ ¬ xs.any (fun x => x.tid == s.1 && x.poss.contains p)
    then [4 * p + k] else []) 0 slots).flatten

/-- R276 to R278: an SH_REPORT: the 16 cumulative counts (received, given) in mC and the four slots. The ledger takes the
increases in the frame of the next sweep that closes. -/
def shReport (p : Nat) (cnts : List (Nat × Nat)) (slots : List (Nat × Nat × Nat)) (e : Env) (b : Blk) : Blk :=
  match (cmuAt b p).bind CmuRec.serves with
  | none => b
  | some g =>
    let old := (b.shuttle.reps.find? (fun r => r.1 == g)).map Prod.snd
    let inc := mapIdx (fun j (c : Nat × Nat) => match old.bind (fun o => o[j]?) with
      | some o => (cntRise o.1 c.1, cntRise o.2 c.2)
      | none => (0, 0)) 0 cnts
    let xs := b.shuttle.xfers
    let b1 := modShut (fun s => { s with
      reps := s.reps.filter (fun r => r.1 != g) ++ [(g, cnts)]
      haltPos := s.haltPos.filter (· != p)
      lostPos := s.lostPos.filter (· != p)
      total := s.total + ((xs.filter (fun x => x.donor / 16 == g && !x.seenD)).map (fun x =>
        ((inc[x.donor % 16]?).map Prod.snd).getD 0)).sum
      xfers := xs.map (fun (x : Xfer) => { x with
        gave := x.gave + (if x.donor / 16 = g ∧ ¬ x.seenD then ((inc[x.donor % 16]?).map Prod.snd).getD 0 else 0)
        got := x.got + (if x.rcv / 16 = g ∧ ¬ x.seenR then ((inc[x.rcv % 16]?).map Prod.fst).getD 0 else 0) }) }) b
    let wrong := (mapIdx (fun j (i : Nat × Nat) => cellImplausible xs (16 * g + j) i.1 i.2) 0 inc).any id ||
      b1.shuttle.xfers.any (fun x => x.poss.contains p && decide (x.gave < x.got) && (x.seenD || x.slotD.map (· / 4) == some p))
    let b2 := modLed (fun l => { l with repQ := l.repQ ++ [(g, (inc ++ List.replicate (16 - inc.length) (0, 0)) ++
      [(boolBit wrong, 0)])] }) b1
    let b3 := b2.put SHUTTLE_STA_HALTED (boolBit (!b2.shuttle.haltPos.isEmpty))
    let b4 := if wrong then raise e SRC_SHUTTLE_COUNT_FAULT p 0 0 (nvRequest .retained (blockCmu p b3)) else b3
    let b5 := modShut (fun s => { s with other := s.other.filter (fun k => k / 4 != p) ++ otherSlots p slots xs }) b4
    shuttleShow e (countsSeen p slots e (slots.foldl (fun x s => slotReport p s e x) b5))

/-! ### The CMUs' answers (R275) -/

/-- R275: the payload of `len` bytes of a shuttle response of a position that arrives at an end in use, in service. -/
def shFrame (b : Blk) (endB : Bool) (p type len : Nat) (f : List Byte) : Option (List Byte) :=
  match chainParse f with
  | some (src, ty, _, q) =>
    if b.running ∧ src = p ∧ ty = type ∧ q.length = len ∧ (ringEnds b (ringOf p)).contains (2 * ringOf p + boolBit endB) then some q
    else none
  | none => none

/-- SH_ACK: transfer, slot and status. -/
def shAckIn (ring : Nat) (endB : Bool) (p : Nat) (f : List Byte) (e : Env) (b : Blk) : Blk :=
  match shFrame b endB p 0x90 4 f with
  | some q => onlyIf (ring == ringOf p) (shAck p (leVal (slice q 0 2)) (leVal (slice q 2 1)) (leVal (slice q 3 1)) e) b
  | none => b

/-- SH_STOPPED: transfer and the charge moved. -/
def shStoppedIn (endB : Bool) (p : Nat) (f : List Byte) (e : Env) (b : Blk) : Blk :=
  match shFrame b endB p 0x91 6 f with
  | some q => shStopped p (leVal (slice q 0 2)) (leVal (slice q 2 4)) e b
  | none => b

/-- The counts, received and given, of an SH_REPORT's payload: they follow the sweep ID. -/
def reportCnts (q : List Byte) : List (Nat × Nat) :=
  (List.range 16).map (fun j => (leVal (slice q (1 + 8 * j) 4), leVal (slice q (5 + 8 * j) 4)))

/-- Its four slots: transfer, state and status. -/
def reportSlots (q : List Byte) : List (Nat × Nat × Nat) :=
  (List.range 4).map (fun k => (leVal (slice q (129 + 4 * k) 2), leVal (slice q (131 + 4 * k) 1), leVal (slice q (132 + 4 * k) 1)))

/-- SH_REPORT: the sweep ID, the counts and the slots. -/
def shReportIn (endB : Bool) (p : Nat) (f : List Byte) (e : Env) (b : Blk) : Blk :=
  match shFrame b endB p 0x92 145 f with
  | some q => shReport p (reportCnts q) (reportSlots q) e b
  | none => b

/-- R276, R280: a report of a CMU is due: after the first sweep at or after the expected end of a transfer of it, once in a plan cycle while
a transfer of it is open or not yet reported, after SH_HALT, and every 10 s. -/
def reportDue (e : Env) (b : Blk) (p : Nat) : Bool :=
  let xs := b.shuttle.xfers.filter (fun x => x.poss.contains p)
  let asked := fun (t : Nat) => b.shuttle.readAt.any (fun r => r.1 == p && decide (t ≤ r.2))
  let swept := (b.ledger.last.map Lat.at_).getD 0
  !b.chain.wait.any (fun r => r.type == 0x12 && r.pos == p) &&
    (b.shuttle.haltPos.contains p || !asked (e.now + 1 - sec 10) || (!xs.isEmpty && !asked b.shuttle.planAt) ||
      (!asked swept && xs.any (fun x => x.st == 2 && decide (x.startAt + ms (10 * x.q / max 1 x.cur) ≤ swept))))

/-- R276: SH_REPORT_READ is sent to a CMU whose report is due. -/
def shReportRead (p : Nat) (e : Env) (b : Blk) : Blk :=
  onlyIf (b.running && b.owner && ((cmuAt b p).map (fun m => m.state != 0 && m.state != 5)).getD false && reportDue e b p)
    (fun b => chainAsk e [reqTo b true p 0x12 []]
      (modShut (fun s => { s with readAt := s.readAt.filter (fun r => r.1 != p) ++ [(p, e.now)] }) b)) b

/-- R270: the filtered string current and its direction. -/
def directionStep (e : Env) (dQ : Int) (dT : Nat) (b : Blk) : Blk :=
  let tau := sec (e.get SHUTTLE_DIR_TAU)
  let i := b.shuttle.iF + divZero (dQ * 200000000000 - b.shuttle.iF * dT) tau
  let h : Int := e.get SHUTTLE_DIR_HYST * 1000000000
  modShut (fun s => { s with iF := i, dir := if h < i then 2 else if i < -h then 1 else s.dir }) b

/-- R271: running transfers of a cell that became ineligible are stopped, unless their quantum has been reached. -/
def stopIneligible (e : Env) (b : Blk) : Blk :=
  (b.shuttle.xfers.filter (fun x => (x.st == 1 || x.st == 2) && decide (x.gave < x.q) &&
    !(holdsCell e b x.donor && holdsCell e b x.rcv && donorV e b x.donor && rcvV e b x.rcv))).foldl (fun y x =>
      sendStop e x (modXfer x.tid (fun x => { x with st := 4, stopped := true }) y)) b

/-- A transfer whose start instant has come runs (R267). -/
def startXfers (e : Env) (b : Blk) : Blk :=
  modShut (fun s => { s with xfers := s.xfers.map (fun (x : Xfer) => if x.st = 1 ∧ x.startAt ≤ e.now then { x with st := 2 } else x) }) b

/-- SHUTTLE's part of a frame (R270, R271, R272). -/
def shuttleFrame (e : Env) (dQ : Int) (dT : Nat) (b : Blk) : Blk :=
  let b1 := directionStep e dQ dT (startXfers e b)
  shuttleShow e (modShut (fun s => { s with frames := s.frames + 1 }) (stopIneligible e b1))

end Sys2Proof.Machine
end

