-- ==== Sys2Proof/Machine/Frame.lean ====
section
/-! DEFINITION. The close of a sweep (R213) and the frame it starts (R34, R236): cell table, stale cells, cell limits, sum of
cells, ledger, limits and shuttle. -/

namespace Sys2Proof.Machine

/-- The positions a sweep waits for: configured ones that are neither absent nor retired (R213). -/
def awaited (b : Blk) : List Nat :=
  (List.range 40).filter (fun p => ((cmuAt b p).map (fun m => m.serves.isSome && m.state != 0 && m.state != 5)).getD false)

/-- R213: a sweep may close. -/
def closable (e : Env) (b : Blk) (s : Sweep) : Bool :=
  s.lat.isSome && ((awaited b).all (fun p => s.has p) ||
    decide (1000 * (e.get CHAIN_SWEEP_DEADLINE_DEADLINE : Int) ≤ sdiff32 e.clk.ns1 s.t))

/-- The data a closing sweep has for a position, and whether it came from the partner (R214). -/
def copyFor (s : Sweep) (p : Nat) : Option (SwData × Bool) :=
  if s.owTakes p then none
  else match s.good.find? (fun g => g.1 == p) with
    | some g => some (g.2, false)
    | none => (s.raw.find? (fun g => g.1 == p)).map (fun g => (g.2, true))

/-- R214: the cells that the module lacks are filled from the partner's copies. -/
def fillVia (e : Env) (s : Sweep) (b : Blk) : Blk :=
  (List.range 40).foldl (fun x p => match copyFor s p with
    | some (d, true) => fillCopy e s p d true x
    | _ => x) b

/-- R213, R215: a cell at a close: whether it has a fresh value, and whether its age exceeds T_stale. -/
def closeCell (limit now : Nat) (fresh : Bool) (c : CellRec) : CellRec :=
  let st := c.has && decide (c.at_ + limit < now)
  { c with fresh := fresh, stale := st, staleAt := if st then some (c.staleAt.getD now) else none }

/-- The cells and the records of their CMUs at a close; a CMU without a copy of its own breaks its run of timing errors (R205). -/
def closeCells (e : Env) (s : Sweep) (b : Blk) : Blk :=
  (List.range 40).foldl (fun (x : Blk) p =>
    match cmuAt x p with
    | none => x
    | some m =>
      let run := if s.has p then m.errRun else 0
      match m.serves with
      | none => modCmu p (fun m => { m with errRun := run }) x
      | some g =>
        let got := (copyFor s p).isSome
        modChain (fun c => { c with
          cmus := modAt c.cmus p (fun m => { m with errRun := run, missed := if got then m.missed else min 255 (m.missed + 1) })
          cells := mapIdx (fun n (k : CellRec) =>
            if n / 16 = g then closeCell (20000 * e.get CHAIN_STALE_T_STALE) e.now got k else k) 0 c.cells }) x) b

/-- Whether a cell, with its substitutes (R223), lies above OV (or below UV). -/
def beyond (e : Env) (b : Blk) (ov : Bool) (n : Nat) (c : CellRec) : Bool :=
  let lim : Int := e.get (if ov then CHAIN_CELL_LIM_OV else CHAIN_CELL_LIM_UV)
  let mar : Int := 100 * e.get CHAIN_OW_CFG_MARGIN
  let cmp := fun (v l m : Int) => if ov then decide (l - m < v) else decide (v < l + m)
  match servingCmu b n with
  | none => cmp c.v lim 0
  | some m =>
    if c.endWire then cmp (endSubst b n m) lim mar
    else match (if c.unsure then pairOf m.wires n else none) with
      | some k => cmp (c.v + ((b.chain.cells[k]?.map CellRec.v).getD 0)) (2 * lim) mar
      | none => cmp c.v lim 0

/-- R218: the counts of consecutive fresh values beyond the limits. Aged values keep the counts. -/
def limitCounts (e : Env) (b : Blk) : Blk :=
  modChain (fun c => { c with cells := mapIdx (fun n (x : CellRec) =>
    if x.fresh then { x with
      ovN := if beyond e b true n x then x.ovN + 1 else 0
      uvN := if beyond e b false n x then x.uvN + 1 else 0 } else x) 0 c.cells }) b

/-- R218: the conditions of CELL_OV and CELL_UV. An excursion that runs ends at a fresh value within the limit. -/
def limitConds (e : Env) (b : Blk) : List Cond :=
  let n := e.get CHAIN_CELL_LIM_N_N
  ((mapIdx (fun k (c : CellRec) => (k, c)) 0 b.chain.cells).take (cellCount b)).flatMap (fun p =>
    let held := fun src (cnt : Nat) => decide (n ≤ cnt) || (inExc b src p.1 && (cnt != 0 || !p.2.fresh))
    if p.2.has then
      [⟨held SRC_CELL_OV p.2.ovN, SRC_CELL_OV, p.1, p.1, p.2.v, e.get CHAIN_CELL_LIM_OV⟩,
       ⟨held SRC_CELL_UV p.2.uvN, SRC_CELL_UV, p.1, p.1, p.2.v, e.get CHAIN_CELL_LIM_UV⟩]
    else [])

/-- R215: the conditions of STALE_CELL and STALE_PROTECT, per CMU. -/
def staleConds (e : Env) (b : Blk) : List Cond :=
  (List.range 40).flatMap (fun p =>
    match (cmuAt b p).bind CmuRec.serves with
    | none => []
    | some g =>
      let cs := (groupCells b g).map Prod.snd
      let again := cs.all (fun c => c.fresh)
      let any1 := cs.any (fun c => c.stale)
      let any2 := cs.any (fun c => (c.staleAt.map (fun t => decide (t + ms (e.get CHAIN_STALE_HOLD) ≤ e.now))).getD false)
      [⟨any1 || (inExc b SRC_STALE_CELL p && !again), SRC_STALE_CELL, p, p, 0, 0⟩,
       ⟨any2 || (inExc b SRC_STALE_PROTECT p && !again), SRC_STALE_PROTECT, p, p, 0, 0⟩])

/-- R213: the status of the closed sweep. -/
def showSweep (s : Sweep) (complete : Bool) (via : Bool) (fresh : Nat) (b : Blk) : Blk :=
  let flags := boolBit complete + 2 * boolBit s.split + 4 * boolBit s.auto + 8 * boolBit s.ow + 16 * boolBit via
    + 32 * boolBit s.retried
  showFlight ((((b.put CHAIN_SWEEP_STA_ID s.id).put CHAIN_SWEEP_STA_FLAGS flags).put CHAIN_SWEEP_STA_FRESH (min 63 fresh)).put
    CHAIN_SWEEP_T_T s.t)

/-- R245: the positions whose sweeps bring nothing while they have open transfers, until their next report. -/
def noteLost (s : Sweep) (b : Blk) : Blk :=
  let gone := (List.range 40).filter (fun p => ((cmuAt b p).bind CmuRec.serves).isSome && (copyFor s p).isNone &&
    b.shuttle.xfers.any (fun x => x.open_ && x.poss.contains p))
  modShut (fun h => { h with lostPos := gone.foldl insSet h.lostPos }) b

/-- R245: the charge still to be moved by the open transfers of lost CMUs is added to the bounds of their cells, provisionally. -/
def provisional (b : Blk) : Blk :=
  let xs := b.shuttle.xfers.filter (fun x => x.open_ && x.poss.any b.shuttle.lostPos.contains)
  let due := fun (n : Nat) => ((xs.filter (fun x => x.donor == n || x.rcv == n)).map (fun x => 1000 * (x.q - x.gave))).sum
  modLed (fun l => { l with cells := mapIdx (fun n (c : LCell) => { c with prov := due n }) 0 l.cells }) b

/-- The new raises of a list of conditions include one that halts the shuttle (R280). -/
def haltsShuttle (b : Blk) (cs : List Cond) : Bool :=
  cs.any (fun c => c.holds && (c.src == SRC_CELL_OV || c.src == SRC_CELL_UV) && !inExc b c.src c.obj)

/-- R45, R348: the retry sequences that the deadline cuts are exhausted: counted, without a record of their own. -/
def cutRetries (e : Env) (s : Sweep) (b : Blk) : Blk :=
  (s.retries.filter (fun r => !r.done)).foldl (fun x _ => countOnly e SRC_RETRY_EXHAUSTED (x.bump CHAIN_RETRY_CNT_HIGH)) b

/-- Steps 6 and 7 of R34: LEDGER's frame and SHUTTLE's, with the values latched at T. -/
def frameRun (e : Env) (own : Lat) (mir : Option Lat) (supply : List (Nat × Nat × Nat)) (b : Blk) : Blk × List Raise :=
  let p := b.ledger.last
  let (b1, r) := ledgerFrame e own mir supply (provisional b)
  (shuttleFrame e (b1.ledger.qc - b.ledger.qc) (own.at_ - (p.map Lat.at_).getD own.at_) b1, r)

/-- What LEDGER's state raises. -/
def ledgerConds (b : Blk) : List Cond := pathConds b ++ [anchorCond b]

/-- R164, R262: a STANDBY that follows waits for the partner's values of the frame. -/
def standbyWaits (b : Blk) : Bool := b.twin && b.role == .standby && b.get TWIN_STA_ORPHAN == 0 && b.tw.mir.isSome

/-- The frame that waits runs, with the partner's values where they came. -/
def heldFrame (e : Env) (mir : Option Lat) (b : Blk) : Blk := match b.ledger.hold with
  | none => b
  | some (lat, supply) =>
    let (b1, r) := frameRun e lat mir supply (modLed (fun l => { l with hold := none }) b)
    judgeWith e (ledgerConds b1) r b1

/-- The sources that SAFE's checks of the cells and of HVS raise (R413). -/
def protSrcs : List Nat :=
  [SRC_SHUNT_HALL_MISMATCH, SRC_SUM_MISMATCH, SRC_MID_MISMATCH, SRC_STRING_OV, SRC_STRING_UV, SRC_BUS_OV, SRC_CELL_OV, SRC_CELL_UV]

/-- How often each of them has been raised. -/
def protTotals (b : Blk) : List Nat :=
  protSrcs.map (fun s => ((b.watch.cnt.find? (fun c => c.src == s)).map Cnt.total).getD 0)

/-- R413: which of them the frame raised, since the last close. -/
def noteRaised (b : Blk) : Blk :=
  { b with tw := { b.tw with raised := List.zipWith (fun x y => x != y) (protTotals b) b.tw.totals, totals := protTotals b } }

/-- R213, R34: the earliest sampled sweep closes when every awaited position has a good copy, or at its deadline; the frame's
checks and the ledger follow, and the raises of the frame are judged together. A STANDBY that follows runs the ledger's part with the
partner's values. -/
def closeStep (e : Env) (b : Blk) : Blk :=
  match b.chain.flight.find? (fun s => s.lat.isSome) with
  | none => b
  | some s0 =>
    if ¬ closable e b s0 then b else
    let bv := heldFrame e none (fillVia e s0 b)
    let s := (bv.chain.flight.find? (fun x => x.id == s0.id)).getD s0
    match s.lat with
    | none => b
    | some lat =>
      let b0 := cutRetries e s (modChain (fun c => { c with flight := c.flight.filter (fun x => x.id != s.id) }) bv)
      let b1 := noteLost s (closeCells e s b0)
      let cs := (b1.chain.cells.take (cellCount b1))
      let complete := cs.all (fun c => c.fresh)
      let fresh := ((List.range 40).filter (fun p => ((cmuAt b1 p).bind CmuRec.serves).isSome && (copyFor s p).isSome)).length
      let via := (List.range 40).any (fun p => ((copyFor s p).map Prod.snd).getD false)
      let b2 := limitCounts e (showSweep s complete via fresh b1)
      let sum : Int := (((cs.map CellRec.v).sum / 100 : Nat) : Int)
      let v := (s.mlat.getD lat).v
      let (b3, r1) := sumCheck e (complete && !cs.isEmpty) sum ((v[0]?).getD 0 - (v[3]?).getD 0) b2
      let wait := standbyWaits b3 && s.mlat.isNone
      let (b4, r2) := if wait then (modLed (fun l => { l with hold := some (lat, s.debits) }) b3, [])
        else frameRun e lat s.mlat s.debits b3
      let conds := limitConds e b4 ++ staleConds e b4 ++ (if wait then [] else ledgerConds b4)
      let b5 := if haltsShuttle b4 conds then shuttleHalt b4 else b4
      noteRaised (judgeWith e conds (r1 ++ r2) b5)

/-- SWEEP_CLOSE. -/
def sweepClose (e : Env) (b : Blk) : Blk :=
  if ¬ b.running then b else diagStep e (closeStep e (commitStep e b))

end Sys2Proof.Machine
end

