-- ==== Sys2Proof/Machine/SafeIo.lean ====
section
/-! DEFINITION. SAFE's inputs and outputs: input pairs, their test pulses and discrepancy, edge resets, safe outputs and coil
switch tests (R302 to R319). -/

namespace Sys2Proof.Machine

def modSafe (f : Safe → Safe) (b : Blk) : Blk := { b with safe := f b.safe }

/-! ### Input pairs -/

/-- The function of a pair (R307). -/
def siFunc (e : Env) (n : Nat) : Nat := e.get (SAFE_SI_FUNC_P n)

/-- R307: what the channels of a pair demand; MAINT_KEY is demanded while both are low, every other function while one is. -/
def pairDemand (f : Nat) (a b : Bool) : Bool :=
  if f = 0 then false else if f = 4 then !a && !b else !a || !b

/-- A pair is in its safe direction: demanded, or for MAINT_KEY released (R307); a lock holds it there (R309). -/
def pairSafe (f : Nat) (p : Pair) : Bool := f != 0 && (p.locked || (if f = 4 then !p.dem else p.dem))

/-- The functions that raise a source while demanded (R307). -/
def siSources : List (Nat × Nat) :=
  [(1, SRC_SI_ESTOP), (2, SRC_SI_FIRE_GAS), (3, SRC_SI_DOOR), (5, SRC_SI_HVAC), (6, SRC_SI_EXT_TRIP)]

/-- The conditions of the input sources, pair by pair. -/
def siConds (e : Env) (b : Blk) : List Cond :=
  (mapIdx (fun n (p : Pair) => (n, p)) 0 b.safe.pairs).flatMap (fun q =>
    siSources.map (fun s => ⟨siFunc e q.1 == s.1 && pairSafe s.1 q.2, s.2, q.1, q.1, 0, 0⟩) ++
    [⟨q.2.disc && q.2.locked, SRC_SI_DISCREPANCY, q.1, q.1, 0, 0⟩])

/-- A bitmap over the pairs. -/
def pairMap (f : Nat → Pair → Bool) (b : Blk) : Nat :=
  (mapIdx (fun n (p : Pair) => boolBit (f n p) * 2 ^ n) 0 b.safe.pairs).sum

/-- SAFE.SI_STATE after a change. -/
def siShow (e : Env) (b : Blk) : Blk :=
  let ev := b.get SAFE_SI_STATE_EVALUATING == 1
  (((b.put SAFE_SI_STATE_CH_A (pairMap (fun _ p => p.a) b)).put SAFE_SI_STATE_CH_B (pairMap (fun _ p => p.b) b)).put
    SAFE_SI_STATE_DEMANDED (pairMap (fun n p => ev && pairSafe (siFunc e n) p) b)).put
    SAFE_SI_STATE_LOCKED (pairMap (fun _ p => p.locked) b)

/-- The pairs are evaluated (R306, R307): demands, sources, and the maintenance key, whose release ends MAINTENANCE (R122). The
further conditions `cs` and raises `rs` are of the same cycle, so they are one order with the inputs' raises (R349). -/
def siEvalWith (e : Env) (cs : List Cond) (rs : List Raise) (b : Blk) : Blk :=
  if b.get SAFE_SI_STATE_EVALUATING = 0 ∨ ¬ b.running then judgeWith e cs rs (siShow e b) else
  let b1 := modSafe (fun s => { s with
    pairs := mapIdx (fun n (p : Pair) => { p with dem := pairDemand (siFunc e n) p.a p.b }) 0 s.pairs }) b
  let b2 := judgeWith e (siConds e b1 ++ cs) rs (siShow e b1)
  if b2.mode = .maintenance ∧ ¬ maintKey e b2 ∧ b2.owner then exitMaint e b2 else b2

/-- The pairs are evaluated and nothing else. -/
def siEval (e : Env) (b : Blk) : Blk := siEvalWith e [] [] b

/-- R308: the discrepancy timer of a pair whose channels were equal (`was`) or not before. An agreement within the discrepancy
time stops it. -/
def discStep (e : Env) (assigned was : Bool) (p : Pair) : Pair :=
  if ¬ assigned then { p with discBy := none }
  else if p.a ≠ p.b then
    (if was then { p with discBy := some (p.discBy.getD (e.now + ms (e.get SAFE_DISC_TIME_DISC) + us 50)) } else p)
  else if (p.discBy.map (fun t => decide (e.now + us 50 ≤ t))).getD true then { p with discBy := none } else p

/-- A channel's new filtered level (R302): channels 0 to 11 are A and B of the pairs in turn, 12 SRST_A, 13 SRST_B. -/
def setPair (ch : Nat) (high : Bool) (p : Pair) : Pair := if ch % 2 = 0 then { p with a := high } else { p with b := high }

/-- A press or release of a reset channel (R310). -/
def setSrst (now : Nat) (high : Bool) (r : Srst) : Srst :=
  if high = r.high then r
  else if high then { r with high := true, pressAt := some now, relAt := none }
  else { r with high := false, relAt := some now, lowAt := now }

/-- A test window in CORE periods: the pulse and the recovery time (R303). -/
def tpsWindow (e : Env) : Nat := us (10 * (e.get SAFE_TPS_CFG_WIDTH + e.get SAFE_TPS_CFG_RECOVERY))

/-- The test pulse period in CORE periods (R303). -/
def tpsPeriod (e : Env) : Nat := ms (e.get SAFE_TPS_CFG_PERIOD)

/-- The end of the next test window of TPS0 (0) or TPS1 (1). -/
def tpsTimer (src : Nat) (b : Blk) : Option Nat := if b.safe.tps = .pulsing then b.safe.tpsBy[src]? else none

/-- R304, R305: a channel's filtered level is held: the test window of its own source runs, or ended so lately that no three further
samples lie behind it. -/
def siHeld (e : Env) (b : Blk) (ch : Nat) : Bool :=
  ((tpsTimer (ch % 2) b).map (fun d =>
    (decide (d ≤ e.now + tpsWindow e) && decide (e.now < d + us 100)) ||
    (decide (d ≤ e.now + tpsPeriod e) && decide (e.now + tpsPeriod e < d + us 100)))).getD false

/-- R302: the channels that take a new filtered level: the third of three consecutive samples shows it, and the level is not held. -/
def siTaken (e : Env) (b : Blk) (chs : List (Nat × Bool × Nat)) : List (Nat × Bool) :=
  (chs.filter (fun c => decide (3 ≤ c.2.2) && !(siHeld e b c.1))).map (fun c => (c.1, c.2.1))

/-- The channels' levels are taken over. -/
def siLevels (e : Env) (taken : List (Nat × Bool × Nat)) (b : Blk) : Blk :=
  let old := b.safe.pairs
  let chs := siTaken e b taken
  let b1 := modSafe (fun s => chs.foldl (fun (s : Safe) c =>
    if c.1 < 12 then { s with pairs := modAt s.pairs (c.1 / 2) (setPair c.1 c.2) }
    else if c.1 = 12 then { s with a := setSrst e.now c.2 s.a }
    else if c.1 = 13 then { s with b := setSrst e.now c.2 s.b } else s) s) b
  let b2 := modSafe (fun s => { s with pairs := mapIdx (fun n (p : Pair) =>
    discStep e (siFunc e n != 0 && b.get SAFE_SI_STATE_EVALUATING == 1)
      ((old[n]?.map (fun (q : Pair) => q.a == q.b)).getD false) p) 0 s.pairs }) b1
  (b2.put SAFE_SRST_STA_A_PRESSED (boolBit b2.safe.a.high)).put SAFE_SRST_STA_B_PRESSED (boolBit b2.safe.b.high)

/-- The pairs for emergency stop or external trip with both channels low. -/
def stopPairs (e : Env) (b : Blk) : List Nat :=
  (List.range 6).filter (fun n => (siFunc e n == 1 || siFunc e n == 6) &&
    (b.safe.pairs[n]?.map (fun p => !p.a && !p.b)).getD false)

/-- R68: during a warm boot a pair for emergency stop or external trip with both channels low drops the output latches; SAFE records
the demand when it resumes. -/
def warmStop (e : Env) (b : Blk) : Blk :=
  if stopPairs e b = [] then b else
  modSafe (fun s => { s with warmDemand := (stopPairs e b).foldl insSet s.warmDemand })
    (modTrip (fun t => { t with warmDrop := true }) (dropOutputs e b))

/-- R302: channels show a level in consecutive samples of 50 µs; the filtered levels follow. -/
def siLevelChange (chs : List (Nat × Bool × Nat)) (e : Env) (b : Blk) : Blk :=
  match b.phase with
  | .off => b
  | .coldBoot => siShow e (siLevels e chs b)
  | .warmBoot => siShow e (warmStop e (siLevels e chs b))
  | .run => siEval e (siLevels e chs b)

/-- R307, R308: the discrepancy timers where pairs come under evaluation: one whose channels differ starts, one of a pair without
function stops. -/
def discFresh (e : Env) (b : Blk) : Blk :=
  modSafe (fun s => { s with
    pairs := mapIdx (fun n (p : Pair) => discStep e (siFunc e n != 0 && b.get SAFE_SI_STATE_EVALUATING == 1) true p) 0 s.pairs }) b

/-- R306: the first evaluation, 10 ms after the test pulses start. -/
def siFirstEvaluation (e : Env) (b : Blk) : Blk :=
  siEval e (discFresh e ((modSafe (fun s => { s with evalBy := none }) b).put SAFE_SI_STATE_EVALUATING 1))

/-- A pair is locked in its safe direction (R304, R309); the lock is a retained record. -/
def lockPair (n : Nat) (disc : Bool) (b : Blk) : Blk :=
  nvRequest .retained (modSafe (fun s => { s with
    pairs := modAt s.pairs n (fun p => { p with locked := true, disc := p.disc || disc }) }) b)

/-- R308: the sample after the discrepancy time. -/
def siDiscrepancy (n : Nat) (e : Env) (b : Blk) : Blk :=
  siEval e (lockPair n true (modSafe (fun s => { s with
    pairs := modAt s.pairs n (fun p => { p with discBy := none }) }) b))

def discTimer (n : Nat) (b : Blk) : Option Nat :=
  if b.phase = .run then b.safe.pairs[n]?.bind Pair.discBy else none

/-- The finding for one channel at the end of the window of test source `src` (R304): own test failed, cross-short found. -/
def tpsFinding (src : Nat) (r : TpsRead) : Bool × Bool :=
  (r.ch % 2 == src && (r.high1 || r.high2), r.ch % 2 != src && r.before && r.after && r.low2)

/-- A reset channel's test result. -/
def srstTest (fail : Bool) (r : Srst) : Srst := { r with fail := fail }

/-- R304 for one channel: the pair is locked and its source raised, or the reset channel marked. -/
def tpsOne (e : Env) (src : Nat) (b : Blk) (r : TpsRead) : List Cond × Blk :=
  let (own, cross) := tpsFinding src r
  if r.ch < 12 then
    let n := r.ch / 2
    if siFunc e n = 0 then ([], b) else
    let cs : List Cond := if r.ch % 2 = src then [⟨own, SRC_SI_TEST_FAIL, r.ch, n, 0, 0⟩]
      else [⟨cross, SRC_SI_CROSS, r.ch, n, 0, 0⟩]
    (cs, if own || cross then lockPair n false b else b)
  else if r.ch < 14 then
    let b1 := if own || cross || r.ch % 2 == src then
        modSafe (fun s => if r.ch = 12 then { s with a := srstTest (own || cross) s.a }
          else { s with b := srstTest (own || cross) s.b }) b else b
    ([⟨own || cross || (r.ch % 2 != src && inExc b SRC_SRST_FAULT r.ch), SRC_SRST_FAULT, r.ch, 0, 0, 0⟩],
     b1.put SAFE_SRST_STA_FAULT (boolBit (b1.safe.a.fail || b1.safe.b.fail)))
  else ([], b)

/-- R303: the next window of a source ends a period later; TPS1's pulse starts half a period after TPS0's. -/
def tpsNext (src : Nat) (e : Env) (b : Blk) : Blk :=
  modSafe (fun s => { s with tpsBy := match s.tpsBy with
    | [d0, d1] => if src = 0 then [d0 + tpsPeriod e, d0 + tpsPeriod e / 2] else [d0, d1 + tpsPeriod e]
    | l => l }) b

/-- R304: a test window of TPS0 (0) or TPS1 (1) ends; its readings are judged once the pairs are evaluated (R306). -/
def tpsWindowEnd (src : Nat) (rs : List TpsRead) (e : Env) (b : Blk) : Blk :=
  let b := tpsNext src e b
  if ¬ b.running ∨ b.get SAFE_SI_STATE_EVALUATING = 0 then b else
  let (cs, b1) := rs.foldl (fun (a : List Cond × Blk) r =>
    let (c, x) := tpsOne e src a.2 r
    (a.1 ++ c, x)) ([], b)
  siEvalWith e cs [] b1

/-- The pulse of TPS0 (0) or TPS1 (1) runs (R303). -/
def tpsPulse (e : Env) (b : Blk) (src : Nat) : Bool :=
  ((tpsTimer src b).map (fun d => decide (d ≤ e.now + tpsWindow e) &&
    decide (e.now + us (10 * e.get SAFE_TPS_CFG_RECOVERY) < d))).getD false

/-- TPS0 or TPS1 out of tolerance outside its pulse for `held` µs (R338). -/
def tpsFault (src : Nat) (bad : Bool) (held : Nat) (e : Env) (b : Blk) : Blk :=
  if ¬ b.running ∨ tpsPulse e b src then b else
  judge e (bad && (decide (1000 ≤ held) || inExc b SRC_TPS_FAULT src)) SRC_TPS_FAULT src 0 0 0 b

/-! ### Edge reset (R310 to R312) -/

/-- R310: a reset channel's press lasted 100 ms to 3 s. -/
def pressOk (r : Srst) : Option (Nat × Nat) :=
  match r.pressAt, r.relAt with
  | some p, some q => if p + ms 100 ≤ q ∧ q ≤ p + sec 3 ∧ ¬ r.fail then some (p, q) else none
  | _, _ => none

/-- Two times lie within 500 ms of each other. -/
def near500 (x y : Nat) : Bool := decide (x ≤ y + ms 500) && decide (y ≤ x + ms 500)

/-- R310: the present cycle is the later release of a valid local edge reset. -/
def resetValid (e : Env) (b : Blk) : Bool :=
  match pressOk b.safe.a, pressOk b.safe.b with
  | some (p, q), some (p', q') => near500 p p' && near500 q q' && max q q' == e.now && b.get SAFE_SRST_STA_BLOCKED == 0
  | _, _ => false

/-- R122: what an edge reset needs to end TRIPPED: no source at L3 or above, no thermal latch (R292), and in TWIN a standby that
reports neither latch nor lock (R312). -/
def resetReturns (b : Blk) : Bool :=
  !activeAt b 3 && !b.pwr.latch && (b.role != .active || bitOf (b.get TWIN_PARTNER_BITS) 5)

/-- The mode rule of R122 and R123 at an accepted edge reset. -/
def resetMode (e : Env) (b : Blk) : Blk :=
  if b.owner ∧ resetReturns b ∧ ¬ trippedNow e b then
    match b.mode with
    | .tripped => changeMode e (returnTarget b) b
    | .maintenance => modSeq (fun q => { q with resetSince := true }) b
    | _ => b
  else b

/-- R340, R351: an accepted edge reset ends every event-kind source at L3 or above, except those raised in its own cycle. -/
def resetEvents (e : Env) (b : Blk) : Blk :=
  { b with watch := { b.watch with
      act := b.watch.act.filter (fun a => !(decide ((srcRow a.src).kind = .event) && decide (3 ≤ a.level)) ||
        (cycleOf e b.watch).srcs.contains a.src) } }

/-- The outputs held off or stuck, as SAFE.SO_STATE shows them. -/
def soFailedShow (b : Blk) : Blk :=
  b.put SAFE_SO_STATE_FAILED ((List.range 8).map (fun n => boolBit (bitOf b.safe.soHeld n || bitOf b.safe.soStuck n) * 2 ^ n)).sum

/-- R312: an accepted edge reset: locks, latches, held outputs, then the mode; the Hall path returns to the shunt where R256
allows it. A second one in the same cycle counts with it. -/
def edgeReset (remote : Bool) (e : Env) (b : Blk) : Blk :=
  if b.safe.resetAt = some e.now then b else
  let free := b.safe.pairs.any (fun p => p.locked && p.a && p.b)
  let b1 := modSafe (fun s => { s with
    pairs := s.pairs.map (fun (p : Pair) => if p.locked && p.a && p.b then { p with locked := false, disc := false } else p)
    soHeld := 0, resetAt := some e.now }) b
  let b2 := siEval e (if free then nvRequest .retained b1 else b1)
  let b3 := soFailedShow (resetEvents e (latchClear e b2))
  let b4 := recordRaise e ⟨SRC_OPERATOR_ACTION, if remote then 2 else 1, 0, 0, false, none⟩ (shuntReturn e b3)
  resetMode e (b4.bump (if remote then SAFE_SRST_STA_REMOTE else SAFE_SRST_STA_LOCAL))

/-- R310: the local edge reset, accepted in every mode and in HOLDUP. -/
def edgeResetLocal (e : Env) (b : Blk) : Blk :=
  if b.running ∧ resetValid e b then
    edgeReset false e (modSafe (fun s => { s with
      a := { s.a with pressAt := none, relAt := none }
      b := { s.b with pressAt := none, relAt := none } }) b)
  else b

/-- A reset channel is high for more than 3 s. -/
def pressedLong (e : Env) (r : Srst) : Bool := r.high && ((r.pressAt.map (fun t => decide (t + sec 3 < e.now))).getD false)

/-- R310: BLOCKED is set by a press above 3 s, and cleared once both channels have been low for 100 ms. -/
def srstBlock (e : Env) (b : Blk) : Blk :=
  if ¬ b.running then b
  else if pressedLong e b.safe.a || pressedLong e b.safe.b then b.put SAFE_SRST_STA_BLOCKED 1
  else if ¬ b.safe.a.high ∧ ¬ b.safe.b.high ∧ b.safe.a.lowAt + ms 100 ≤ e.now ∧ b.safe.b.lowAt + ms 100 ≤ e.now then
    b.put SAFE_SRST_STA_BLOCKED 0
  else b

/-- R310: a reset channel high for 60 s. -/
def srstFault (e : Env) (b : Blk) : Blk :=
  if ¬ b.running then b else
  let long := fun (r : Srst) => r.high && ((r.pressAt.map (fun t => decide (t + sec 60 ≤ e.now))).getD false)
  judgeAll e [⟨long b.safe.a, SRC_SRST_FAULT, 14, 0, 0, 0⟩, ⟨long b.safe.b, SRC_SRST_FAULT, 15, 0, 0, 0⟩] b

/-! ### Safe outputs (R313 to R316) -/

/-- R313: the rule of an output's function. -/
def soRule (e : Env) (b : Blk) (n : Nat) : Bool :=
  match e.get (SAFE_SO_FUNC_SO n) with
  | 1 => decide (1 ≤ b.get THERM_STA_COOL_LEVEL)
  | 2 => !activeAt b 1
  | 3 => b.mode == .connected
  | 4 => b.mode != .tripped && !activeAt b 3
  | 5 => bitOf (e.get SAFE_SO_HOST_ON) n
  | 6 => b.get THERM_STA_COOL_LEVEL == 3 ||
      (mapIdx (fun k (p : Pair) => siFunc e k == 2 && pairSafe 2 p) 0 b.safe.pairs).any id
  | _ => false

/-- What an output follows: a STANDBY the state that the active last mirrored (R29), otherwise its own rule (R313, R421). -/
def soWanted (e : Env) (b : Blk) (n : Nat) : Bool :=
  match (if b.role = .standby ∧ b.get TWIN_STA_ORPHAN = 0 then b.tw.mir else none) with
  | some m => bitOf m.so n
  | none => soRule e b n

/-- An output is on: what it follows is on, it is not held off and VCOIL is present (R70); in a warm boot it stays as latched unless
R68 or the AON supervisor dropped the latches (R67, R294); in OFF and a cold boot it is off (R65). -/
def soOn (e : Env) (b : Blk) (n : Nat) : Bool :=
  b.get PWR_STA_VCOIL_OK == 1 && match b.phase with
  | .run => !(bitOf b.safe.soHeld n) && soWanted e b n
  | .warmBoot => bitOf b.safe.soLatch n && b.safe.warmDemand == [] && !b.therm.aonDrop
  | _ => false

def soMap (e : Env) (b : Blk) : Nat := ((List.range 8).map (fun n => boolBit (soOn e b n) * 2 ^ n)).sum

/-- A switch-test or weld pulse runs or lies within 1 ms; other output tests are then deferred (R314, R319). -/
def pulseNear (e : Env) (b : Blk) : Bool :=
  b.seq.ssbTest.isSome || b.seq.pulseBy.isSome ||
  (b.seq.stagger.map (fun p => decide (p.1 ≤ e.now + ms 1))).getD false ||
  (b.seq.pulseEnd.map (fun t => decide (e.now ≤ t + ms 1))).getD false

/-- The next time of a grid after the present. -/
def gridNext (g period now : Nat) : Nat := g + period * ((now - g) / period + 1)

/-- The SO test period in CORE periods (R314). -/
def soPeriod (e : Env) : Nat := ms (e.get SAFE_SO_TEST_PERIOD)

/-- R303, R314, R317: the tests start: TPS0's first pulse at once, TPS1's half a period later, the SO pulses an eighth of their period
apart, the first LS test after a coil test period. DESIGN CHOICE: the phases at the end of a boot (notes/assumptions/82.md). -/
def testsStart (e : Env) (b : Blk) : Blk :=
  modSafe (fun s => { s with
    tps := .pulsing
    tpsBy := [e.now + tpsWindow e, e.now + tpsPeriod e / 2 + tpsWindow e]
    soBy := (List.range 8).map (fun n => (e.now + n * soPeriod e / 8, 0))
    lsBy := some (e.now + sec (e.get SAFE_COIL_TEST_PERIOD), 0) }) b

/-- R337: the tests are suspended; TPS0 and TPS1 stay at a level. -/
def testsStop (d : PinDrive) (b : Blk) : Blk := modSafe (fun s => { s with tps := d, tpsBy := [], soBy := [], lsBy := none }) b

/-- The LS test in turn lies within 1 ms (R314). -/
def lsNear (e : Env) (b : Blk) : Bool :=
  (b.safe.lsAt.map (fun t => decide (e.now ≤ t + ms 1))).getD false ||
  ((b.safe.lsBy.map (fun q => decide (q.1 + q.2 ≤ e.now + ms 1))).getD false && [0, 1, 2].any (inHold b))

/-- The test pulse of one output that is on, for the SO test width. -/
def soPulse (n : Nat) (e : Env) (b : Blk) : Blk :=
  if n < 8 ∧ soOn e b n then b.emit (.soTest n (e.get SAFE_SO_TEST_WIDTH)) else b

/-- R314, R319: an output's test pulse where it is due, a standby's a sixteenth of a period later; near an LS test, a switch-test or
weld pulse it is deferred by 2 ms. -/
def soTestPulse (n : Nat) (e : Env) (b : Blk) : Blk :=
  match b.safe.soBy[n]? with
  | none => b
  | some q =>
    let shift := if b.role = .standby then soPeriod e / 16 else 0
    if ¬ b.running ∨ e.now < q.1 + shift + q.2 then b
    else if pulseNear e b ∨ lsNear e b then modSafe (fun s => { s with soBy := setAt s.soBy n (q.1, q.2 + ms 2) }) b
    else soPulse n e (modSafe (fun s => { s with soBy := setAt s.soBy n (gridNext q.1 (soPeriod e) (e.now - shift), 0) }) b)

/-- SAFE.CTL SO_TEST_NOW: every output that is on gives one test pulse, in MAINTENANCE only. -/
def soTestNow (e : Env) (b : Blk) : Blk := hostCmd (fun b =>
  if b.mode = .maintenance then
    finish .ok (if pulseNear e b ∨ lsNear e b then b else (List.range 8).foldl (fun x n => soPulse n e x) b)
  else finish .denied b) b

/-- R315: a reading of an output's pin, high, low or neither. `at_` is 0 outside a pulse, 1 the last reading of a pulse, 2 after a
pulse; `run` counts the consecutive equal readings of 10 µs. The answer: SO_READBACK, SO_STUCK_ON. -/
def soViolation (on high low : Bool) (at_ run : Nat) : Bool × Bool :=
  if on then
    (if at_ = 1 then (false, !low) else if at_ = 2 then (!high && decide (5 ≤ run), false) else (low && decide (3 ≤ run), false))
  else (false, high && decide (100 ≤ run))

/-- R315: the readback of an output's pin, `v` in 10 mV: high from VCOIL − 3 V, low to 3 V; a failed one is held off until an edge reset, a stuck one is reported. -/
def soReadback (n at_ run v : Nat) (e : Env) (b : Blk) : Blk :=
  if ¬ b.running ∨ 8 ≤ n then b else
  let high := decide (b.get PWR_SUPPLY_VCOIL ≤ v + 300)
  let low := decide (v ≤ 300)
  let (rb, st) := soViolation (soOn e b n) high low at_ run
  let rd := b.put SAFE_SO_STATE_READBACK (setBit (b.get SAFE_SO_STATE_READBACK) n high)
  let stuck := st || (!low && bitOf b.safe.soStuck n)
  let b1 := modSafe (fun s => { s with
    soHeld := if rb then setBit s.soHeld n true else s.soHeld
    soStuck := setBit s.soStuck n stuck }) rd
  judgeWith e [⟨stuck, SRC_SO_STUCK_ON, n, n, 0, 0⟩] (if rb then [{ src := SRC_SO_READBACK, code := n }] else []) (soFailedShow b1)

/-! ### Coil switch tests (R317) -/

/-- The result of a test of coil switch `sw` (SAFE.COIL_TEST_STA order: 2 × coil for HS, one more for LS). -/
def coilSwitch (e : Env) (sw : Nat) (pass : Bool) (b : Blk) : Blk :=
  let b1 := (b.put SAFE_COIL_TEST_STA_PASS (setBit (b.get SAFE_COIL_TEST_STA_PASS) sw pass)).put SAFE_COIL_TEST_STA_FAILED
    (setBit (b.get SAFE_COIL_TEST_STA_FAILED) sw (!pass))
  judge e (!pass) SRC_COIL_SW_FAIL sw (2 ^ sw) 0 0 b1

/-- The coil tested next: KP, KN and KC in turn among the held ones. -/
def nextTestCoil (b : Blk) : Option Nat :=
  ([b.safe.testCoil, b.safe.testCoil + 1, b.safe.testCoil + 2].map (fun k => k % 3)).find? (inHold b)

/-- The window in which the standby may test the switch of coil `k` stands at this time (R317): the one the ACTIVE announced, as it
keeps it or as its standby received it. -/
def testWindow (e : Env) (b : Blk) (k : Nat) : Bool :=
  match (if b.role = .standby then b.tw.mir.bind Mirror.win else b.safe.win) with
  | some (j, s, z) => j == k && decide (0 ≤ sdiff32 e.clk.ns1 s) && decide (sdiff32 e.clk.ns1 z ≤ 0)
  | none => false

/-- R317: the ACTIVE announces the window in which its standby tests the same coil: from 1 ms to 2 ms after its own test. -/
def testAnnounce (k : Nat) (e : Env) (b : Blk) : Blk :=
  if b.role = .active then
    modSafe (fun s => { s with win := some (k, (e.clk.ns1 + 1000000) % 2 ^ 32, (e.clk.ns1 + 2000000) % 2 ^ 32) }) b
  else b

/-- R317: the LS test of a coil: the pulse, and the result of its two checks. -/
def lsTest (k : Nat) (pass : Bool) (e : Env) (b : Blk) : Blk :=
  coilSwitch e (2 * k + 1) pass
    (testAnnounce k e ((modSafe (fun s => { s with testCoil := (k + 1) % 3, lsAt := some e.now })
      (b.emit (.coilTest k (e.get SAFE_COIL_TEST_WIDTH)))).bump SAFE_COIL_TEST_STA_TESTS))

/-- R317, R319: the LS test of a held coil in its turn once it is due, near a switch-test or weld pulse 2 ms later; on a STANDBY in the
announced window of that coil. Or, in the first 200 µs of a pick of coil `k`, the check that LS is open, which module Y does not make.
`high` tells whether the LS pin reached VCOIL − 2 V in time, `low` whether it fell below 2 V within 20 µs of reclosing. -/
def coilLsTest (k : Nat) (high low : Bool) (e : Env) (b : Blk) : Blk :=
  if ¬ b.running then b else
  match b.seq.picks.find? (fun p => p.1 == k) with
  | some p =>
    if ¬ seriesMode b ∧ e.now + ms (e.get SAFE_COIL_PICK_PICK) ≤ p.2 + us 200 then coilSwitch e (2 * k + 1) high b else b
  | none =>
    if b.role = .standby then
      (if inHold b k ∧ testWindow e b k ∧ ¬ pulseNear e b then lsTest k (high && low) e b else b)
    else match b.safe.lsBy with
      | none => b
      | some q =>
        if e.now < q.1 + q.2 ∨ nextTestCoil b ≠ some k ∨ testWindow e b k then b
        else if pulseNear e b then modSafe (fun s => { s with lsBy := some (q.1, q.2 + ms 2) }) b
        else lsTest k (high && low) e (modSafe (fun s => { s with
          lsBy := some (gridNext q.1 (sec (e.get SAFE_COIL_TEST_PERIOD)) e.now, 0) }) b)

/-- R141, R295: a pending change of duty or frequency takes effect at this PWM period. -/
def pwmApply (k : Nat) (b : Blk) : Blk :=
  let b1 := b.put (dutyFld k) ((b.therm.coils[k]?.map Coil.nextDuty).getD (b.get (dutyFld k)))
  { b1 with therm := { b1.therm with
      coils := modAt b1.therm.coils k (fun c => { c with freq := bandFreq (b.get THERM_STA_BAND) }) } }

/-- R317: this module judges its readback of coil `k` now: a STANDBY only in the announced window, its partner outside it. -/
def readsBack (e : Env) (b : Blk) (k : Nat) : Bool :=
  if b.role = .standby then testWindow e b k else !(b.role == .active && testWindow e b k)

/-- R141, R317: a hold PWM period: a pending band change is applied, and the HS readback judged; of a released coil only the low
level. `low` and `high` tell whether the HS pin passed its off and on checks; on module Y, in series mode, `high` that its two pins
differ by less than 2 V while the switch is closed, `low` that no current flows while it is open. -/
def coilPwmPeriod (k : Nat) (low high : Bool) (e : Env) (b : Blk) : Blk :=
  if k ≥ 3 ∨ ¬ b.running then b else
  let b1 := if ¬ seriesMode b ∧ inHold b k then pwmApply k b else b
  if ¬ readsBack e b k then b1
  else if seriesMode b then
    (if commanded b k then coilSwitch e (2 * k) high b1 else if ¬ low then coilSwitch e (2 * k) false b1 else b1)
  else if inHold b k then coilSwitch e (2 * k) (low && high) b1
  else if ¬ commanded b k ∧ ¬ low then coilSwitch e (2 * k) false b1 else b1

end Sys2Proof.Machine
end

