-- ==== Sys2Proof/Machine/Psf.lean ====
section
/-! DEFINITION. Pollor Safe Frame telegrams, their watchdog and nets, and the parameter check value (R320 to R335, R449). -/

namespace Sys2Proof.Machine

def modPsf (f : Psf → Psf) (b : Blk) : Blk := { b with psf := f b.psf }

/-! ### Ethernet frames -/

/-- An Ethernet II frame from its destination address on, without its FCS; `tag` is an IEEE 802.1Q tag's PCP and VID. -/
structure EthF where
  dst : List Byte
  src : List Byte
  tag : Option (Nat × Nat)
  etype : Nat
  body : List Byte
deriving DecidableEq, Repr

/-- R393, R395: a received frame's length, without its FCS, lies within 64 to 1,522 bytes with it. -/
def frameSized (bs : List Byte) : Bool := decide (60 ≤ bs.length) && decide (bs.length ≤ 1518)

/-- The parts of a frame of a right length (R395). -/
def ethParse (bs : List Byte) : Option EthF :=
  if ¬ frameSized bs then none else
  let t := beVal (slice bs 12 2)
  if t = 0x8100 then
    let v := beVal (slice bs 14 2)
    some ⟨slice bs 0 6, slice bs 6 6, some (v / 8192, v % 4096), beVal (slice bs 16 2), bs.drop 18⟩
  else some ⟨slice bs 0 6, slice bs 6 6, none, t, bs.drop 14⟩

/-- A frame's bytes. -/
def EthF.bytes (f : EthF) : List Byte :=
  f.dst ++ f.src ++ (match f.tag with
    | some (p, v) => beBytes 2 0x8100 ++ beBytes 2 (p * 8192 + v)
    | none => []) ++ beBytes 2 f.etype ++ f.body

/-- The unicast address of a port (R106): SYS.MAC_A or SYS.MAC_B, byte 0 in the low bits. -/
def portMac (b : Blk) (port : Nat) : List Byte :=
  if port = 0 then leBytes 4 (b.get SYS_MAC_A_LO) ++ leBytes 2 (b.get SYS_MAC_A_HI)
  else leBytes 4 (b.get SYS_MAC_B_LO) ++ leBytes 2 (b.get SYS_MAC_B_HI)

def modPort (p : Nat) (f : PortS → PortS) (b : Blk) : Blk := { b with ports := modAt b.ports p f }

/-- The end of the pause that a port has received (R396). -/
def pauseEnd (b : Blk) (p : Nat) : Nat := ((b.ports[p]?).map PortS.pauseTill).getD 0

/-- R397: a frame waits behind those of its PCP and above. -/
def txInsert : List (Nat × List Byte) → Nat × List Byte → List (Nat × List Byte)
  | [], x => [x]
  | y :: l, x => if x.1 ≤ y.1 then y :: txInsert l x else x :: y :: l

def modTim (f : Tim → Tim) (b : Blk) : Blk := { b with tim := f b.tim }

/-- The queues of a port. -/
def portQ (b : Blk) (p : Nat) : PortQ := if p = 0 then b.tim.qa else b.tim.qb
def modQ (p : Nat) (f : PortQ → PortQ) (b : Blk) : Blk :=
  modTim (fun t => if p = 0 then { t with qa := f t.qa } else { t with qb := f t.qb }) b

/-- A base's counter, 32.24 ns, and its whole ns: 0 TB0, 1 TB1, 2 TB2. -/
def baseFix (e : Env) (n : Nat) : Nat := match n with
  | 0 => e.clk.tb0
  | 1 => e.clk.tb1
  | _ => e.clk.tb2
def baseNs (e : Env) (n : Nat) : Nat := baseFix e n / 2 ^ 24

/-- How far an entry's time lies ahead of its base, ns. -/
def lqAhead (e : Env) (x : LqE) : Int := sdiff32 x.time (baseNs e x.base)

/-- The time a frame of `n` bytes takes on a port's wire, ns, with padding, preamble and FCS. -/
def wireNs (b : Blk) (p n : Nat) : Nat :=
  if b.get (PORT_LINK_SPEED p) = 1 then (max 60 n + 12) * 8 else (max 60 n + 12) * 16 / 5

/-- The frames a port holds. -/
def portTxq (b : Blk) (p : Nat) : List (Nat × List Byte) := ((b.ports[p]?).map PortS.txq).getD []

/-- When a port's wire is free: the CORE period in which the frame on it has ended. -/
def wireEnd (b : Blk) (p : Nat) : Nat := ((b.ports[p]?).map PortS.busyTill).getD 0

/-- When a port may send: no PAUSE stops it (R396) and no frame is on its wire (R381). -/
def wayEnd (b : Blk) (p : Nat) : Nat := max (pauseEnd b p) (wireEnd b p)

/-- R114: the hold time of a response counts from its first sending. -/
def cacheSent (now : Nat) (bytes : List Byte) (b : Blk) : Blk :=
  let body := bytes.drop (if beVal (slice bytes 12 2) = 0x8100 then 18 else 14)
  { b with sess := b.sess.map (fun (s : Sess) => { s with cache := s.cache.map (fun (c : CacheE) =>
      if c.sent = false ∧ c.resp = body then { c with sent := true, until_ := now + c.hold } else c) }) }

/-- A frame leaves a port, as soon as its wire is free; PORT.x_TX counts it, wrapping. -/
def ethOut (e : Env) (port : Nat) (bytes : List Byte) (b : Blk) : Blk :=
  ((modPort port (fun x => { x with busyTill := max x.busyTill e.now + (wireNs b port bytes.length + 4) / 5 })
    (cacheSent e.now bytes b)).emit (.eth port bytes)).put (PORT_TX_FRAMES port) ((b.get (PORT_TX_FRAMES port) + 1) % 2 ^ 32)

/-- R380: a transmission that takes `ns` from now ends at least 0.5 µs before the next pending entry of the port. -/
def gapFor (e : Env) (b : Blk) (p ns : Nat) : Bool :=
  (portQ b p).lq.all (fun x => x.imm || decide ((ns : Int) + 500 ≤ lqAhead e x))

/-- The frames, one after another, that a test of the time until their transmission ends lets go. -/
def drainable (fits : Nat → Bool) (wire : Nat → Nat) : Nat → List (Nat × List Byte) → Nat
  | _, [] => 0
  | ns, f :: l => if fits (ns + wire f.2.length) then drainable fits wire (ns + wire f.2.length) l + 1 else 0

/-- R380, R396, R397: what a port holds of a PCP of at least `pcp` leaves in order, one frame behind the other and behind that on the
wire, unless a received PAUSE still stops it, as far as it ends 0.5 µs before the next pending entry. DESIGN CHOICE: frames that were held
leave with the first command at the port that finds the way free (notes/assumptions/123.md). -/
def ethDrainFrom (pcp : Nat) (e : Env) (port : Nat) (b : Blk) : Blk :=
  if e.now < pauseEnd b port then b else
  let n := drainable (gapFor e b port) (wireNs b port) (5 * (wireEnd b port - e.now)) ((portTxq b port).takeWhile (fun f => decide (pcp ≤ f.1)))
  ((portTxq b port).take n).foldl (fun (x : Blk) f => ethOut e port f.2 x)
    (modPort port (fun x => { x with txq := x.txq.drop n }) b)

/-- All that a port holds leaves, as far as it may. -/
def ethDrain (e : Env) (port : Nat) (b : Blk) : Blk := ethDrainFrom 0 e port b

/-- A frame that is not scheduled is to leave a port whose link is up (R397, R398). -/
def ethSend (e : Env) (port : Nat) (f : EthF) (b : Blk) : Blk :=
  if b.get (PORT_LINK_UP port) = 1 then
    ethDrain e port (modPort port (fun x => { x with txq := txInsert x.txq ((f.tag.map Prod.fst).getD 0, f.bytes) }) b)
  else b

/-! ### The status telegram -/

/-- A status bit as a number at its place. -/
def flagAt (p : Bool) (n : Nat) : Nat := boolBit p * 2 ^ n

/-- FLAGS of the status payload (R323). -/
def psfFlags (b : Blk) : Nat :=
  flagAt (b.get LEDGER_STA_FULL == 1) 0 + flagAt (b.get LEDGER_STA_EMPTY == 1) 1 +
  flagAt (b.get LEDGER_STA_ANCHOR_REQUEST == 1) 2 + flagAt (b.get SAFE_STA_ZERO_REQUEST == 1) 3 +
  flagAt (setBit (connectRefuse b) 4 false == 0) 4 + flagAt b.watch.errOn 5 + flagAt (b.get SAFE_STA_SINGLE_NET == 1) 6 +
  flagAt (b.get SAFE_STA_WD_EXPIRED == 1) 7 + flagAt (b.get LEDGER_STA_DERATED == 1) 8 +
  flagAt (b.get SAFE_STA_PCV_CONFIRMED == 1) 9 + flagAt (b.get SAFE_PSF_RX_FLAGS % 2 == 1) 10

/-- The current and voltages of the frame whose results are carried. -/
def frameI (b : Blk) : Int :=
  (b.ledger.last.map (fun l => if b.get LEDGER_STA_SRC_HALL = 1 then l.iH else l.i)).getD 0
def frameV (b : Blk) (p n : Nat) : Int := (b.ledger.last.map (fun l => (l.v[p]?).getD 0 - (l.v[n]?).getD 0)).getD 0

/-- The status payload of R323. -/
def psfPayload (e : Env) (b : Blk) : List Byte :=
  let conn := b.mode == .connected
  leBytes 1 b.mode.code ++
  leBytes 1 (b.role.code + 4 * boolBit b.holdup + 8 * thermalState b + 32 * b.keep.sec.code) ++
  leBytes 2 (psfFlags b) ++
  leBytes 4 (if conn then b.get LEDGER_LIM_CHG_LIMIT else 0) ++ leBytes 4 (if conn then b.get LEDGER_LIM_DSG_LIMIT else 0) ++
  leBytes 4 (dataWord (frameI b)) ++ leBytes 4 (dataWord (frameV b 0 3)) ++ leBytes 4 (dataWord (frameV b 2 5)) ++
  leBytes 2 (b.get LEDGER_SOC_RANGE_MIN) ++ leBytes 2 (b.get LEDGER_SOC_RANGE_MAX) ++
  leBytes 4 (b.get LEDGER_AVAIL_DSG_Q) ++ leBytes 4 (b.get LEDGER_AVAIL_CHG_Q) ++
  leBytes 1 ((b.watch.ff.map Rec.src).getD 0) ++ leBytes 1 (highestLevel b + 128 * boolBit b.watch.ffValid) ++
  leBytes 1 (b.get SAFE_SI_STATE_DEMANDED + 64 * boolBit (b.safe.pairs.any (fun p => p.locked))) ++
  leBytes 1 (soMap e b) ++ leBytes 4 (b.get CHAIN_SWEEP_T_T) ++ leBytes 4 (b.get SAFE_PCV)

/-- The PSF message up to SCRC (R321, R322). -/
def psfMsg (kind boot cid seq time epoch : Nat) (payload : List Byte) : List Byte :=
  let m := [2#8, 1#8, BitVec.ofNat 8 kind, BitVec.ofNat 8 boot] ++ leBytes 4 cid ++ leBytes 4 seq ++ leBytes 4 time ++
    leBytes 2 epoch ++ leBytes 2 payload.length ++ payload
  m ++ leBytes 4 (scrc cid m)

/-- The status destination address (SAFE.PSF_DST). -/
def psfDst (e : Env) : List Byte := leBytes 4 (e.get SAFE_PSF_DST_LO) ++ leBytes 2 (e.get SAFE_PSF_DST_HI)

/-- One of a port's two PSF entries is filled (R325, R378). -/
def placePsf (time : Nat) (bytes : List Byte) (q : PortQ) : PortQ :=
  if 2 ≤ (q.lq.filter LqE.psf).length then q
  else { q with lq := q.lq ++ [⟨0xFFFF, 1, time, bytes, false, false, false, true, none, true⟩] }

/-- The status telegram of a port with its SEQUENCE and TIME (R320 to R323). -/
def psfFrame (e : Env) (b : Blk) (port seq time : Nat) : List Byte :=
  (EthF.mk (psfDst e) (portMac b port) (some (e.get SAFE_PSF_CFG_PCP, e.get SAFE_PSF_CFG_VID)) 0x88B5
    (psfMsg 1 (b.get PWR_BOOT_BOOT_NUMBER) (e.get SAFE_PSF_CID_STA) seq time (b.get SYS_STATE_EPOCH) (psfPayload e b))).bytes

/-- R35: a telegram takes the results that stand as it launches, with the SEQUENCE and TIME it was placed with. -/
def psfFill (e : Env) (b : Blk) (port : Nat) (x : LqE) : LqE :=
  if x.fill then { x with fill := false, bytes := psfFrame e b port (leVal (slice x.bytes 26 4)) (leVal (slice x.bytes 30 4)) } else x

/-- The other port's copy is the same telegram (R322). -/
def psfTwin (e : Env) (b : Blk) (port : Nat) (x : LqE) (q : PortQ) : PortQ :=
  { q with lq := q.lq.map (fun (y : LqE) => if y.psf ∧ slice y.bytes 26 4 = slice x.bytes 26 4 then psfFill e b port y else y) }

/-- R325: a frame of instant `t` carries a status telegram: at least PERIOD − 500 µs after the last one that did. -/
def psfDue (e : Env) (last : Option Nat) (t : Nat) : Bool := match last with
  | none => true
  | some p => decide ((1000000 * e.get SAFE_PSF_CFG_PERIOD : Int) - 500000 ≤ sdiff32 t p)

/-- The launch instant, TB1 ns, of the status telegram of instant `t`. -/
def psfLaunch (e : Env) (t : Nat) : Nat := (t + 1000 * e.get SAFE_PSF_OFFSET_OFFSET) % 2 ^ 32

/-- Among announced instants, in order, those that carry a status telegram. -/
def psfCarriers (e : Env) : Option Nat → List Nat → List Nat
  | _, [] => []
  | last, t :: l => if psfDue e last t then t :: psfCarriers e (some t) l else psfCarriers e last l

/-- The PSF status launch instants already announced and not yet placed, TB1 ns (R379): of the frame whose sweep has closed, and of
those in flight. -/
def psfAnnounced (e : Env) (b : Blk) : List Nat :=
  if b.holdup ∨ e.get SAFE_PSF_CID_STA = 0 then []
  else (psfCarriers e b.psf.lastT ((b.ledger.last.map Lat.t).toList ++ b.chain.flight.map Sweep.t)).map (psfLaunch e)

/-- R325: the status telegram of the frame with instant `t` (TB1 ns) is placed in both launch queues for T + PSF_OFFSET. It
needs the status connection, the power state NORMAL, and a frame that lies at least PERIOD − 500 µs after the last launched. -/
def psfStatusLaunch (t : Nat) (e : Env) (b : Blk) : Blk :=
  let known := b.chain.flight.any (fun s => s.t == t && s.lat.isSome) || (b.ledger.last.map Lat.t == some t)
  if ¬ b.running ∨ b.holdup ∨ e.get SAFE_PSF_CID_STA = 0 ∨ ¬ psfDue e b.psf.lastT t ∨ ¬ known then b else
  let launch := psfLaunch e t
  let time := (((e.clk.ns0 : Int) + sdiff32 launch e.clk.ns1) % 2 ^ 32).toNat
  let seq := b.get SAFE_PSF_SEQ_TX + 1
  let fr := fun port => psfFrame e b port seq time
  { (modPsf (fun p => { p with lastT := some t }) b).put SAFE_PSF_SEQ_TX seq with
    tim := { b.tim with qa := placePsf launch (fr 0) b.tim.qa, qb := placePsf launch (fr 1) b.tim.qb } }

/-! ### Command telegrams -/

def missFld (port : Nat) : Fld := if port = 0 then SAFE_PSF_CNT_MISSING_A else SAFE_PSF_CNT_MISSING_B

/-- R326: the skew window closes without a second copy: the other port's missing count, and PSF_COPY_MISSING. -/
def skewMissing (e : Env) (b : Blk) : Blk :=
  let other := 1 - b.psf.rxPort
  let b1 := (modPsf (fun p => { p with
    skewBy := none
    matchAt := if p.lostPort = some other then none else p.matchAt }) b).bump (missFld other)
  raise e SRC_PSF_COPY_MISSING 0 0 0 b1

def skewTimer (b : Blk) : Option Nat := if b.running then b.psf.skewBy else none

def netOkFld (port : Nat) : Fld := if port = 0 then SAFE_STA_NET_A_OK else SAFE_STA_NET_B_OK

/-- A port has delivered a valid copy. -/
def seenOn (e : Env) (port : Nat) (b : Blk) : Blk :=
  (modPsf (fun p => if port = 0 then { p with seenA := some e.now } else { p with seenB := some e.now }) b).put (netOkFld port) 1

/-- R326 step 5: a second copy within the window closes it; a copy that differs is no second copy and leaves it open. -/
def psfSecond (port : Nat) (msg : List Byte) (e : Env) (b : Blk) : Blk :=
  let p := b.psf
  if (p.skewBy.map (fun t => decide (e.now ≤ t))).getD false ∧ port ≠ p.rxPort then
    if msg = p.rxBytes then
      let skew := (e.now - p.rxAt) / 200
      let b2 := ((modPsf (fun p => { p with skewBy := none }) b).put SAFE_PSF_SKEW_LAST skew).put SAFE_PSF_SKEW_MAX (max (b.get SAFE_PSF_SKEW_MAX) skew)
      seenOn e port (modPsf (fun p => { p with
        matchAt := if p.lostPort = some port then some (p.matchAt.getD e.now) else p.matchAt }) b2)
    else raise e SRC_PSF_COMPARE 0 0 0 (b.bump SAFE_PSF_CNT_COMPARE)
  else b

/-- R311: the reset bit at 1 in the telegram right after one that carried 0. -/
def remoteReset (e : Env) (b : Blk) (seq : Nat) (bit : Bool) : Bool :=
  e.get SAFE_PSF_CFG_REMOTE_RESET == 1 && bit && b.psf.resetSeq == some ((seq + 2 ^ 32 - 1) % 2 ^ 32, false) && !b.holdup

/-- R326 step 6: a telegram is accepted: an open window closes, flags, watchdog and permit, a new window, and a remote reset. -/
def psfAccept (port : Nat) (msg : List Byte) (seq flags : Nat) (e : Env) (b : Blk) : Blk :=
  let b1 := if b.psf.skewBy.isSome then skewMissing e b else b
  let had := b.get SAFE_PSF_RX_FLAGS % 2 = 1 ∨ b.psf.rxSeq = none
  let reset := remoteReset e b seq (bitOf flags 1)
  let b2 := modPsf (fun p => { p with
    rxSeq := some seq, rxBytes := msg, rxPort := port, rxAt := e.now
    skewBy := some (e.now + us (e.get SAFE_PSF_TIME_SKEW))
    wdBy := some (e.now + ms (e.get SAFE_PSF_TIME_T_SF)), wdStartBy := none
    resetSeq := some (seq, bitOf flags 1) }) b1
  let b3 := (((b2.put SAFE_PSF_RX_FLAGS flags).put SAFE_PSF_SEQ_RX seq).put SAFE_STA_WD_EXPIRED 0).put SAFE_STA_PERMIT (flags % 2)
  let b4 := endExc e SRC_PSF_TIMEOUT 0 (seenOn e port b3)
  let b5 := if had ∧ flags % 2 = 0 then permitWithdrawn e b4 else b4
  if reset then edgeReset true e b5 else b5

/-- R326, steps 1 to 6, for a PSF message. -/
def psfMessage (port : Nat) (m : List Byte) (e : Env) (b : Blk) : Blk :=
  let hd := decide (28 ≤ m.length) && m.take 4 == [2#8, 1#8, 2#8, 0#8] && leVal (slice m 18 2) == 4
  let flags := leVal (slice m 20 2)
  if ¬ hd ∨ 4 ≤ flags ∨ leVal (slice m 22 2) ≠ 0 then b.bump SAFE_PSF_CNT_DISCARDED
  else
    let cid := leVal (slice m 4 4)
    if e.get SAFE_PSF_CID_CMD = 0 ∨ cid ≠ e.get SAFE_PSF_CID_CMD then b
    else if leVal (slice m 24 4) ≠ scrc cid (m.take 24) then b.bump SAFE_PSF_CNT_DISCARDED
    else
      let seq := leVal (slice m 8 4)
      match b.psf.rxSeq with
      | none => psfAccept port (m.take 28) seq flags e b
      | some last =>
        let d := (seq + 2 ^ 32 - last) % 2 ^ 32
        if 1 ≤ d ∧ d < 2 ^ 31 then psfAccept port (m.take 28) seq flags e b
        else if d = 0 then psfSecond port (m.take 28) e b
        else raise e SRC_PSF_SEQ 0 0 0 b

/-- R395, R326: a received frame of class 2. Frames not for the port's address are discarded. -/
def psfCommand (port : Nat) (frame : List Byte) (e : Env) (b : Blk) : Blk :=
  if ¬ b.running ∨ b.holdup ∨ b.get (PORT_LINK_UP port) = 0 then b else
  match ethParse frame with
  | none => b.bump (PORT_RX_ERR_HIGH port)
  | some f =>
    if f.etype = 0x88B5 ∧ f.dst = portMac b port ∧ f.body.take 1 = [2#8] then
      psfMessage port f.body e (b.bump (PORT_RX_CLASS_HIGH port))
    else b.bump (PORT_RX_OTHER_HIGH port)

/-! ### Watchdog and nets -/

/-- The watchdog's timers run outside HOLDUP only (R330). -/
def wdTimer (b : Blk) : Option Nat := if b.running && !b.holdup then b.psf.wdBy else none
def wdStartTimer (b : Blk) : Option Nat := if b.running && !b.holdup then b.psf.wdStartBy else none

/-- R328: the watchdog expires. -/
def psfWatchdogExpiry (e : Env) (b : Blk) : Blk :=
  let b1 := (((modPsf (fun p => { p with wdBy := none }) b).put SAFE_STA_WD_EXPIRED 1).put SAFE_STA_PERMIT 0)
  judge e true SRC_PSF_TIMEOUT 0 0 0 0 ((b1.put SAFE_STA_NET_A_OK 0).put SAFE_STA_NET_B_OK 0)

/-- R330: 3 s without an accepted telegram: the watchdog starts. -/
def watchdogStart (e : Env) (b : Blk) : Blk :=
  modPsf (fun p => { p with wdStartBy := none, wdBy := some (p.wdBy.getD (e.now + ms (e.get SAFE_PSF_TIME_T_SF))) }) b

/-- R330: the watchdog waits for its first telegram, at the end of a boot and on return to NORMAL; both nets count as seen now. A
command connection of 0 disables the direction and with it the 3 s start (R320; DEDUCED, log entry 93). -/
def psfRestart (e : Env) (b : Blk) : Blk :=
  modPsf (fun p => { p with
    wdBy := none
    wdStartBy := if e.get SAFE_PSF_CID_CMD = 0 then none else some (e.now + sec 3)
    seenA := some e.now, seenB := some e.now }) b

/-- R327: a port has delivered no valid copy for the watchdog time while the other delivers. -/
def psfSingleNet (port : Nat) (e : Env) (b : Blk) : Blk :=
  let t := ms (e.get SAFE_PSF_TIME_T_SF)
  let late := fun (x : Option Nat) => (x.map (fun s => decide (s + t ≤ e.now))).getD true
  let (own, other) := if port = 0 then (b.psf.seenA, b.psf.seenB) else (b.psf.seenB, b.psf.seenA)
  if b.running ∧ ¬ b.holdup ∧ port < 2 ∧ late own ∧ ¬ late other ∧ b.psf.lostPort = none then
    judge e true SRC_PSF_SINGLE_NET 0 0 0 0
      (((modPsf (fun p => { p with lostPort := some port, singleAt := some e.now, matchAt := none }) b).put
        SAFE_STA_SINGLE_NET 1).put (netOkFld port) 0)
  else b

/-- R327: the single-net time reaches T_single; it does not run in HOLDUP (R330). -/
def singleTimer (e : Env) (b : Blk) : Option Nat :=
  if b.running && !b.holdup then b.psf.singleAt.map (fun t => t + sec (3600 * e.get SAFE_PSF_SINGLE_T_SINGLE)) else none

def psfSingleExpired (e : Env) (b : Blk) : Blk :=
  onlyIf ((singleTimer e b).map (fun t => decide (t ≤ e.now)) == some true) (judge e true SRC_PSF_SINGLE_EXPIRED 0 0 0 0) b

/-- R327: the lost port has delivered matching second copies for 1 s. -/
def netRestored (e : Env) (b : Blk) : Blk :=
  match b.psf.matchAt with
  | none => b
  | some t =>
    if b.psf.lostPort.isSome ∧ t + sec 1 ≤ e.now then
      endExc e SRC_PSF_SINGLE_EXPIRED 0 (endExc e SRC_PSF_SINGLE_NET 0
        ((modPsf (fun p => { p with lostPort := none, singleAt := none, matchAt := none }) b).put SAFE_STA_SINGLE_NET 0))
    else b

/-! ### The parameter check value -/

/-- A field of the parameter block (R332): RWL, and none of the operating fields. -/
def isParam (f : Fld) : Bool :=
  (f.acc == .rwl) && !(f.addr == 0x30C0 || f.addr == 0x609C ||
    (decide (0x30D0 ≤ f.addr) && decide (f.addr ≤ 0x30EC)))

/-- The EVT_EN fields of a page's word: the sources of the page that exist (R98). -/
def evtEnFlds (page : Nat) : List Fld :=
  ((List.range 256).filter (fun n => (evtPage n).1 == page && (srcRow n).kind != .unused)).map EVT_EN_BIT

/-- Every field at a register word, EVT_EN included. -/
def wordFlds (a : Nat) : List Fld := if a % 0x1000 = 0x14 then evtEnFlds (a - 0x14) else fieldsAt a

/-- The words that hold fields of the block, ascending (R449). -/
def paramWords : List (Nat × List Fld) :=
  (List.range 17).flatMap (fun p => (List.range 1024).filterMap (fun w =>
    let fs := (wordFlds (0x1000 * p + 4 * w)).filter isParam
    if fs.isEmpty then none else some (0x1000 * p + 4 * w, fs)))

/-- A field's part of its word; the EVT_EN bit of a source that may react at L3 or above is fixed at 1 (R98), and PSF_TIMEOUT's levels
are what WD_REACT puts in force (R342). -/
def paramField (par : RegMap) (f : Fld) : Nat :=
  if f.key = (FAULT_REACT_MINOR SRC_PSF_TIMEOUT).key ∨ f.key = (FAULT_REACT_SEVERE SRC_PSF_TIMEOUT).key then
    wdLevelOf (par.get SAFE_PSF_CFG_WD_REACT) * 2 ^ f.lo
  else if f.addr % 0x1000 = 0x14 ∧ (srcRow (f.lo + (evtPage0 (f.addr - 0x14)))).enFixed then 2 ^ f.lo
  else par.get f * 2 ^ f.lo
where
  /-- The first source of a page. -/
  evtPage0 (page : Nat) : Nat := (((List.range 256).find? (fun n => (evtPage n).1 == page)).map (fun n => (evtPage n).2)).getD 0

/-- The entries of R449: block code, 0, offset (u16), value (u32). -/
def paramEntries (par : RegMap) : List Byte :=
  paramWords.flatMap (fun w => [BitVec.ofNat 8 (w.1 / 0x1000), 0#8] ++ leBytes 2 (w.1 % 0x1000) ++
    leBytes 4 ((w.2.map (paramField par)).sum))

/-- The running PCV (R332). -/
def paramPcv (par : RegMap) : Nat := crc32c (paramEntries par)

/-- R334: SAFE.PCV takes its new value; a confirmed block that no longer agrees lapses (R122). A standby's is confirmed while it agrees
with what the active confirmed (R335). -/
def pcvSet (e : Env) (v : Nat) (b : Blk) : Blk :=
  let b1 := (modSafe (fun s => { s with pcvBy := none }) b).put SAFE_PCV v
  if b.role = .standby ∧ v = b.get SAFE_PCV_CONF then b1.put SAFE_STA_PCV_CONFIRMED 1
  else if b.get SAFE_STA_PCV_CONFIRMED = 1 ∧ v ≠ b.get SAFE_PCV_CONF then
    let b2 := raise e SRC_PCV_LAPSED 0 0 0 (b1.put SAFE_STA_PCV_CONFIRMED 0)
    if b2.mode = .isolated ∧ b2.owner then changeMode e .commissioning b2 else b2
  else b1

/-- R332: the PCV of the present block, within 10 ms of a change. -/
def pcvRecompute (e : Env) (b : Blk) : Blk := pcvSet e (paramPcv e.par) b

def pcvTimer (b : Blk) : Option Nat := if b.running then b.safe.pcvBy else none

/-- R333: the confirmation write. -/
def pcvConfirm (v : Nat) (_ : Env) (b : Blk) : Blk := hostCmd (fun b =>
  if ¬ (b.mode = .commissioning ∨ b.mode = .maintenance) ∨ b.get SYS_STA_CFG_DEFAULTED = 1 ∨ b.holdup then finish .denied b
  else if v ≠ b.get SAFE_PCV then finish .conflict b
  else finish .ok (nvRequest (.param (some v) false) (b.put SAFE_PCV_CONF v))) b

/-- R333: the commit of a confirmed block completes: the block is confirmed, and COMMISSIONING ends (R122). -/
def pcvConfirmed (e : Env) (v : Nat) (b : Blk) : Blk :=
  if b.get SAFE_PCV = v ∧ b.get SAFE_PCV_CONF = v then
    let b1 := b.put SAFE_STA_PCV_CONFIRMED 1
    if b1.mode = .commissioning ∧ b1.owner then changeMode e .isolated b1 else b1
  else b

end Sys2Proof.Machine
end

