-- ==== Sys2Proof/Machine/Time.lean ====
section
/-! DEFINITION. TIME: steps of TB0, launch queues, match units, pulse generators, captures and PTP frames (R366 to R391). -/

namespace Sys2Proof.Machine

/-- R377: a programmed time on a base is in the past. -/
def inPast (e : Env) (base t : Nat) : Bool := decide (sdiff32 t (baseNs e base) < 2000)

/-! ### Launch queues -/

/-- The blocks a frame takes (R378). -/
def blocksOf (len : Nat) : Nat := (len + 63) / 64

/-- Host entries of a port. -/
def hostLq (q : PortQ) : List LqE := q.lq.filter (fun x => !x.psf)
def freeBlocks (q : PortQ) : Nat := 1020 - ((hostLq q).map (fun x => blocksOf x.bytes.length)).sum

/-- TIME.LQx_STA after a change. -/
def lqShow (p : Nat) (b : Blk) : Blk :=
  (b.put (TIME_LQ_STA_PENDING p) (hostLq (portQ b p)).length).put (TIME_LQ_STA_FREE_BLOCKS p) (freeBlocks (portQ b p))

/-- The fields of a control word (TIME.LQx_PUSH_C). -/
structure PushC where
  len : Nat
  base : Nat
  imm : Bool
  tsReq : Bool
  telem : Bool
  tag : Nat
deriving DecidableEq, Repr

def pushC (w : Nat) : PushC :=
  ⟨w % 2048, w / 2048 % 4, bitOf w 13, bitOf w 14, bitOf w 15, w / 65536 % 65536⟩

/-- R378, R379, R384: the outcome of a push, in order: field ranges, room, spacing, from entries and from
announced status launches. A late push completes with OK. -/
def lqJudge (p t w : Nat) (e : Env) (b : Blk) : Status :=
  let c := pushC w
  let q := portQ b p
  let near := fun (d : Int) => decide (iabs (d - sdiff32 t (baseNs e c.base)) < 20000)
  if c.len < 14 ∨ 1518 < c.len ∨ c.base = 3 ∨ c.tag = 0xFFFF then .conflict
  else if b.get (PORT_DESC_CAPACITY p) - 2 ≤ (hostLq q).length ∨ freeBlocks q < blocksOf c.len then .full
  else if c.imm ∨ inPast e c.base t then .ok
  else if q.lq.any (fun x => !x.imm && near (lqAhead e x)) ∨ (psfAnnounced e b).any (fun x => near (sdiff32 x e.clk.ns1)) then .conflict
  else .ok

/-- The bytes of a session's assembly buffer (R378). -/
def sessBuf (b : Blk) (session p : Nat) : RegMap :=
  ((b.sess[session]?).map (fun s => if p = 0 then s.lqBuf0 else s.lqBuf1)).getD []

/-- The first `len` bytes of an assembly buffer, kept as words by their number. -/
def bufBytes (m : RegMap) (len : Nat) : List Byte :=
  ((List.range ((len + 3) / 4)).flatMap (fun i => leBytes 4 (m.find i 0))).take len

/-- R378: a push that is not refused. -/
def lqPush (session p t w : Nat) (e : Env) (b : Blk) : Blk :=
  let c := pushC w
  if ¬ c.imm ∧ inPast e c.base t then
    raise e SRC_LAUNCH_LATE c.tag t p (b.bump (TIME_LQ_MISS_LOW p))
  else
    let fr := bufBytes (sessBuf b session p) c.len
    let fr := fr ++ List.replicate (60 - fr.length) 0#8
    lqShow p (modQ p (fun q => { q with lq := q.lq ++ [⟨c.tag, c.base, t, fr, c.imm, c.tsReq, c.telem, false, none, false⟩] }) b)

/-- A write of LQx_PUSH_C with the time held in LQx_PUSH_T. -/
def lqPushDo (session p w : Nat) (e : Env) (b : Blk) : Blk := hostCmd (fun b =>
  match lqJudge p (e.get (TIME_LQ_PUSH_T p)) w e b with
  | .ok => finish .ok (lqPush session p (e.get (TIME_LQ_PUSH_T p)) w e b)
  | st => finish st b) b

/-- R383: the head transmit timestamp is removed. -/
def txtsPop (p : Nat) (_ : Env) (b : Blk) : Blk := hostCmd (fun b =>
  finish .ok (modQ p (fun q => { q with txts := q.txts.drop 1 }) b)) b

/-- The owner of a match unit in effect (R385). -/
def muOwner (e : Env) (b : Blk) (n : Nat) : Nat :=
  if b.mode = .connecting ∨ b.mode = .connected then (if n < 4 then 0 else 1) else e.get (TIME_MU_OWN n)

/-- A unit is armed for an entry. -/
def muArmed (b : Blk) (n : Nat) : Bool := (b.tim.qa.lq ++ b.tim.qb.lq).any (fun x => x.unit == some n)

/-- A free unit of a port. -/
def freeUnit (e : Env) (b : Blk) (p : Nat) : Option Nat :=
  (List.range 8).find? (fun n => muOwner e b n == p && !(muArmed b n))

/-- The whole ns of a base in the CORE cycle before. -/
def prevNs (e : Env) (b : Blk) (base : Nat) : Nat := (baseFix e base + 2 ^ 56 - effAddend e.par b base) % 2 ^ 56 / 2 ^ 24

/-- R390: this is the cycle in which an entry is armed: its 2 µs begin, and a match unit of its port is free. -/
def armsNow (p : Nat) (e : Env) (b : Blk) (x : LqE) : Bool :=
  !x.imm && decide (lqAhead e x ≤ 2000) && decide (2000 < sdiff32 x.time (prevNs e b x.base)) && (freeUnit e b p).isSome

/-- R384: every unarmed host entry with the tag is removed; one whose arming falls in this cycle is armed (R390). -/
def lqCancel (p tag : Nat) (e : Env) (b : Blk) : Blk := hostCmd (fun b =>
  if tag = 0xFFFF then finish .conflict b else
  finish .ok (lqShow p (modQ p (fun q => { q with
    lq := q.lq.filter (fun x => x.psf || x.unit.isSome || x.tag != tag || armsNow p e b x) }) b))) b

/-- The entry with the earliest time among those that a test holds of; a PSF entry comes before a host entry of the same
instant (R381). The answer is its place. -/
def firstEntry (e : Env) (ok : LqE → Bool) (q : PortQ) : Option (Nat × LqE) :=
  ((mapIdx (fun n (x : LqE) => (n, x)) 0 q.lq).filter (fun p => ok p.2)).foldl (fun (a : Option (Nat × LqE)) p =>
    match a with
    | none => some p
    | some r => if lqAhead e p.2 < lqAhead e r.2 ∨ (lqAhead e p.2 = lqAhead e r.2 ∧ p.2.psf ∧ ¬ r.2.psf) then some p else some r) none

/-- R380: the next pending entry is armed, from 2 µs before its launch time, on a free match unit of its port. -/
def launchArm (p : Nat) (e : Env) (b : Blk) : Blk :=
  match firstEntry e (fun x => !x.imm && x.unit.isNone && decide (lqAhead e x ≤ 2000)) (portQ b p), freeUnit e b p with
  | some (k, _), some u => onlyIf b.running (modQ p (fun q => { q with lq := modAt q.lq k (fun x => { x with unit := some u }) })) b
  | _, _ => b

/-- An entry leaves its queue. -/
def lqDrop (p k : Nat) (b : Blk) : Blk :=
  lqShow p (modQ p (fun q => { q with lq := q.lq.take k ++ q.lq.drop (k + 1) }) b)

/-- R383: a transmit timestamp is queued; in a full queue the oldest is overwritten. -/
def txtsPut (p tag ns frac wrap8 : Nat) (b : Blk) : Blk :=
  let q := portQ b p
  if 16 ≤ q.txts.length then
    (modQ p (fun q => { q with txts := q.txts.drop 1 ++ [⟨tag, ns, frac, wrap8⟩] }) b).put (TIME_LQ_STA_TXTS_LOST p) 1
  else modQ p (fun q => { q with txts := q.txts ++ [⟨tag, ns, frac, wrap8⟩] }) b

/-- The low bits of the wrap tally at a TB0 time that is not ahead of the cycle's start; a step in the cycle comes after it (R370). -/
def wrapLow (e : Env) (ns : Nat) : Nat := (if ns ≤ e.at0.1 then e.at0.2 else e.at0.2 + 255) % 256

/-- The entry that launches now: the first armed one whose time has come, or else the first immediate one that ends 0.5 µs before
the next pending entry (R380). -/
def launchNext (e : Env) (b : Blk) (p : Nat) : Option (Nat × LqE) :=
  let q := portQ b p
  match firstEntry e (fun x => x.unit.isSome && decide (lqAhead e x ≤ 0)) q with
  | some r => some r
  | none => (((mapIdx (fun n (x : LqE) => (n, x)) 0 q.lq).find? (fun r => r.2.imm)).filter (fun r =>
      gapFor e b p (wireNs b p r.2.bytes.length)))

/-- The PCP of a frame's bytes, 0 without a tag (R397). -/
def bytesPcp (bs : List Byte) : Nat := if beVal (slice bs 12 2) = 0x8100 then beVal (slice bs 14 2) / 8192 else 0

/-- R397: what a port whose link is up holds of an IMMEDIATE entry's PCP or a higher one leaves before it. -/
def beforeImm (p : Nat) (e : Env) (b : Blk) : Blk :=
  match launchNext e b p with
  | some (_, x) => if x.imm ∧ b.get (PORT_LINK_UP p) = 1 then ethDrainFrom (bytesPcp x.bytes) e p b else b
  | none => b

/-- R380 to R383, R288: an entry launches; `ns` and `frac` are TB0 at its timestamp point. With the link down it is dropped; a
telemetry entry inside the transaction pause is skipped. What the port held for the entry's sake follows. -/
def entryLaunch (p ns frac : Nat) (e : Env) (b : Blk) : Blk :=
  if ¬ b.running ∨ e.now < wayEnd b p then b else
  let b := beforeImm p e b
  match (launchNext e b p).filter (fun _ => decide (wayEnd b p ≤ e.now)) with
  | none => b
  | some (k, x) =>
    let b1 := lqDrop p k b
    if b.get (PORT_LINK_UP p) = 0 then b1.bump (TIME_LQ_CNT_HIGH p)
    else ethDrain e p <| if x.telem ∧ (((portQ b p).telemAt.map (fun t => decide (e.now < t + us (transPause e b)))).getD false) then
      b1.bump THERM_PAUSE_STA_TELEM_SKIPPED
    else
      let slip := if x.imm then 0 else (-(lqAhead e x)).toNat
      if 1000 * e.get TIME_LQ_CFG_SLIP < slip then
        raise e SRC_LAUNCH_MISSED x.tag x.time p (b1.bump (TIME_LQ_MISS_HIGH p))
      else
        let b1 := if x.fill then modQ (1 - p) (psfTwin e b (1 - p) x) b1 else b1
        let b3 := ((ethOut e p (psfFill e b p x).bytes b1).bump (TIME_LQ_CNT_LOW p)).put (TIME_LQ_SLIP_MAX p)
          (max (b1.get (TIME_LQ_SLIP_MAX p)) (min 65535 (slip / 10)))
        let b4 := if x.telem then modQ p (fun q => { q with telemAt := some e.now }) b3 else b3
        if x.tsReq then txtsPut p x.tag ns frac (wrapLow e ns) b4 else b4

/-- R381: an entry whose slip limit has passed is discarded. -/
def launchMissed (p : Nat) (e : Env) (b : Blk) : Blk :=
  match firstEntry e (fun x => !x.imm && decide (lqAhead e x < -(1000 * e.get TIME_LQ_CFG_SLIP : Int))) (portQ b p) with
  | none => b
  | some (k, x) => onlyIf b.running (fun b =>
      if b.get (PORT_LINK_UP p) = 0 then (lqDrop p k b).bump (TIME_LQ_CNT_HIGH p)
      else ethDrain e p (raise e SRC_LAUNCH_MISSED x.tag x.time p ((lqDrop p k b).bump (TIME_LQ_MISS_HIGH p)))) b

/-! ### Pulse generators -/

def tpOf (b : Blk) (g : Nat) : Tp := if g = 0 then b.tim.tp0 else b.tim.tp1
def modTp (g : Nat) (f : Tp → Tp) (b : Blk) : Blk :=
  modTim (fun t => if g = 0 then { t with tp0 := f t.tp0 } else { t with tp1 := f t.tp1 }) b

def tpRunFld (g : Nat) : Fld := if g = 0 then TIME_STA_TP0_RUNNING else TIME_STA_TP1_RUNNING

/-- The CORE period in which a base reaches a time that is not past (R386). -/
def reachAt (e : Env) (b : Blk) (base t : Nat) : Nat :=
  let eff := effAddend e.par b base
  let rem := (t * 2 ^ 24 + 2 ^ 56 - baseFix e base) % 2 ^ 56
  e.now + (if eff = 0 then 0 else (rem + eff - 1) / eff)

/-- A generator repeats (R386). -/
def tpPeriodic (e : Env) (g : Nat) : Bool := e.get (TIME_TP_CTL_PERIODIC g) == 1 && e.get (TIME_TP_PERIOD g) != 0

/-- The first boundary of a periodic pulse that is not in the past, from `rise` on (R387). -/
def nextRise (e : Env) (g rise : Nat) : Nat :=
  let d := 2000 - sdiff32 rise (baseNs e (e.get (TIME_TP_CTL_BASE g)))
  let per : Int := e.get (TIME_TP_PERIOD g)
  if d ≤ 0 ∨ per = 0 then rise else ((rise + (((d + per - 1) / per) * per).toNat) % 2 ^ 32)

/-- A generator is set to rise at a time. -/
def tpSet (e : Env) (g rise : Nat) (b : Blk) : Blk :=
  ((modTp g (fun t => { t with
      go := true, high := false, rise := rise, edgeBy := some (reachAt e b (e.get (TIME_TP_CTL_BASE g)) rise) }) b).put
    (TIME_TP_CTL_GO g) 1).put (tpRunFld g) 1

/-- A generator stops: pin low, GO clear. -/
def tpStop (g : Nat) (b : Blk) : Blk :=
  ((modTp g (fun t => { t with go := false, high := false, edgeBy := none, begun := false }) b).put (TIME_TP_CTL_GO g) 0).put (tpRunFld g) 0

/-- R386, R387: GO. -/
def tpGo (g : Nat) (e : Env) (b : Blk) : Blk :=
  if (tpOf b g).go then b else
  let st := e.get (TIME_TP_START g)
  if ¬ inPast e (e.get (TIME_TP_CTL_BASE g)) st then tpSet e g st b
  else
    let b1 := raise e SRC_PULSE_LATE 0 st g b
    if tpPeriodic e g then tpSet e g (nextRise e g st) b1 else b1

/-- R385: a generator takes exactly two units that it owns. -/
def tpUnits (e : Env) (b : Blk) (g : Nat) : Nat := ((List.range 8).filter (fun n => muOwner e b n == 2 + g)).length

/-- R386: an edge of a generator. -/
def tpEdge (g : Nat) (e : Env) (b : Blk) : Blk :=
  let t := tpOf b g
  if ¬ t.go then b else
  let base := e.get (TIME_TP_CTL_BASE g)
  if ¬ t.high then
    (modTp g (fun t => { t with
      high := true
      begun := true
      edgeBy := some (reachAt e b base ((t.rise + e.get (TIME_TP_WIDTH g)) % 2 ^ 32)) }) b).emit (.tpEdge g true)
  else
    let b1 := b.emit (.tpEdge g false)
    if tpPeriodic e g then
      let r := (t.rise + e.get (TIME_TP_PERIOD g)) % 2 ^ 32
      if (e.get (TIME_TP_PERIOD g) : Int) < sdiff32 (baseNs e base) t.rise then tpSet e g (nextRise e g r) (raise e SRC_PULSE_LATE 0 r g b1)
      else tpSet e g r b1
    else tpStop g b1

def tpTimer (g : Nat) (b : Blk) : Option Nat := if b.running then (tpOf b g).edgeBy else none

/-- How far a time of TB0 that is ahead, or due in this cycle, lies ahead of `now`, ns. -/
def dueIn (t now : Nat) : Int :=
  let d : Nat := (t + 2 ^ 32 - now % 2 ^ 32) % 2 ^ 32
  if 2 ^ 32 - 1024 ≤ d then (d : Int) - 2 ^ 32 else d

/-- R370: what a step of `st` ns does to a generator on TB0 whose pin is high; `e` is after the step. A periodic one goes on at the first
boundary that lies at or after now + 2 µs. DESIGN CHOICE: the pin falls where the pulse of the boundary before that falls, and at once where
that is past or a boundary was passed over (notes/assumptions/160.md). -/
def tpSteppedHigh (g : Nat) (st : Int) (e : Env) (b : Blk) : Blk :=
  let t := tpOf b g
  let width : Int := e.get (TIME_TP_WIDTH g)
  let per : Int := e.get (TIME_TP_PERIOD g)
  let gone := sdiff32 (((e.clk.ns0 : Int) - st) % 2 ^ 32).toNat t.rise + st
  let away := if tpPeriodic e g then (per - gone - 2000) / per * per else 0
  let rise := (((t.rise : Int) - away) % 2 ^ 32).toNat
  let late := tpPeriodic e g && decide (per - gone < 2000)
  modTp g (fun t => { t with
      rise := rise
      edgeBy := some (if late ∨ width ≤ gone + away then e.now
        else reachAt e b 0 ((rise + e.get (TIME_TP_WIDTH g)) % 2 ^ 32)) })
    (if late then raise e SRC_PULSE_LATE 0 t.rise g b else b)

/-- R370: a step of `st` ns and a generator on TB0; `e` is after the step. A periodic one that has not begun keeps a START that still lies
ahead. -/
def tpStepped (g : Nat) (st : Int) (e : Env) (b : Blk) : Blk :=
  let t := tpOf b g
  if ¬ t.go ∨ e.get (TIME_TP_CTL_BASE g) ≠ 0 then b
  else if t.high then tpSteppedHigh g st e b
  else
    let d := dueIn t.rise (((e.clk.ns0 : Int) - st) % 2 ^ 32).toNat - st - 2000
    let b1 := if d < 0 then raise e SRC_PULSE_LATE 0 t.rise g b else b
    if tpPeriodic e g then
      let per : Int := e.get (TIME_TP_PERIOD g)
      let away := if d < 0 ∨ t.begun then d / per * per else 0
      tpSet e g (((t.rise : Int) - away) % 2 ^ 32).toNat b1
    else if d < 0 then tpStop g b1
    else tpSet e g t.rise b1

/-- The edges of the generators after a base's rate changed (R386). -/
def tpRerate (e : Env) (b : Blk) : Blk :=
  [0, 1].foldl (fun (x : Blk) g =>
    let t := tpOf x g
    let base := e.get (TIME_TP_CTL_BASE g)
    let goal := if t.high then (t.rise + e.get (TIME_TP_WIDTH g)) % 2 ^ 32 else t.rise
    if t.go ∧ 0 < dueIn goal (baseNs e base) then modTp g (fun t => { t with edgeBy := some (reachAt e x base goal) }) x else x) b

/-! ### Steps of TB0 -/

/-- R370: TB0 and its wrap tally after a step of `s` ns. -/
def Clock.stepTb0 (c : Clock) (s : Int) : Clock :=
  let tot : Int := (c.wrap : Int) * 2 ^ 56 + c.tb0 + s * 2 ^ 24
  { c with tb0 := (tot % 2 ^ 56).toNat, wrap := (tot / 2 ^ 56 % 2 ^ 32).toNat }

/-- R370: entries on TB0 that now lie more than the slip limit behind are discarded. -/
def lqStepped (e : Env) (p : Nat) (b : Blk) : Blk :=
  let lost := (portQ b p).lq.filter (fun x => x.base == 0 && !x.imm && decide (lqAhead e x < -(1000 * e.get TIME_LQ_CFG_SLIP : Int)))
  let b1 := lqShow p (modQ p (fun q => { q with lq := q.lq.filter (fun x => !(lost.contains x)) }) b)
  raiseAll e (lost.map (fun x => ⟨SRC_LAUNCH_MISSED, x.tag, x.time, p, false, none⟩)) (b1.bump (TIME_LQ_MISS_HIGH p) lost.length)

/-- R370: a step: its record carries the time before the step; then the scheduled actions on TB0 are judged again, in the
cycle after it. -/
def tb0Step (st : Int) (s : State) : State :=
  let e := s.env
  let c := s.clk.stepTb0 st
  let b1 := recordRaise e ⟨SRC_TB0_STEP, 0, dataWord st, c.wrap, false, none⟩ ((s.blk.bump TIME_STEP_CNT_STEPS).put TIME_STA_TB0_SET 1)
  let k : Clock := { e.clk with tb0 := c.tb0, wrap := c.wrap }
  let e1 : Env := { e with clk := k, start := (k, e.start.2) }
  { s with clk := c, blk := tpStepped 1 st e1 (tpStepped 0 st e1 (lqStepped e1 1 (lqStepped e1 0 b1))) }

/-- CORE periods until TB0's nanoseconds wrap (R366). -/
def wrapTicks (s : State) : Nat :=
  let eff := effAddend s.par s.blk 0
  if eff = 0 then 0 else (2 ^ 56 - s.clk.tb0 + eff - 1) / eff

/-- R366: TB0's next wrap arrives. -/
def tb0Wrap (s : State) : State := s.elapse (wrapTicks s)

/-! ### Captures and PTP frames -/

/-- R389: an edge on TIN, falling or rising, of a pulse of `width` ns. -/
def tinEdge (falling : Bool) (width : Nat) (e : Env) (b : Blk) : Blk :=
  if ¬ b.powered ∨ e.get TIME_TIN_CFG_EN = 0 ∨ falling ≠ (e.get TIME_TIN_CFG_EDGE == 1) ∨ width < 20 ∨
      ((b.tim.tinAt.map (fun t => decide (e.now < t + 20))).getD false) then b
  else if 4 ≤ b.tim.tin.length then raise e SRC_TIN_OVERFLOW 0 0 0 (b.put TIME_TIN_STA_OVERFLOW 1)
  else modTim (fun t => { t with
    tin := t.tin ++ [(e.start.1.ns0, e.start.1.wrap, e.start.1.ns1, e.start.1.ns2)], tinAt := some e.now }) b

/-- R389: the head capture is removed; a STANDBY serves it too (R117). -/
def tinPop (_ : Env) (b : Blk) : Blk := localCmd (fun b => finish .ok (modTim (fun t => { t with tin := t.tin.drop 1 }) b)) b

def ptpDropFld (p : Nat) : Fld := ⟨0x31C0 + 16 * p, 24, 8, .ro, 0, none, false⟩

/-- R375: the destinations whose PTP frames are kept. -/
def ptpDst (b : Blk) (p : Nat) (d : List Byte) : Bool :=
  d == [0x01#8, 0x1B#8, 0x19#8, 0#8, 0#8, 0#8] || d == [0x01#8, 0x80#8, 0xC2#8, 0#8, 0#8, 0x0E#8] || d == portMac b p

/-- R375: a received PTP frame, with TB0 at its timestamp point. -/
def ptpRx (p : Nat) (frame : List Byte) (ns frac : Nat) (e : Env) (b : Blk) : Blk :=
  if ¬ b.running ∨ b.get (PORT_LINK_UP p) = 0 then b else
  match ethParse frame with
  | none => b.bump (PORT_RX_ERR_HIGH p)
  | some f =>
    if f.etype = 0x88F7 ∧ ptpDst b p f.dst then
      let b1 := b.bump (PORT_RX_OTHER_LOW p)
      if 16 ≤ (portQ b p).ptp.length then raise e SRC_PTP_RX_OVERFLOW 0 0 p (b1.bump (ptpDropFld p))
      else modQ p (fun q => { q with ptp := q.ptp ++ [⟨frame.take 128, frame.length, ns, frac, wrapLow e ns⟩] }) b1
    else b.bump (PORT_RX_OTHER_HIGH p)

/-- The head PTP frame is removed. -/
def ptpPop (p : Nat) (_ : Env) (b : Blk) : Blk :=
  localCmd (fun b => finish .ok (modQ p (fun q => { q with ptp := q.ptp.drop 1 }) b)) b

end Sys2Proof.Machine
end

