-- ==== Sys2Proof/Machine/Port.lean ====
section
/-! DEFINITION. The plant ports: links, PAUSE, discarded frames and launch descriptors (R393 to R399). -/

namespace Sys2Proof.Machine

def linkDownSrc (p : Nat) : Nat := if p = 0 then SRC_LINK_DOWN_A else SRC_LINK_DOWN_B

/-- The PHYs are powered, from a cold BOOT's step 4 on (R67, R80, R88), and the NET domain runs: PLL-N is locked (R91). -/
def physUp (b : Blk) : Bool := b.powered && !b.keep.scanned && !b.holdup && b.get CLK_STA_PLLN_LOCK == 1

/-- R394: the highest speed common to both: 2 for 2.5GBASE-T, 1 for 1000BASE-T, 0 none. -/
def commonSpeed (e : Env) (p : Nat) (p2g5 p1g : Bool) : Nat :=
  if e.get (PORT_CFG_ADV_2G5 p) = 1 ∧ p2g5 then 2 else if e.get (PORT_CFG_ADV_1G p) = 1 ∧ p1g then 1 else 0

/-- R394, R398: negotiation with a partner of the given abilities ends; `snr` and `cable` are the PHY's report. -/
def linkUp (p : Nat) (p2g5 p1g mdix pause : Bool) (snr cable : Nat) (e : Env) (b : Blk) : Blk :=
  let sp := commonSpeed e p p2g5 p1g
  if ¬ physUp b ∨ 2 ≤ p ∨ sp = 0 ∨ b.get (PORT_LINK_UP p) = 1 then b else
  let b1 := (((b.put (PORT_LINK_UP p) 1).put (PORT_LINK_SPEED p) sp).put (PORT_LINK_MDIX p) (boolBit mdix)).put
    (PORT_LINK_PARTNER_PAUSE p) (boolBit pause)
  let b2 := modPort p (fun x => { x with upAt := some e.now, pauseTill := 0, pausing := false, pauseAt := none, busyTill := 0 })
    ((b1.put (PORT_PHY_SNR_MARGIN p) (min 255 snr)).put (PORT_PHY_CABLE_M p) (min 255 cable))
  judgeAll e [⟨false, linkDownSrc p, 0, 0, 0, 0⟩,
    ⟨sp == 1 && e.get (PORT_CFG_ADV_2G5 p) == 1, SRC_LINK_SPEED_LOW, p, p, 0, 0⟩] b2

/-- A port's link goes: its registers. -/
def linkGone (p : Nat) (b : Blk) : Blk :=
  modPort p (fun x => { x with upAt := none, pauseTill := 0, pausing := false, pauseAt := none, txq := [], busyTill := 0 })
    (((b.put (PORT_LINK_UP p) 0).put (PORT_LINK_SPEED p) 0).put (PORT_LINK_UP_TIME p) 0)

/-- The conditions that a loss of link begins and ends (R398). -/
def linkConds (p : Nat) : List Cond := [⟨true, linkDownSrc p, 0, 0, 0, 0⟩, ⟨false, SRC_LINK_SPEED_LOW, p, p, 0, 0⟩]

/-- R398: a PHY loses its link. -/
def linkLoss (p : Nat) (e : Env) (b : Blk) : Blk :=
  if ¬ physUp b ∨ 2 ≤ p ∨ b.get (PORT_LINK_UP p) = 0 then b else
  judgeAll e (linkConds p)
    ((linkGone p b).bump (PORT_LINK_DOWN_CNT p))

def graceTimer (p : Nat) (b : Blk) : Option Nat :=
  if b.powered && !b.holdup then (b.ports[p]?).bind PortS.graceBy else none

/-- R398: the power-up grace of a port ends. -/
def linkGraceEnd (p : Nat) (e : Env) (b : Blk) : Blk :=
  let b1 := modPort p (fun x => { x with graceBy := none }) b
  judge e (b1.get (PORT_LINK_UP p) == 0) (linkDownSrc p) 0 0 0 0 b1

/-- The PHYs are powered up again: 10 s of grace begin (R398). -/
def physStart (e : Env) (b : Blk) : Blk :=
  { b with ports := b.ports.map (fun (x : PortS) => { x with graceBy := some (e.now + sec 10) }) }

/-- The PHYs are powered down: the links go, without a loss (R80, R398). -/
def physStop (b : Blk) : Blk :=
  let b1 := linkGone 1 (linkGone 0 b)
  { b1 with ports := b1.ports.map (fun (x : PortS) => { x with graceBy := none }) }

/-- R398: RESTART restarts negotiation, by which the link is lost until it comes up again; refused in CONNECTING and CONNECTED. -/
def portRestart (p : Nat) (e : Env) (b : Blk) : Blk := hostCmd (fun b =>
  if b.mode = .connecting ∨ b.mode = .connected then finish .denied b else finish .ok (linkLoss p e b)) b

/-- Quanta of 512 bit times in CORE periods, at a port's speed. -/
def quantaTicks (b : Blk) (p q : Nat) : Nat := if b.get (PORT_LINK_SPEED p) = 1 then q * 512 / 5 else q * 1024 / 25

/-- R396: a received PAUSE stops the port for its quanta; one of quanta 0 ends a pause. -/
def pauseRx (p quanta : Nat) (e : Env) (b : Blk) : Blk :=
  if b.running ∧ p < 2 ∧ b.get (PORT_LINK_UP p) = 1 then
    ethDrain e p (modPort p (fun x => { x with pauseTill := e.now + quantaTicks b p (min 65535 quanta) })
      ((ethDrain e p b).bump (PORT_PAUSE_RX p)))
  else b

/-- A PAUSE frame of the module (Annex 31B). -/
def sendPause (e : Env) (p quanta : Nat) (b : Blk) : Blk :=
  (ethSend e p ⟨[0x01#8, 0x80#8, 0xC2#8, 0#8, 0#8, 0x01#8], portMac b p, none, 0x8808,
    beBytes 2 1 ++ beBytes 2 quanta ++ List.replicate 42 0#8⟩ b).bump (PORT_PAUSE_TX p)

/-- A port's receive buffer in bytes, and the part that class 2 frames alone may use (R42, R396). -/
def portBuffer : Nat := 65536
def portReserve : Nat := 4096

/-- R396: the receive buffer's fill in bytes: PAUSE from 48 KiB, again every 6 ms above 16 KiB, released at 16 KiB. -/
def pauseRepeat (p fill : Nat) (e : Env) (b : Blk) : Blk :=
  if ¬ b.running ∨ 2 ≤ p ∨ b.get (PORT_LINK_UP p) = 0 then b else
  let kib := min portBuffer fill / 1024
  let b1 := ((ethDrain e p b).put (PORT_BUF_FILL p) kib).put (PORT_BUF_PEAK p) (max (b.get (PORT_BUF_PEAK p)) kib)
  let st := (b.ports[p]?).getD .down
  let mark := fun on (x : Blk) => modPort p (fun s => { s with pausing := on, pauseAt := if on then some e.now else none }) x
  if e.get (PORT_CFG_PAUSE_TX p) = 0 then b1
  else if ¬ st.pausing then (if 49152 ≤ fill then mark true (sendPause e p 0xFFFF b1) else b1)
  else if fill ≤ 16384 then mark false (sendPause e p 0 b1)
  else if (st.pauseAt.map (fun t => decide (t + ms 6 ≤ e.now))).getD true then mark true (sendPause e p 0xFFFF b1)
  else b1

/-- R395: the class a received frame is handled in: 2 PSF, 1 GRA, 3 PTP, 4 PAUSE. -/
def frameClass (b : Blk) (p : Nat) (f : EthF) : Option Nat :=
  if f.etype = 0x88B5 ∧ f.dst = portMac b p then
    (if f.body.take 1 = [2#8] then some 2 else if f.body.take 1 = [1#8] then some 1 else none)
  else if f.etype = 0x88F7 ∧ ptpDst b p f.dst then some 3
  else if f.etype = 0x8808 ∧ f.dst = [0x01#8, 0x80#8, 0xC2#8, 0#8, 0#8, 0x01#8] then some 4
  else none

/-- R395, R396: a frame that is not handled: bad (FCS or length; the FCS is not part of `frame`), of no class, or without room in its
share, which holds `fill` bytes; a PAUSE takes none. DESIGN CHOICE: the share of class 2 is the reserve, that of the others the rest
(notes/assumptions/120.md). -/
def frameDiscard (p : Nat) (frame : List Byte) (fcsOk : Bool) (fill : Nat) (e : Env) (b : Blk) : Blk :=
  if ¬ b.running ∨ b.holdup ∨ 2 ≤ p ∨ b.get (PORT_LINK_UP p) = 0 then b else
  if ¬ fcsOk ∨ ¬ frameSized frame then b.bump (PORT_RX_ERR_HIGH p) else
  match (ethParse frame).bind (frameClass b p) with
  | none => b.bump (PORT_RX_OTHER_HIGH p)
  | some c => if c = 4 ∨ fill + frame.length ≤ (if c = 2 then portReserve else portBuffer - portReserve) then b else raise e SRC_RX_DROP p 0 0 (b.bump (PORT_RX_ERR_LOW p))

/-- R399: one descriptor with an uncorrectable error is retired; `at_` is the place of the entry it held. -/
def descRetire (p : Nat) (e : Env) (b : Blk) (at_ : Option Nat) : Blk :=
  let b1 := match at_ with
    | some k => if k < (portQ b p).lq.length then (lqDrop p k b).bump (TIME_LQ_CNT_HIGH p) else b
    | none => b
  let b2 := raise e SRC_LQ_DESC_FAULT 0 0 0 (nvRequest .retained (b1.bump (PORT_DESC_RETIRED p)))
  if b2.get (PORT_DESC_SPARE_IN_USE p) < 8 then
    recordRaise e { src := SRC_RESERVE_IN, code := 7 }
      ((b2.bump (PORT_DESC_SPARE_IN_USE p)).put SYS_RESERVE_USED_USED (setBit (b2.get SYS_RESERVE_USED_USED) 7 true))
  else judge e true SRC_LQ_DESC_EXHAUSTED p 0 0 0
    (b2.put (PORT_DESC_CAPACITY p) (b2.get (PORT_DESC_CAPACITY p) - 1))

/-- R399: the scrub of a port's descriptors and those it found uncorrectable. -/
def descScrub (p : Nat) (bad : List (Option Nat)) (e : Env) (b : Blk) : Blk :=
  if b.running ∧ p < 2 then bad.foldl (descRetire p e) b else b

end Sys2Proof.Machine
end

