-- ==== Sys2Proof/Machine/Twin.lean ====
section
/-! DEFINITION. Twin operation: Twin Link, heartbeats, firefly line, mirroring, roles, takeover and handover (R400 to
R425). -/

namespace Sys2Proof.Machine

/-! ### What ends a delta stream, of which a change of role is one cause (R457, R459) -/

def modKeep (f : Keep → Keep) (b : Blk) : Blk := { b with keep := f b.keep }

/-- Put a bank's content. -/
def setBank (n : Nat) (c : Content) (b : Blk) : Blk :=
  modKeep (fun k => if n = 0 then { k with bank0 := c } else { k with bank1 := c }) b

/-- A stream ends and its bank is empty. -/
def streamDrop (b : Blk) : Blk := match b.keep.stream with
  | none => b
  | some s => ((setBank s.bank .empty (modKeep (fun k => { k with stream := none }) b)).put (KEEP_BANK_STATE s.bank) 0).put
      KEEP_STA_STREAMING 0

/-- R459: a stream is aborted with a cause. -/
def deltaFault (e : Env) (code : Nat) (b : Blk) : Blk :=
  if b.keep.stream = none then b else
  raise e SRC_DELTA_FAULT code 0 0 (((streamDrop b).put KEEP_CMD_STA_RESULT 4).put KEEP_CMD_STA_REASON code)

/-! ### The Twin Link -/

/-- Packets held for credits go on once there are some. -/
def laneFlush (e : Env) (k : Nat) (b : Blk) : Blk :=
  match b.tw.lanes[k]? with
  | none => b
  | some l => laneSendAll e k l.held (modLane k (fun l => { l with held := [] }) b)

def crcFld (k : Nat) : Fld := if k = 0 then TWIN_LANE_CNT_CRC_L0 else TWIN_LANE_CNT_CRC_L1

/-- R403, R404: a packet arrives. It is accepted with a correct CRC and the next expected SEQ; ACK frees what the partner has,
and returned credits are taken back. DEDUCED: a link-control packet acknowledges it and returns its own credits at once
(notes/assumptions/161.md). -/
def pktAccept (e : Env) (h : TwHdr) (m : TwMsg) (b : Blk) : Bool × Blk :=
  match b.tw.lanes[h.lane]? with
  | none => (false, b)
  | some l =>
    if b.get (laneFld h.lane) < 2 then (false, b)
    else if ¬ h.crcOk then
      (false, (modLane h.lane (fun l => { l with
        crcAt := (l.crcAt.filter (fun t => decide (e.now ≤ t + ms 1))) ++ [e.now], okSince := l.okSince.map (fun _ => e.now) }) b).bump
        (crcFld h.lane))
    else if h.seq ≠ (l.rxSeq + 1) % 65536 then (false, b)
    else
      let old := fun (s : Nat) => decide ((h.ack + 65536 - s) % 65536 < 32768)
      let waits := (l.unacked.filter (fun u => old u.1)).map (fun u => (e.now - u.2.1) / 200)
      let b1 := modLane h.lane (fun l => { l with
        rxSeq := h.seq
        ackAt := if l.unacked.any (fun u => old u.1) then e.now else l.ackAt
        unacked := l.unacked.filter (fun u => !(old u.1))
        used := setUsed h.credit.1 (usedOf l h.credit.1 - h.credit.2) l.used }) b
      (true, (laneFlush e h.lane (b1.put TWIN_LANE_STA_REPLAY_MAX
        (min 255 (waits.foldl max (b.get TWIN_LANE_STA_REPLAY_MAX))))).emit (.twinCtl h.lane h.seq m.vc m.credits))

/-- R214: a RAW packet; a frame that it brings is held for the close. -/
def rawReceive (p : TwHdr × List Byte) (e : Env) (b : Blk) : Blk :=
  if ¬ b.running ∨ ¬ b.twin then b else
  let (ok, b1) := pktAccept e p.1 (.raw p.2) b
  if ok then rawHold p.2 b1 else b1

/-- R404: the ACK has not advanced for 8 µs, nor has a replay begun: everything unacknowledged is sent again, oldest first. -/
def replay (k : Nat) (e : Env) (b : Blk) : Blk :=
  match b.tw.lanes[k]? with
  | none => b
  | some l =>
    if b.running && l.unacked.any (fun u => decide (max u.2.1 l.ackAt + us 8 ≤ e.now)) then
      l.unacked.foldl (fun (x : Blk) u => x.emit (.twin k u.1 l.rxSeq u.2.2))
        ((modLane k (fun l => { l with ackAt := e.now }) b).bump
          (if k = 0 then TWIN_LANE_CNT_REPLAY_L0 else TWIN_LANE_CNT_REPLAY_L1))
    else b

/-- R405, R43: the reserve of the second lane. -/
def laneReserve (e : Env) (b : Blk) : Blk :=
  let deg := laneUp b 0 != laneUp b 1
  reserveRecord e 4 b (b.put SYS_RESERVE_USED_USED (setBit (b.get SYS_RESERVE_USED_USED) 4 deg))

/-- What a lane that fails loses; it may retrain 100 ms later. -/
def laneGone (e : Env) (k : Nat) (b : Blk) : Blk :=
  modLane k (fun l => { l with unacked := [], held := [], used := [], crcAt := [], okSince := none, failAt := some e.now }) b

/-- R404: a lane fails: a packet 50 µs unacknowledged, symbol lock lost for 1 µs (`lock` gone), or 16 CRC errors within 1 ms.
What it had not got through goes out on the other lane (R405). -/
def twinLaneFail (k : Nat) (lockLost : Bool) (e : Env) (b : Blk) : Blk :=
  match b.tw.lanes[k]? with
  | none => b
  | some l =>
    let bad := lockLost || l.unacked.any (fun u => decide (u.2.1 + us 50 ≤ e.now)) ||
      decide (16 ≤ (l.crcAt.filter (fun t => decide (e.now ≤ t + ms 1))).length)
    if ¬ b.running ∨ ¬ b.twin ∨ ¬ bad ∨ b.get (laneFld k) = 0 then b else
    let b1 := (laneGone e k b).put (laneFld k) 0
    let b2 := if laneUp b1 (1 - k) then
        laneSendAll e (1 - k) (l.unacked.map (fun u => u.2.2) ++ l.held) b1 else b1
    laneReserve e (judge e true SRC_TWIN_LANE_FAIL k k 0 0 b2)

/-- R404: a lane that is down retrains; `lock` tells whether symbol lock returned. A lane that had failed must then prove itself for 1 s;
one that only starts is in use at once (R416). -/
def laneRetrain (k : Nat) (lock : Bool) (e : Env) (b : Blk) : Blk :=
  match b.tw.lanes[k]? with
  | none => b
  | some l =>
    let due := (l.failAt.map (fun t => decide (t + ms 100 ≤ e.now))).getD true
    if ¬ b.running ∨ ¬ b.twin ∨ b.get CLK_STA_PLLN_LOCK = 0 ∨ 2 ≤ b.get (laneFld k) ∨ ¬ due then b
    else if lock then
      (modLane k (fun l => { l with okSince := some e.now, failAt := some e.now, rxSeq := 65535, txSeq := 65535 }) b).put (laneFld k)
        (if inExc b SRC_TWIN_LANE_FAIL k then 3 else 2)
    else (modLane k (fun l => { l with failAt := some e.now }) b).put (laneFld k) 1

def laneTimer (k : Nat) (b : Blk) : Option Nat :=
  if b.running && b.get (laneFld k) == 3 then ((b.tw.lanes[k]?).bind TwLane.okSince).map (fun t => t + sec 1) else none

/-- R404: 1 s of error-free idle: the lane is in use again. -/
def laneRestore (k : Nat) (e : Env) (b : Blk) : Blk :=
  laneReserve e (endExc e SRC_TWIN_LANE_FAIL k
    ((modLane k (fun l => { l with failAt := none, crcAt := [] }) b).put (laneFld k) 2))

/-- R415: the parameter block and the confirmed PCV go to the STANDBY. -/
def regBlock (e : Env) (b : Blk) : Blk :=
  if b.role = .active then twSend e (.reg ⟨some (e.par, b.get SAFE_PCV_CONF), [], none, none⟩) b else b

/-- R411, R415: forwarded fields, or TB0's addend or step, go to the STANDBY. -/
def regFields (m : RegMap) (addend : Option Nat) (step : Option Int) (e : Env) (b : Blk) : Blk :=
  if b.role = .active then twSend e (.reg ⟨none, m, addend, step⟩) b else b

/-! ### Health and epochs -/

/-- R417: epoch `a` is higher than `b`; the epoch above; the epoch below. -/
def epochHigher (a b : Nat) : Bool :=
  let d := (a + 65536 - b % 65536) % 65536
  decide (1 ≤ d) && decide (d ≤ 32767)
def epochNext (a : Nat) : Nat := if a = 0xFFFF then 1 else a + 1
def epochPrev (a : Nat) : Nat := if a = 1 then 0xFFFF else a - 1

/-- R414: the health bits. -/
def healthBits (b : Blk) : Nat :=
  let st := b.role == .standby
  let orphan := b.get TWIN_STA_ORPHAN == 1
  let aligned := !st || (!orphan && b.tw.aligned && decide (iabs (b.int TWIN_ALIGN_RESIDUAL) ≤ 20))
  let shadow := !st || decide (1000 ≤ b.get TWIN_SHADOW_MATCH_RUN)
  let own := !(b.watch.act.any (fun a => decide (2 ≤ a.level) && !a.partner)) && b.get TRIP_STA_INSUFFICIENT == 0 && !isActive b SRC_COIL_SW_FAIL
  let pcv := b.get SAFE_STA_PCV_CONFIRMED == 1 && b.get SAFE_PCV == b.get SAFE_PCV_CONF
  let power := !b.holdup && b.get PWR_STA_HOLD_READY == 1
  let noLatch := !b.pwr.latch && b.get TRIP_STA_LATCH_A == 0 && b.get TRIP_STA_LATCH_B == 0 && b.get TRIP_STA_LATCH_C == 0 &&
    !(b.safe.pairs.any (fun p => p.locked))
  let follow := !st || match b.tw.mir with
    | none => false
    | some m => m.cmds == [commanded b 0, commanded b 1, commanded b 2, b.get SAFE_SW_STATE_SSBP_CMD == 1,
        b.get SAFE_SW_STATE_SSBN_CMD == 1] &&
        [0, 1, 2].all (fun k => fbClosed b k == commanded b k || b.seq.fbBy.isSome)
  boolBit aligned + 2 * boolBit shadow + 4 * boolBit own + 8 * boolBit pcv + 16 * boolBit power + 32 * boolBit noLatch +
    64 * boolBit follow

def healthShow (b : Blk) : Blk :=
  let h := if b.twin then healthBits b else 0
  (b.put TWIN_HEALTH_BITS h).put TWIN_HEALTH_HEALTHY (boolBit (h == 127))

/-- The epoch changes and is committed (R417). -/
def setEpoch (n : Nat) (b : Blk) : Blk := nvRequest .retained (b.put SYS_STATE_EPOCH n)

/-- The higher of two epochs. -/
def epochMax (a b : Nat) : Nat := if epochHigher b a then b else a

/-- Both paths are down (R408). -/
def bothLost (b : Blk) : Bool := !pathUp b

/-- R37, R121: a STANDBY runs no sequence of its own: every timer and test of one ends; picks of its coils run out (R143). -/
def seqYield (b : Blk) : Blk :=
  modSeq (fun q => { clearSeqTimers q with dis := none, tctrl := none, partnerRideBy := none })
    ((b.put SAFE_WELD_RESULT_PENDING 0).put SAFE_STA_ZERO_REQUEST 0)

/-- R231: what a STANDBY does not run of CHAIN: a running enumeration, slot or burst ends; frames that wait are not sent. -/
def chainYield (b : Blk) : Blk :=
  modChain (fun c => { c with
    enum := none, wait := [], owPlan := none, burst := none, authDue := []
    commit := c.commit.filter (fun k => k.at_.isSome)
    cmus := c.cmus.map (fun (m : CmuRec) => { m with nonce := none }) })
    ((((b.put CHAIN_STA_ENUM_RUNNING 0).put CHAIN_ENUM_CMD_ENUMERATE 0).put CHAIN_STA_BURST_RUNNING 0).put CHAIN_STA_REPAIR_RUNNING 0)

/-- R31, R421, R459: the module becomes STANDBY: a delta stream and its sequences end, its switches stay as they are, now in follow; injection and the diagnosis of
the chain stop, alignment and shadow comparison start anew. -/
def becomeStandby (e : Env) (b : Blk) : Blk :=
  let b0 := if b.role = .standby then b else deltaFault e 6 b
  let b1 := modTw (fun t => { t with
    aligned := false, alignOut := 0, alignIn := 0, yieldBy := none, ho := 0, relRx := none, mir := none
    skipTill := e.now + sec 1, hvsSince := none }) (imdStop { chainYield (seqYield b0) with role := .standby })
  ((b1.put TWIN_SHADOW_MATCH_RUN 0).put TWIN_STA_HANDOVER_RUNNING 0).put TWIN_STA_TAKEOVER_HOLD 0

/-- R421: what a new ACTIVE does with what the former active had running, from the mirrored mode, step and reaction; a fallback that
runs has no weld test after it (R137). DESIGN CHOICE: a coil test stays as it is, its coil commanded, until MAINTENANCE ends
(notes/assumptions/156.md). -/
def takeRunning (e : Env) (b : Blk) : Blk :=
  let step := seqStep b
  let rr := b.tw.mir.bind Mirror.rr
  let fell := step == stepFallback
  let d : Dis := ⟨false, rr.isSome || fell, false, (rr.map Prod.fst).getD (if fell then SRC_SSB_FALLBACK else 0), fell⟩
  let b1 := match b.mode with
    | .connecting => startDis e ⟨true, false, false, 0, false⟩ b
    | .connected =>
      if step = stepDisc1 then startDis e d b
      else if step = stepDisc2 then disStep2 e (modSeq (fun q => { q with dis := some d }) b)
      else if fell then setStep stepFallback (disStep2 e (modSeq (fun q => { q with dis := some d }) b))
      else b
    | _ =>
      if step = stepWeldAfter then
        armPulse e 1 .pulse1 (us 200) ((modSeq (fun q => { q with weld := some ⟨false, false, 0, none, none, 0, 0, 0⟩ }) b).put
          SAFE_WELD_RESULT_PENDING 1)
      else b
  match rr with
  | some (src, _) => raiseAll e [⟨src, 0, 0, 0, true, none⟩] b1
  | none => b1

/-- R425: a trip of the module's own that meets a takeover in one frame is the new ACTIVE's, which reacts to it. DEDUCED: in one frame is
within 1 ms (notes/assumptions/162.md). -/
def takeTrip (e : Env) (b : Blk) : Blk :=
  match b.watch.act.find? (fun a => a.src == SRC_CLICK_TRIP) with
  | none => b
  | some a =>
    if a.level < 3 ∨ b.mode = .tripped ∨ ¬ (b.trip.at_.any (fun t => decide (e.now ≤ t + ms 1))) then b else
    react e a.level SRC_CLICK_TRIP (if b.watch.rrRun then b else modWatch (fun w => { w with
      rrSrc := SRC_CLICK_TRIP, rrLevel := a.level, rrSeq := seqOf b SRC_CLICK_TRIP, rrMerge := 0, rrMap := [], rrRun := true }) b)

/-- R332, R415: the PCV of a changed block, which an ACTIVE then forwards with the block. -/
def pcvForward (e : Env) (b : Blk) : Blk :=
  let b1 := pcvRecompute e b
  if b1.twin ∧ b1.role = .active then regBlock e b1 else b1

/-- R201, R421: an owner's string that no one has enumerated is enumerated, after the hold that follows a takeover by lost paths. -/
def enumFirst (e : Env) (b : Blk) : Blk :=
  if b.get CHAIN_ENUM_STA_RESULT = 0 ∧ b.chain.enum = none ∧ b.get TWIN_STA_TAKEOVER_HOLD = 0 then enumStart e b else b

/-- R201, R417, R418, R421, R459: authority is taken, for a cause of TWIN.TAKEOVER; a string that no one has enumerated is. -/
def takeAuthority (cause : Nat) (e : Env) (b : Blk) : Blk :=
  let old := b.get SYS_STATE_EPOCH
  let new := epochNext (epochMax old b.tw.maxEpoch)
  let healthy := healthBits b == 127
  let b1 := modTw (fun t => { t with
    relRx := none, ho := 0, maxEpoch := new, yieldBy := none, pcmds := if cause = 1 then none else t.pcmds
    holdBy := if cause = 1 then some (e.now + ms 4) else none
    skipTill := e.now + sec 1 }) { deltaFault e 6 b with role := .active }
  let b2 := ((b1.put TWIN_STA_ORPHAN 0).put TWIN_STA_TAKEOVER_HOLD (boolBit (cause == 1))).bump TWIN_TAKEOVER_COUNT
  let b3 := setEpoch new ((b2.put TWIN_TAKEOVER_CAUSE cause).put TWIN_TAKEOVER_T_NS e.clk.ns0)
  let b4 := raise e SRC_AUTHORITY_CHANGE cause old new b3
  let b5 := match b.tw.relTime with
    | some (t, _) => if cause = 2 then
        (modSeq (fun q => { q with partnerRideBy := some t }) (modTw (fun t => { t with relTime := none }) b4)).put
          SAFE_STA_ZERO_REQUEST 1
      else b4
    | none => b4
  let b6 := takeTrip e (takeRunning e b5)
  let b7 := if cause ≠ 5 ∧ ¬ healthy then raise e SRC_TAKEOVER_UNHEALTHY 0 0 0 b6 else b6
  let b8 := heldFrame e none (modTw (fun t => { t with mir := none }) b7)
  healthShow (enumFirst e b8)

/-- R418: a STANDBY takes authority at a heartbeat boundary. -/
def takeover (e : Env) (b : Blk) : Blk :=
  if b.running ∧ b.twin ∧ b.role = .standby ∧ b.get TWIN_STA_ORPHAN = 0 ∧ ¬ b.tw.sameId ∧ b.tw.warmUntil = none ∧ b.tw.listenBy = none
  then
    match b.tw.relRx with
    | some c => takeAuthority c e b
    | none => if bothLost b then takeAuthority 1 e b else b
  else b

/-! ### Heartbeats and codes -/

/-- The role code of R406. -/
def hbRole (b : Blk) : Nat :=
  if b.tw.listenBy.isSome then 0 else if b.get TWIN_STA_ORPHAN = 1 then 3 else if b.role = .active then 1 else 2

/-- The payload of R406; `rel`, `prop` and `acc` are its RELINQUISH, HANDOVER_PROPOSE and HANDOVER_ACCEPT bits. -/
def hbBytes (e : Env) (b : Blk) (rel prop acc : Bool) (warm : Bool) (epoch : Nat) : List Byte :=
  let h := healthBits b
  let fl := boolBit (h == 127) + 2 * boolBit rel + 4 * boolBit prop + 8 * boolBit acc + 16 * boolBit b.holdup +
    32 * boolBit b.pwr.latch + 64 * boolBit warm
  leBytes 1 (hbRole b) ++ leBytes 1 fl ++ leBytes 2 epoch ++ leBytes 2 h ++ leBytes 1 b.mode.code ++
  leBytes 1 (b.get PWR_BOOT_BOOT_NUMBER) ++ leBytes 4 e.clk.ns1 ++ leBytes 4 ((b.tw.rxTb1.map Prod.fst).getD 0) ++
  leBytes 4 ((b.tw.rxTb1.map (fun p => (e.now - p.2) * 5)).getD 0) ++ leBytes 4 e.clk.ns0 ++
  leBytes 4 (if b.holdup ∧ b.role = .active then (b.tw.relSend.getD 0) else 0) ++ leBytes 1 (e.get PWR_RIDE_TIME) ++
  leBytes 1 (b.get SYS_STRAPS_TWIN_ID + 2 * (b.get SYS_STRAPS_ADDR % 16)) ++ leBytes 2 0

/-- An SSB's command as mirrored: on, but not by a pulse that is announced instead (R143). -/
def ssbHeld (b : Blk) (k : Nat) : Bool :=
  b.get (if k = 0 then SAFE_SW_STATE_SSBP_CMD else SAFE_SW_STATE_SSBN_CMD) == 1 &&
  !((b.seq.announce.map (fun p => p.1 == k + 1)).getD false)

/-- The result registers of what only the ACTIVE runs, which its standby shows too: the insulation result (R168), enumeration,
authentication, open-wire and burst state (R231). -/
def mirroredFlds : List Fld :=
  [HVS_IMD_RES_R_ISO, HVS_IMD_RES_BELOW, HVS_IMD_RES_ABOVE, HVS_IMD_RES_VALID, HVS_IMD_RES_CYCLES, HVS_IMD_DETAIL_PERIOD,
   HVS_IMD_DETAIL_CAP, HVS_STA_IMD_VALID, CHAIN_STA_ENUM_RUNNING, CHAIN_STA_BURST_RUNNING, CHAIN_STA_OW_DEFERRING,
   CHAIN_STA_REPAIR_RUNNING, CHAIN_STA_UNCONFIRMED, CHAIN_STA_FOREIGN, CHAIN_ENUM_STA_RESULT, CHAIN_ENUM_STA_FOUND1,
   CHAIN_ENUM_STA_FOUND2, CHAIN_ENUM_STA_DURATION, CHAIN_OW_STA_TESTS, CHAIN_OW_STA_LAST_TOOK]

/-- What a STANDBY takes over of a CMU's record. -/
def cmuRes (m : CmuRec) : CmuRes :=
  ⟨m.index, m.serves, m.state, m.serial, m.conf, m.hopA, m.hopB, m.home, m.wires, m.passes, m.auth, m.tries⟩

def CmuRec.take (m : CmuRec) (r : CmuRes) : CmuRec :=
  { m with
    index := r.index, serves := r.serves, state := r.state, serial := r.serial, conf := r.conf, hopA := r.hopA, hopB := r.hopB
    home := r.home, wires := r.wires, passes := r.passes, auth := r.auth, tries := r.tries }

/-- The results of CHAIN that are mirrored (R231). -/
def chainRes (e : Env) (b : Blk) : ChainRes :=
  { count := b.chain.count, retire := b.chain.retire, cmus := b.chain.cmus.map cmuRes
    marks := b.chain.cells.map (fun (c : CellRec) => (c.unsure, c.endWire, c.stepLo, c.stepHi))
    zs := b.ledger.cells.map (fun (l : LCell) => (l.z, l.zCos, l.phase, l.rHeld, l.zAt.map (fun t => e.now - t)))
    pairs := b.ledger.pairs, owAge := e.now - b.chain.owLast }

/-- The mirrored state of R412. DESIGN CHOICE: load-broken marks and weld verdicts are not mirrored (notes/assumptions/157.md). -/
def mkMirror (e : Env) (b : Blk) : Mirror :=
  { lat := b.ledger.last, sweep := b.get CHAIN_SWEEP_STA_ID, t := b.get CHAIN_SWEEP_T_T
    complete := b.get CHAIN_SWEEP_STA_FLAGS % 2 == 1
    next := b.chain.flight.map (fun (s : Sweep) => (s.id, s.t, s.auto))
    cmds := [commanded b 0, commanded b 1, commanded b 2, ssbHeld b 0, ssbHeld b 1]
    mode := b.mode.code, step := seqStep b, busMax := b.therm.ownBus
    xfers := b.shuttle.xfers, nextTid := b.get SHUTTLE_NEXT_ID_ID, frames := b.shuttle.frames, dig := some (digests b)
    acts := b.watch.act.map (fun a => (a.src, a.level))
    rr := if b.watch.rrRun then some (b.watch.rrSrc, b.watch.rrLevel) else none
    ff := if b.watch.ffValid then b.watch.ff else none
    raises := [], pulse := b.seq.announce, hreq := false, so := soMap e b
    ret := b.seq.maintFromTripped && !b.seq.resetSince, win := b.safe.win, conf := (b.trip.confP, b.trip.confN)
    clears := b.trip.clears
    regs := mirroredFlds.foldl (fun (m : RegMap) f => m.put f (b.get f)) [], chain := chainRes e b }
where
  /-- The digests of R413; the spec gives no byte layout, so each is an open function of what it covers. That of the plan stands in
  the frames of a plan cycle only. -/
  digests (b : Blk) : List Nat :=
    let cs := b.ledger.cells.take (cellCount b)
    let d := fun tag l => (Config.openResult tag l).toNat % 2 ^ 32
    [d 4130 (cs.flatMap (fun c => [qOf b c, (c.bound : Int), (c.cap : Int), (lstateOf c : Int)])),
     d 4131 [b.get LEDGER_LIM_CHG_LIMIT, b.get LEDGER_LIM_DSG_LIMIT, b.get LEDGER_LIM_CAUSE_CHG_CELL,
       b.get LEDGER_LIM_CAUSE_CHG_TERM, b.get LEDGER_LIM_CAUSE_DSG_CELL, b.get LEDGER_LIM_CAUSE_DSG_TERM,
       b.get LEDGER_STA_FULL, b.get LEDGER_STA_EMPTY],
     d 4132 (b.tw.raised.map (fun x => (boolBit x : Int)) ++
       (b.chain.cells.take (cellCount b)).flatMap (fun c => [(c.ovN : Int), (c.uvN : Int)]))] ++
    (if b.shuttle.frames = 0 then [b.get SHUTTLE_PLAN_DIGEST_DIGEST] else [])

/-- R210, R412: an announcement of the ACTIVE is mirrored at once. -/
def mirrored (f : Env → Blk → Blk) (e : Env) (b : Blk) : Blk :=
  let b1 := f e b
  if b1.twin ∧ b1.role = .active ∧ b1.chain.flight ≠ b.chain.flight then
    let m := mkMirror e b1
    twSend e (.mirror m) (modTw (fun t => { t with sent := some m }) b1)
  else b1

/-- R214: a SWEEP_DATA copy arrives; a good one goes to the partner over RAW. -/
def sweepDataTwin (endB : Bool) (p : Nat) (isup : Option (Nat × Int)) (f : List Byte) (e : Env) (b : Blk) : Blk :=
  let b1 := sweepData endB p isup f e b
  let has := fun (x : Blk) => ((x.chain.flight.filter (fun s => s.has p)).map Sweep.id)
  if b1.twin ∧ has b1 ≠ has b then twSend e (.raw f) b1 else b1

/-- The sender will warm-boot next (R408). -/
def warmNext (b : Blk) : Bool := (b.keep.act.map (fun a => decide (1 ≤ a.stage))).getD false

/-- R406: a heartbeat at a TB2 boundary, with the stages of a handover, which the RELINQUISH completes, or of a relinquish, which
abandons one (R423 to R425); the module mirrors what
changed since it last did (R299, R412). -/
def heartbeatSend (e : Env) (b : Blk) : Blk :=
  if ¬ b.running ∨ ¬ b.twin then b else
  let act := b.role == .active
  let rel := act && (b.tw.relSend.isSome || (b.tw.ho == 3 && !b.watch.rrRun))
  let prop := act && (b.tw.ho == 1 || b.tw.ho == 2)
  let acc := !act && b.tw.ho == 4
  let epoch := if prop then epochNext (b.get SYS_STATE_EPOCH) else b.get SYS_STATE_EPOCH
  let b0 := healthShow b
  let b1 := twSend e (.hb (hbBytes e b0 rel prop acc (warmNext b) epoch)) b0
  let b1 := if rel ∧ 1 ≤ b.tw.ho then b1.put TWIN_CMD_RESULT (if b.tw.relSend.isSome then 3 else 1) else b1
  let b2 := modTw (fun t => { t with
    hoBound := if t.ho = 2 then t.hoBound + 1 else if t.ho = 1 then 0 else t.hoBound
    ho := if t.ho = 1 then 2 else t.ho
    relFf := t.relFf || rel, relSend := if rel then none else t.relSend }) b1
  let m := mkMirror e b2
  let b3 := if b2.tw.sent ≠ some m then twSend e (.mirror m) (modTw (fun t => { t with sent := some m }) b2) else b2
  if rel then becomeStandby e b3 else b3

/-- R407: the eight bits of the firefly code. -/
def ffCode (b : Blk) : Nat :=
  let low := hbRole b + 4 * boolBit b.tw.relFf + 8 * boolBit (healthBits b == 127) + 16 * (b.get SYS_STATE_EPOCH % 8)
  let ones := ((List.range 7).map (fun n => boolBit (bitOf low n))).sum
  low + 128 * ((ones + 1) % 2)

def fireflySend (_ : Env) (b : Blk) : Blk :=
  if b.running ∧ b.twin then modTw (fun t => { t with relFf := false }) (b.emit (.firefly (ffCode b))) else b

/-- A path is up again: its source ends, PARTNER_LOST ends, a pending yield stops (R408, R425). -/
def pathBack (src : Nat) (f : Fld) (e : Env) (b : Blk) : Blk :=
  judgeAll e [⟨false, src, 0, 0, 0, 0⟩, ⟨false, SRC_PARTNER_LOST, 0, 0, 0, 0⟩]
    (modTw (fun t => { t with yieldBy := none }) (b.put f 1))

/-- The epoch nearest to the module's own that a firefly code's three bits name (R407, R417). DEDUCED: the spec compares these bits
modulo 8 and names no other bits of such an epoch (notes/assumptions/122.md). -/
def ffEpoch (own bits : Nat) : Nat :=
  let d := (bits + 8 - own % 8) % 8
  if d ≤ 3 then (own + d) % 65536 else (own + 65536 + d - 8) % 65536

/-- R422, R417: both modules claim authority; a module X that keeps it at equal epochs raises its own. DEDUCED: that is the change of
authority whose cause is 4 (notes/assumptions/141.md). -/
def conflict (epoch : Nat) (e : Env) (b : Blk) : Blk :=
  let own := b.get SYS_STATE_EPOCH
  let yield_ := epochHigher epoch own || (epoch == own && b.get SYS_STRAPS_TWIN_ID == 1)
  if yield_ then
    raise e SRC_AUTHORITY_CONFLICT 0 0 0 (becomeStandby e (setEpoch epoch b))
  else if epoch = own then
    raise e SRC_AUTHORITY_CHANGE 4 own (epochNext own) (setEpoch (epochNext own)
      (((b.bump TWIN_TAKEOVER_COUNT).put TWIN_TAKEOVER_CAUSE 4).put TWIN_TAKEOVER_T_NS e.clk.ns0))
  else b

/-- R416, R422: the role and epoch that a firefly code tells, to a module that listens, an ACTIVE, or an ORPHAN. -/
def fireflyRole (code : Nat) (e : Env) (b : Blk) : Blk :=
  let role := code % 4
  let epoch := ffEpoch (b.get SYS_STATE_EPOCH) (code / 16 % 8)
  if b.tw.listenBy.isSome then modTw (fun t => { t with
      maxEpoch := if t.maxEpoch = 0 then epoch else epochMax t.maxEpoch epoch
      heard := if role = 1 ∧ t.heard.map Prod.fst ≠ some 1 then some (role, epoch) else t.heard.or (some (role, epoch)) }) b
  else if role ≠ 1 then b
  else if b.role = .active then conflict epoch e b
  else if b.get TWIN_STA_ORPHAN = 1 then setEpoch epoch ((becomeStandby e b).put TWIN_STA_ORPHAN 0)
  else b

/-- R407, R408: a firefly code: its 8 bits, its start pulse in ns. -/
def fireflyCode (code pulse : Nat) (e : Env) (b : Blk) : Blk :=
  if ¬ b.running ∨ ¬ b.twin then b else
  let ones := ((List.range 8).map (fun n => boolBit (bitOf code n))).sum
  let timing := b.get TWIN_STA_FF_PATH_OK == 0 || (b.tw.ffAt.map (fun t =>
    decide (t + us 980 ≤ e.now) && decide (e.now ≤ t + us 1020))).getD true
  if 6000 ≤ pulse ∧ pulse ≤ 10000 ∧ ones % 2 = 1 ∧ timing then
    let b1 := (modTw (fun t => { t with ffAt := some e.now }) b).put TWIN_FF_STA_LAST (code % 256)
    let b2 := fireflyRole code e (pathBack SRC_FIREFLY_PATH_LOST TWIN_STA_FF_PATH_OK e b1)
    if bitOf code 2 ∧ b2.role = .standby ∧ b2.get TWIN_STA_ORPHAN = 0 then
      modTw (fun t => { t with relRx := some (t.relRx.getD 2) }) b2 else b2
  else b.bump TWIN_FF_STA_BAD

/-- R411: the offset of the standby's TB1 counter against the active, and the one-way delay in 0.1 ns. -/
def tb1Offset (rx tx echo turn : Nat) : Int × Int :=
  let fwd := sdiff32 rx tx
  let back := sdiff32 ((tx + 2 ^ 32 - turn) % 2 ^ 32) echo
  ((fwd - back) / 2, (fwd + back) * 5)

/-- R411: a STANDBY follows each heartbeat: TB1_OFS is set by the first, then moved by at most 2 ns. -/
def align (rx tx echo turn : Nat) (e : Env) (b : Blk) : Blk :=
  let (off, delay) := tb1Offset rx tx echo turn
  let cur := b.int TWIN_TB1_OFS_OFS
  let ofs := if ¬ b.tw.aligned then off else if cur + 2 < off then cur + 2 else if off < cur - 2 then cur - 2 else off
  let res := max (-32768) (min 32767 (off - ofs))
  let out := decide (50 < iabs res)
  let b1 := modTw (fun t => { t with
    aligned := true
    alignOut := if out then t.alignOut + 1 else 0
    alignIn := if out then 0 else t.alignIn + 1 }) b
  let b2 := ((b1.putInt TWIN_TB1_OFS_OFS ofs).putInt TWIN_ALIGN_RESIDUAL res).put TWIN_ALIGN_DELAY (min 65535 delay.toNat)
  judge e (decide (10 ≤ b2.tw.alignOut) || (inExc b SRC_TWIN_ALIGN_FAULT 0 && decide (b2.tw.alignIn < 10)))
    SRC_TWIN_ALIGN_FAULT 0 0 0 0 b2

/-- A time on TB1 as used, on the counter itself (R411). -/
def rawTb1 (ns : Nat) (b : Blk) : Nat := (((ns : Int) - b.int TWIN_TB1_OFS_OFS) % 2 ^ 32).toNat

/-- R406, R408, R411, R416, R422 to R424: the content of a partner heartbeat. The epoch that a proposal names is not yet anyone's: its sender
still holds the one below (R423). -/
def heartbeatIn (p : List Byte) (e : Env) (b : Blk) : Blk :=
  let role := leVal (slice p 0 1)
  let fl := leVal (slice p 1 1)
  let told := leVal (slice p 2 2)
  let epoch := if bitOf fl 2 then epochPrev told else told
  let health := leVal (slice p 4 2)
  let tx := leVal (slice p 8 4)
  let same := leVal (slice p 29 1) % 2 == b.get SYS_STRAPS_TWIN_ID
  let b1 := modTw (fun t => { t with
    hbAt := some e.now, rxTb1 := some (tx, e.now)
    maxEpoch := if t.maxEpoch = 0 then epoch else epochMax t.maxEpoch epoch
    warmUntil := if bitOf fl 6 then some (e.now + ms 150) else none
    sameId := t.sameId || same
    heard := if t.listenBy.isSome then some (match t.heard with
      | some (1, ep) => if role = 1 then (role, epoch) else (1, ep)
      | _ => (role, epoch)) else t.heard }) b
  let b2 := ((((b1.put TWIN_PARTNER_BITS (health % 128)).put TWIN_PARTNER_HEALTHY (fl % 2)).put TWIN_PARTNER_ROLE (role % 4)).put
    TWIN_PARTNER_HOLDUP (boolBit (bitOf fl 4))).put TWIN_PARTNER_EPOCH told
  let b3 := pathBack SRC_TWIN_LINK_PATH_LOST TWIN_STA_TL_PATH_OK e (b2.put TWIN_STA_WARM_EXPECTED (boolBit (bitOf fl 6)))
  if same then
    judge e true SRC_TWIN_CFG_FAULT 0 0 0 0 (((becomeStandby e b3).put TWIN_STA_ORPHAN 0).put SYS_STA_TWIN_CFG_FAULT 1)
  else if b3.tw.listenBy.isSome then b3
  else if b3.role = .active then
    let join := if role = 2 ∧ (b.get TWIN_PARTNER_ROLE ≠ 2 ∨ b.get TWIN_STA_TL_PATH_OK = 0) then regBlock e b3 else b3
    let b4 := judge e (role == 2 && fl % 2 == 0) SRC_PARTNER_UNHEALTHY 0 0 0 0 join
    let b5 := if b4.tw.ho = 2 ∧ bitOf fl 3 then modTw (fun t => { t with ho := 3 }) b4 else b4
    let b6 := if b5.seq.partnerRideBy.isSome ∧ ¬ bitOf fl 4 then
        (modSeq (fun q => { q with partnerRideBy := none }) b5).put SAFE_STA_ZERO_REQUEST (boolBit b5.seq.tctrl.isSome) else b5
    if role = 1 then conflict epoch e b6 else b6
  else
    let orphan := b3.get TWIN_STA_ORPHAN == 1
    let b4 := if role = 1 ∧ (epochHigher epoch (b3.get SYS_STATE_EPOCH) ∨ orphan) then
        setEpoch epoch ((if orphan then becomeStandby e b3 else b3).put TWIN_STA_ORPHAN 0) else b3
    let b5 := if role = 1 then align (rawTb1 e.clk.ns1 b4) tx (rawTb1 (leVal (slice p 12 4)) b4) (leVal (slice p 16 4)) e b4 else b4
    let b6 := if bitOf fl 2 ∧ healthBits b5 = 127 then modTw (fun t => { t with ho := 4 }) b5
      else if bitOf fl 1 then b5 else modTw (fun t => { t with ho := 0 }) b5
    if bitOf fl 1 ∧ b6.get TWIN_STA_ORPHAN = 0 then
      if bitOf fl 4 then
        let dt := sdiff32 ((leVal (slice p 24 4) + 1000000 * leVal (slice p 28 1)) % 2 ^ 32) e.clk.ns1
        modTw (fun t => { t with relRx := some 2, relTime := some (e.now + dt.toNat / 5, leVal (slice p 28 1)) }) b6
      else if b6.tw.ho = 4 then takeAuthority 3 e b6
      else modTw (fun t => { t with relRx := some 3 }) b6
    else b6

/-- R404, R406: a heartbeat packet arrives on a lane. -/
def heartbeat (h : TwHdr) (p : List Byte) (e : Env) (b : Blk) : Blk :=
  if ¬ b.running ∨ ¬ b.twin then b else
  let (ok, b1) := pktAccept e h (.hb p) b
  if ok ∧ p.length = 32 then healthShow (heartbeatIn p e b1) else b1

/-! ### Paths -/

/-- The time at which an ACTIVE without paths yields: 4 ms after the latest heartbeat or code (R419). -/
def yieldDue (t : Twin) : Nat := max (t.hbAt.getD 0) (t.ffAt.getD 0) + ms 4

/-- R408, R419: a path is declared lost: 0 the Twin Link, 1 the firefly line. DEDUCED: one on which nothing has come since boot raises
its source and nothing else, for R416 says what such a module does (notes/assumptions/163.md). -/
def pathLost (path : Nat) (e : Env) (b : Blk) : Blk :=
  let at_ := if path = 0 then b.tw.hbAt else b.tw.ffAt
  let f := if path = 0 then TWIN_STA_TL_PATH_OK else TWIN_STA_FF_PATH_OK
  let src := if path = 0 then SRC_TWIN_LINK_PATH_LOST else SRC_FIREFLY_PATH_LOST
  let due : Bool := match at_ with
    | some t => decide (t + ms 3 ≤ e.now)
    | none => (b.tw.listenBy.map (fun t => decide (t ≤ e.now + ms 17))).getD true
  if ¬ b.running ∨ ¬ b.twin ∨ 2 ≤ path ∨ ¬ due ∨ b.tw.warmUntil.isSome then b
  else if b.get f = 0 then (if at_ = none then judge e true src 0 0 0 0 b else b) else
  let b1 := b.put f 0
  let b2 := if path = 1 then b1.bump TWIN_FF_STA_LOSSES else b1
  let gone := bothLost b2 && b2.role == .active
  let seen := b2.get TWIN_STA_PARTNER_SEEN == 1
  let b3 := if gone && seen then
      modTw (fun t => { t with yieldBy := some (yieldDue t) }) b2 else b2
  let own : List Cond := [⟨true, src, 0, 0, 0, 0⟩]
  judgeAll e (if gone && !seen then own ++ [⟨true, SRC_PARTNER_LOST, 0, 0, 0, 0⟩] else own) b3

/-- R410, R419, R31: a partner's beacon at one of the module's own ring end ports. An ACTIVE that has declared both paths lost and sees
its partner again yields, 4 ms after the latest heartbeat or code at the earliest. -/
def partnerBeacon (port : Nat) (e : Env) (b : Blk) : Blk :=
  if b.running ∧ b.twin ∧ (endOfPort b port).isSome then
    let b1 := (modTw (fun t => { t with seenAt := some e.now, unseenAt := none }) b).put TWIN_STA_PARTNER_SEEN 1
    if b.get TWIN_STA_PARTNER_SEEN = 0 ∧ b.role = .active ∧ bothLost b ∧ b.tw.warmUntil = none then
      endExc e SRC_PARTNER_LOST 0 (modTw (fun t => { t with yieldBy := some (max e.now (yieldDue t)) }) b1)
    else b1
  else b

def seenTimer (b : Blk) : Option Nat :=
  if b.running && b.get TWIN_STA_PARTNER_SEEN == 1 then b.tw.seenAt.map (fun t => t + ms 3) else none

/-- R410, R419: no partner beacon for 3 ms; an ACTIVE without paths then keeps authority. -/
def partnerSeenExpiry (e : Env) (b : Blk) : Blk :=
  let b1 := (modTw (fun t => { t with unseenAt := some e.now }) b).put TWIN_STA_PARTNER_SEEN 0
  if b1.twin ∧ b1.role = .active ∧ bothLost b1 then
    judge e true SRC_PARTNER_LOST 0 0 0 0 (modTw (fun t => { t with yieldBy := none }) b1)
  else b1

def yieldTimer (b : Blk) : Option Nat := if b.running && b.role == .active then b.tw.yieldBy else none

/-- R419: an ACTIVE without paths that still sees its partner yields as ORPHAN. -/
def orphanYield (e : Env) (b : Blk) : Blk :=
  if bothLost b then raise e SRC_AUTHORITY_CONFLICT 0 0 0 ((becomeStandby e b).put TWIN_STA_ORPHAN 1)
  else modTw (fun t => { t with yieldBy := none }) b

def resumeTimer (b : Blk) : Option Nat :=
  if b.running && b.get TWIN_STA_ORPHAN == 1 && !b.tw.sameId && b.get TWIN_STA_PARTNER_SEEN == 0 then b.tw.unseenAt.map (fun t => t + ms 3)
  else none

/-- R419, R24: an ORPHAN takes authority back, unless both modules have the same TWIN_ID. -/
def orphanResume (e : Env) (b : Blk) : Blk := takeAuthority 6 e b

def holdEndTimer (b : Blk) : Option Nat := if b.powered then b.tw.holdBy else none

/-- R421: the 4 ms hold ends. -/
def takeoverHoldEnd (e : Env) (b : Blk) : Blk :=
  let b1 := (modTw (fun t => { t with holdBy := none }) b).put TWIN_STA_TAKEOVER_HOLD 0
  if b1.running ∧ b1.role = .active then enumFirst e b1 else b1

def suspendTimer (b : Blk) : Option Nat := if b.running then b.tw.warmUntil else none

/-- R408: 150 ms after WARM_BOOT_NEXT. -/
def warmSuspendEnd (_ : Env) (b : Blk) : Blk := (modTw (fun t => { t with warmUntil := none }) b).put TWIN_STA_WARM_EXPECTED 0

def listenTimer (b : Blk) : Option Nat := if b.running then b.tw.listenBy else none

/-- R416, R24: the role and epoch at the end of the boot listen. -/
def bootListenEnd (e : Env) (b : Blk) : Blk :=
  let own := b.get SYS_STATE_EPOCH
  let b1 := modTw (fun t => { t with listenBy := none, heard := none }) b
  if b.tw.sameId then becomeStandby e b1 else
  match b.tw.heard with
  | some (1, ep) => becomeStandby e (setEpoch ep b1)
  | some (_, ep) =>
    if b.get SYS_STRAPS_TWIN_ID = 0 then takeAuthority 5 e (modTw (fun t => { t with maxEpoch := epochMax own ep }) b1)
    else becomeStandby e b1
  | none =>
    let b2 := takeAuthority 5 e (modTw (fun t => { t with maxEpoch := own }) b1)
    if b2.get TWIN_STA_PARTNER_SEEN = 1 then b2 else judge e true SRC_PARTNER_LOST 0 0 0 0 b2

/-! ### Planned handover -/

/-- R423: the conditions of a planned handover. -/
def handoverOk (b : Blk) : Bool :=
  b.twin && b.role == .active && b.get TWIN_PARTNER_ROLE == 2 && b.get TWIN_PARTNER_HEALTHY == 1 && !b.holdup &&
  b.get TWIN_PARTNER_HOLDUP == 0 && b.get TWIN_STA_TL_PATH_OK == 1 && seqStep b == stepIdle && b.mode != .connecting && !b.watch.rrRun

/-- A handover begins. -/
def handoverStart (_ : Env) (b : Blk) : Blk :=
  (modTw (fun t => { t with ho := 1, hoBound := 0 }) b).put TWIN_STA_HANDOVER_RUNNING 1

/-- R423: HANDOVER. -/
def handover (e : Env) (b : Blk) : Blk := hostCmd (fun b =>
  if handoverOk b then finish .ok (handoverStart e b) else finish .denied (if b.twin then b.put TWIN_CMD_RESULT 2 else b)) b

/-- R423: no accept by the second boundary after the proposal, or a raise at L3 or above before it is complete. -/
def handoverAbort (_ : Env) (b : Blk) : Blk :=
  if b.running ∧ b.role = .active ∧ 1 ≤ b.tw.ho ∧ b.tw.ho ≤ 3 ∧ ((b.tw.ho = 2 ∧ 2 ≤ b.tw.hoBound) ∨ b.watch.rrRun) then
    ((modTw (fun t => { t with ho := 0 }) b).put TWIN_STA_HANDOVER_RUNNING 0).put TWIN_CMD_RESULT 3
  else b

/-! ### Mirroring -/

/-- A mode's code as a mode. -/
def modeOf (n : Nat) : Mode := match n with
  | 1 => .commissioning
  | 2 => .isolated
  | 3 => .connecting
  | 4 => .connected
  | 5 => .tripped
  | 6 => .maintenance
  | _ => .transient

/-- R413, R164: the bits in which the standby differs from the mirrored frame: digests in their order, and what the standby itself
latched. DESIGN CHOICE: the mirrored current scales the window of R161 (notes/assumptions/118.md). -/
def shadowDiff (e : Env) (m : Mirror) (b : Blk) : Nat × Bool :=
  let own := mkMirror.digests b
  let ds := m.dig.getD []
  let dig := ((List.range (min ds.length own.length)).map (fun n => boolBit (ds[n]? != own[n]?) * 2 ^ n)).sum
  let hv := match m.lat, b.ledger.own.filter (fun o => o.t == m.t) with
    | some a, some c => decide (xchkWindow e a.i < iabs (a.i - c.i)) || decide (xchkWindow e a.iH < iabs (a.iH - c.iH)) ||
        (List.zipWith (fun x y => decide (440 < iabs (x - y))) a.v c.v).any id
    | _, _ => false
  (dig, hv)

/-- R413: one frame's comparison on the STANDBY, made once, when both modules have closed the frame, a plan cycle's when both have
planned (R282). -/
def shadow (m : Mirror) (e : Env) (b0 : Blk) : Blk :=
  let plan := decide (100 ≤ b0.shuttle.frames) || (b0.shuttle.frames == 0 && m.frames != 0)
  let pend := b0.chain.flight.any (fun s => s.t == m.t) || plan
  if m.dig = none ∨ m.lat = none ∨ pend ∨ b0.tw.cmpT = some m.t then b0 else
  let b := modTw (fun t => { t with cmpT := some m.t }) b0
  if ¬ m.complete ∨ b.get CHAIN_SWEEP_STA_FLAGS % 2 = 0 ∨ m.t ≠ b.get CHAIN_SWEEP_T_T ∨ e.now < b.tw.skipTill then
    b.bump TWIN_SHADOW_CNT_NOT_COMPARED
  else
    let (dig, hv) := shadowDiff e m b
    let since := if hv then some (b.tw.hvsSince.getD e.now) else none
    let long := (since.map (fun t => decide (t + ms (e.get HVS_XCHK_WIN_TIME) ≤ e.now))).getD false
    let bits := dig + 16 * boolBit long
    let b1 := modTw (fun t => { t with hvsSince := since }) b
    if bits = 0 then b1.bump TWIN_SHADOW_MATCH_RUN
    else raise e SRC_SHADOW_MISMATCH bits 0 0
      (((b1.put TWIN_SHADOW_LAST_MISMATCH bits).put TWIN_SHADOW_MATCH_RUN 0).bump TWIN_SHADOW_CNT_MISMATCH)

/-- R29, R30, R143: a contactor's mirrored command. Open releases the coil; a change to closed picks it, or closes its series switch,
unless this module's own thermal latch holds it open: an open command wins. -/
def followCoil (old : Option Mirror) (m : Mirror) (k : Nat) (e : Env) (b : Blk) : Blk :=
  let want := (m.cmds[k]?).getD false
  if ¬ want then releaseCoil k b
  else if old.map (fun o => (o.cmds[k]?).getD false) = some true ∨ commanded b k ∨ b.pwr.latch then b
  else pickCoil e k b

/-- R29, R30: an SSB's mirrored command, in the same way. -/
def followSsb (old : Option Mirror) (m : Mirror) (k : Nat) (e : Env) (b : Blk) : Blk :=
  let want := (m.cmds[3 + k]?).getD false
  if ¬ want then ssbSet e k false b
  else if old.map (fun o => (o.cmds[3 + k]?).getD false) = some true ∨ b.pwr.latch then b
  else ssbSet e k true b

/-- R185, R183: the STANDBY clears its own latches when the active's disconnect step 2 is confirmed after a trip; an SSB is confirmed on
as the active has it. -/
def followLatch (old : Option Mirror) (m : Mirror) (e : Env) (b : Blk) : Blk :=
  let b1 := if (old.map (fun o => o.clears != m.clears)).getD false then latchClear e b else b
  modTrip (fun t => { t with clears := m.clears, confP := m.conf.1, confN := m.conf.2 }) b1

/-- R231, R192: the STANDBY takes the results of what only the ACTIVE runs on the chain; a new enumeration brings its ring map in. Serials and
retired positions that changed are committed. -/
def followChain (old : Option Mirror) (m : Mirror) (e : Env) (b : Blk) : Blk :=
  let r := m.chain
  let enumerated := (m.regs.get CHAIN_STA_ENUM_RUNNING = 0 ∧ m.regs.get CHAIN_ENUM_STA_RESULT ≠ 0) ∧
    (b.chain.map = [] ∨ (old.map (fun o => o.regs.get CHAIN_STA_ENUM_RUNNING)) = some 1)
  let map := if enumerated then ringMap e b else b.chain.map
  let b1 := modChain (fun c => { c with
    count := r.count, retire := r.retire, map := map, owLast := e.now - r.owAge
    cmus := List.zipWith CmuRec.take c.cmus r.cmus ++ c.cmus.drop r.cmus.length
    cells := List.zipWith (fun (x : CellRec) (k : Bool × Bool × Int × Int) =>
      { x with unsure := k.1, endWire := k.2.1, stepLo := k.2.2.1, stepHi := k.2.2.2 }) c.cells r.marks ++ c.cells.drop r.marks.length }) b
  let lost := (List.range 40).filterMap (fun p => match cmuAt b p, r.cmus[p]? with
    | some o, some n => if (n.state = 3 ∨ n.state = 4) ∧ (o.state ≠ n.state ∨ o.tries ≠ n.tries) then n.serves else none
    | _, _ => none)
  let b2 := modLed (fun l => { l with
    pairs := r.pairs
    cells := List.zipWith (fun (x : LCell) (z : Nat × Int × Int × Option Int × Option Nat) =>
      { x with z := z.1, zCos := z.2.1, phase := z.2.2.1, rHeld := z.2.2.2.1, zAt := z.2.2.2.2.map (fun t => e.now - t) }) l.cells r.zs ++
      l.cells.drop r.zs.length }) (lost.foldl (fun x k => historyClear e k x) b1)
  let b3 := if enumerated then reservesShow e r.retire map b2 else b2
  if r.retire = b.chain.retire ∧ r.cmus.map CmuRes.conf = b.chain.cmus.map CmuRec.conf then b3 else nvRequest .retained b3

/-- R164: what the ACTIVE latched at an instant goes to the frame that waits for it, or to the sweep that still runs. -/
def followLat (m : Mirror) (e : Env) (b : Blk) : Blk := match m.lat with
  | none => b
  | some l =>
    if (b.ledger.hold.map (fun h => h.1.t == l.t)).getD false then heldFrame e (some l) b
    else modChain (fun c => { c with flight := c.flight.map (fun (s : Sweep) =>
      if s.t = l.t ∧ s.lat.isSome then { s with mlat := some l } else s) }) b

/-- R29, R164, R412: the STANDBY takes the mirrored commands, mode, step, return target, frame, results and slot table; `old` is the
state mirrored before. -/
def follow (old : Option Mirror) (m : Mirror) (e : Env) (b : Blk) : Blk :=
  let b1 := [0, 1, 2].foldl (fun (x : Blk) k => followCoil old m k e x) b
  let b2 := followSsb old m 1 e (followSsb old m 0 e b1)
  let b3 := setStep m.step (changeMode e (modeOf m.mode) (followLatch old m e b2))
  let b4 := modSeq (fun q => { q with maintFromTripped := m.ret, resetSince := false }) { b3 with
    therm := { b3.therm with partnerBus := m.busMax }
    shuttle := { b3.shuttle with
      xfers := m.xfers
      frames := if 1 ≤ m.frames ∧ m.frames < 100 ∧ 1 ≤ b3.shuttle.frames ∧ b3.shuttle.frames < 100 ∧
        m.t = b3.get CHAIN_SWEEP_T_T then m.frames else b3.shuttle.frames } }
  let b5 := followChain old m e (mirroredFlds.foldl (fun (x : Blk) f => x.put f (m.regs.get f)) b4)
  followSweeps e m (followLat m e (b5.put SHUTTLE_NEXT_ID_ID m.nextTid))
where
  /-- R210: the announced instants that can still reach a CMU in time are announced on the standby's own ends. -/
  followSweeps (e : Env) (m : Mirror) (b : Blk) : Blk :=
    if b.keep.act.any (fun a => a.stage == 2) then b else
    (m.next.filter (fun n => decide (10000 ≤ sdiff32 n.2.1 e.clk.ns1) && !(b.chain.flight.any (fun s => s.t == n.2.1)))).foldl
      (fun (x : Blk) n => announceAs n.1 n.2.1 n.2.2 x) b

/-- R282: PLAN_CYCLE; a STANDBY's plan is compared with the active's. -/
def planCycleTwin (e : Env) (b : Blk) : Blk :=
  let b1 := planCycle e b
  match b1.tw.mir with
  | some m => if b1.role = .standby ∧ b1.running then healthShow (shadow m e b1) else b1
  | none => b1

/-- R213, R413: SWEEP_CLOSE; a STANDBY's frame that the partner's values came for is compared. -/
def sweepCloseTwin (e : Env) (b : Blk) : Blk :=
  let b1 := mirrored sweepClose e b
  match b1.tw.mir with
  | some m => if b1.role = .standby ∧ b1.running then healthShow (shadow m e b1) else b1
  | none => b1

/-- R412, R345: a MIRROR packet. The STANDBY takes the active's state and compares; either side ingests the raises it brings as
its partner's; both use the partner's busbar maximum (R299); a handover request starts a planned handover (R465). -/
def mirrorIn (h : TwHdr) (m : Mirror) (e : Env) (b : Blk) : Blk :=
  if ¬ b.running ∨ ¬ b.twin then b else
  let (ok, b1) := pktAccept e h (.mirror m) b
  if ¬ ok then b1 else
  let b2 := if m.isEvent then b1
    else if b1.role = .standby ∧ b1.get TWIN_STA_ORPHAN = 0 then
      shadow m e (follow b1.tw.mir m e (modTw (fun t => { t with mir := some m }) b1))
    else { b1 with therm := { b1.therm with partnerBus := m.busMax } }
  let b2 := if m.isEvent then b2 else modTw (fun t => { t with pcmds := some m.cmds }) b2
  let b3 := if b2.role = .active then raiseAll e (m.raises.map (fun r => { r with partner := true })) b2 else b2
  healthShow (if m.hreq ∧ handoverOk b3 ∧ b3.tw.ho = 0 then handoverStart e b3 else b3)

/-! ### Settings over REG -/

/-- The RW fields whose host writes are forwarded (R415). -/
def forwarded : List Fld :=
  (List.range 32).map CHAIN_SCHED ++ [CHAIN_SCHED_VALID, SAFE_SO_HOST_ON, SHUTTLE_CTL_MAINT_RUN, TIME_TRIM_CTL_TB1_DIS]

/-- The parameter block taken over field by field (R415). -/
def takeBlock (src : RegMap) (par : RegMap) : RegMap :=
  (paramWords.flatMap Prod.snd).foldl (fun (p : RegMap) f => p.put f (src.get f)) par

end Sys2Proof.Machine
end

