-- ==== Sys2Proof/Machine/Rack.lean ====
section
/-! DEFINITION. RACK, the rack management bus: the poll table, transactions, arbitration, alerts and recovery (file 15,
R428 to R442). -/

namespace Sys2Proof.Machine

def modRack (f : Rack → Rack) (b : Blk) : Blk := { b with rack := f b.rack }

/-- R441: polling runs: in service, not in HOLDUP, enabled, the bus not faulted. -/
def rackPolls (e : Env) (b : Blk) : Bool :=
  b.running && !b.holdup && e.get RACK_CTL_EN == 1 && b.get RACK_STA_FAULTED == 0

/-- R429: a transaction may start: no own transaction, no other controller's, the bus free time past, no recovery and no check of
SDA due (R439). -/
def busFree (e : Env) (b : Blk) : Bool :=
  b.rack.cur.isNone && !b.rack.busy && decide (b.rack.idleAt ≤ e.now) && b.get RACK_STA_RECOVERING == 0 && !b.rack.check

/-- R434, R421: whether a module writes to the rack: SOLO or ACTIVE, not as ORPHAN, not in the hold after a takeover. -/
def rackWrites (b : Blk) : Bool :=
  b.owner && b.get TWIN_STA_ORPHAN == 0 && b.get TWIN_STA_TAKEOVER_HOLD == 0

/-- The bus free time of the speed (R429), in CORE periods. -/
def freeTime (e : Env) : Nat := match e.get RACK_CFG_SPEED with
  | 0 => 940
  | 1 => 260
  | _ => 100

/-- R431: the data a write entry sends. -/
def rackSource (e : Env) (b : Blk) (n : Nat) : Nat := match e.get (RACK_ENTRY_SRC n) with
  | 0 => e.get (RACK_ENTRY_WDATA n)
  | 1 => b.get THERM_STA_COOL_LEVEL
  | _ => b.mode.code

/-- The bytes an entry writes, with their PEC where it is on (R431). -/
def rackData (e : Env) (b : Blk) (n : Nat) : List Byte :=
  if e.get (RACK_ENTRY_WRITE n) = 0 then [] else
  let d := leBytes (if e.get (RACK_ENTRY_TYPE n) = 0 then 1 else 2) (rackSource e b n)
  let head := [BitVec.ofNat 8 (2 * e.get (RACK_ENTRY_ADDR n)), BitVec.ofNat 8 (e.get (RACK_ENTRY_CMD n))]
  if e.get (RACK_ENTRY_PEC n) = 1 then d ++ leBytes 1 (pec (head ++ d)) else d

/-- A transaction goes onto the bus. -/
def rackDrive (e : Env) (n losses : Nat) (b : Blk) : Blk :=
  let d := rackData e b n
  (((modRack (fun r => { r with cur := some ⟨n, true, d, losses⟩, backBy := none }) b).put RACK_STA_BUSY 1).put
    RACK_STA_IDLE 0).emit (.rack (e.get (RACK_ENTRY_ADDR n)) (e.get (RACK_ENTRY_WRITE n) == 1) (e.get (RACK_ENTRY_CMD n)) d)

/-- R430, R434: the start of an entry; a write the role or the hold bars is skipped with code 8. -/
def rackStart (e : Env) (n : Nat) (b : Blk) : Blk :=
  if e.get (RACK_ENTRY_WRITE n) = 1 ∧ ¬ rackWrites b then b.put (RACK_ENTRY_RESULT n) 8
  else rackDrive e n 0 (b.bump RACK_CNT_LOW)

/-- R434: write entries that wait while the role or the hold bars them are skipped with code 8. -/
def rackSkip (e : Env) (b : Blk) : Blk :=
  if rackWrites b then b else
  (b.rack.waiting.filter (fun n => e.get (RACK_ENTRY_WRITE n) == 1)).foldl (fun (x : Blk) n => x.put (RACK_ENTRY_RESULT n) 8)
    (modRack (fun r => { r with waiting := r.waiting.filter (fun n => e.get (RACK_ENTRY_WRITE n) != 1) }) b)

/-- R430, R437: on a free bus the entries of an alert start first, then the entry that waits with the lowest number. -/
def rackNext (e : Env) (b : Blk) : Blk :=
  if ¬ rackPolls e b ∨ ¬ busFree e b then b else
  let b := rackSkip e b
  match b.rack.alertRuns, b.rack.waiting with
  | n :: l, _ => rackStart e n (modRack (fun r => { r with alertRuns := l }) b)
  | [], n :: l => rackStart e n (modRack (fun r => { r with waiting := l, alertTurn := false }) b)
  | [], [] => b.put RACK_STA_IDLE 1

/-- The own transaction has left the bus; it is idle again after the bus free time (R429). -/
def rackRelease (e : Env) (stop : Bool) (b : Blk) : Blk :=
  let b1 := ((modRack (fun r => { r with cur := none, backBy := none, idleAt := e.now + freeTime e }) b).put RACK_STA_BUSY 0).put
    RACK_STA_IDLE 0
  if stop then b1.emit .rackStop else b1

/-- Set or clear an entry's bit in a map. -/
def rackBit (f : Fld) (n : Nat) (on : Bool) (b : Blk) : Blk := b.put f (setBit (b.get f) n on)

/-- R432: a transaction ends with a code other than OK. -/
def rackFail (e : Env) (n code : Nat) (b : Blk) : Blk :=
  let b1 := ((b.put (RACK_ENTRY_RESULT n) code).bump (RACK_ENTRY_FAILS n)).bump RACK_CNT_HIGH
  if e.get RACK_ARB_CFG_FAIL_N ≤ b1.get (RACK_ENTRY_FAILS n) then
    beginExc e SRC_RB_TARGET_FAIL n n 0 0 (rackBit RACK_FAILED n true (rackBit RACK_VALID n false b1))
  else b1

/-- R432: a result OK: the failures in a row end. -/
def rackOk (e : Env) (n : Nat) (b : Blk) : Blk :=
  endExc e SRC_RB_TARGET_FAIL n (rackBit RACK_FAILED n false
    ((b.put (RACK_ENTRY_RESULT n) 0).put (RACK_ENTRY_FAILS n) 0))

/-- R433: the value a rule compares: the byte or word at OFFSET under MASK, signed where SIGNED is set. -/
def ruleValue (e : Env) (n : Nat) (d : List Byte) : Int :=
  let wide := e.get (RACK_ENTRY_WIDE n) = 1
  let v := leVal ((d.drop (e.get (RACK_ENTRY_OFFSET n))).take (if wide then 2 else 1)) &&& e.get (RACK_ENTRY_MASK n)
  let sign : Nat := if wide then 0x8000 else 0x80
  if e.get (RACK_ENTRY_SIGNED n) = 1 ∧ sign ≤ v then (v : Int) - 2 * sign else v

/-- R433: the thresholds, as signed where SIGNED is set. -/
def ruleLimit (e : Env) (n : Nat) (f : Fld) : Int :=
  let v := e.get f
  if e.get (RACK_ENTRY_SIGNED n) = 1 ∧ 0x8000 ≤ v then (v : Int) - 0x10000 else v

/-- R433: whether a value meets the rule, and the threshold it crossed. -/
def ruleMeets (e : Env) (n : Nat) (v : Int) : Option Int :=
  let lo := ruleLimit e n (RACK_ENTRY_LOW n)
  let hi := ruleLimit e n (RACK_ENTRY_HIGH n)
  match e.get (RACK_ENTRY_OP n) with
  | 1 => if hi < v then some hi else none
  | 2 => if v < lo then some lo else none
  | 3 => if v < lo then some lo else if hi < v then some hi else none
  | 4 => if v ≠ lo then some lo else none
  | 5 => if v = lo then some lo else none
  | _ => none

/-- The spare sources assigned to an entry (R365, R433). -/
def entrySpares (e : Env) (n : Nat) : List Nat :=
  (List.range 16).filter (fun k => e.get (FAULT_SPARE_MAP_PRODUCER k) == 2 && e.get (FAULT_SPARE_MAP_ENTRY k) == n)

/-- R433: the compare rule after an OK read. -/
def ruleStep (e : Env) (n : Nat) (b : Blk) : Blk :=
  let d := (b.rack.data[n]?).getD []
  let v := ruleValue e n d
  let m := ruleMeets e n v
  let (p, q) := (b.rack.met[n]?).getD (0, 0)
  let (p, q) := if m.isSome then (min 15 (p + 1), 0) else (0, min 15 (q + 1))
  let b1 := modRack (fun r => { r with met := setAt r.met n (p, q) }) b
  let per := e.get (RACK_ENTRY_PERSIST n)
  let on := bitOf (b.get RACK_ALARM) n
  if per ≤ p ∧ ¬ on then
    let b2 := rackBit RACK_ALARM n true b1
    match entrySpares e n with
    | [] => beginExc e SRC_RB_COMPARE n n (dataWord v) (dataWord (m.getD 0)) b2
    | l => raiseAll e (l.map (fun k => ⟨0xF0 + k, 0, dataWord v, dataWord (m.getD 0), false, none⟩)) b2
  else if per ≤ q ∧ on then endExc e SRC_RB_COMPARE n (rackBit RACK_ALARM n false b1)
  else b1

/-- R432: what a read's bytes say: the data, or the code of its failure. -/
def readResult (e : Env) (n : Nat) (bytes : List Byte) : Nat × List Byte :=
  let a := e.get (RACK_ENTRY_ADDR n)
  let head := [BitVec.ofNat 8 (2 * a), BitVec.ofNat 8 (e.get (RACK_ENTRY_CMD n)), BitVec.ofNat 8 (2 * a + 1)]
  let len := e.get (RACK_ENTRY_LEN n)
  let block := e.get (RACK_ENTRY_TYPE n) = 3
  let cnt := match e.get (RACK_ENTRY_TYPE n) with
    | 0 => 1
    | 1 => 2
    | 2 => len
    | _ => ((bytes[0]?).map BitVec.toNat).getD 0
  if block ∧ (cnt = 0 ∨ len < cnt) then (7, []) else
  let all := if block then cnt + 1 else cnt
  let usePec := e.get (RACK_ENTRY_PEC n) = 1
  if bytes.length < all + (if usePec then 1 else 0) then (7, []) else
  if usePec ∧ pec (head ++ bytes.take all) ≠ ((bytes[all]?).map BitVec.toNat).getD 0 then (3, []) else
  (0, (bytes.take all).drop (if block then 1 else 0))

/-- R432: the entry's transaction ends, with a NACK (1 of the address, 2 of data) or with the bytes a read brought. -/
def rackEnd (nack : Nat) (bytes : List Byte) (e : Env) (b : Blk) : Blk :=
  match b.rack.cur with
  | none => b
  | some t =>
    if ¬ t.run then b else
    let n := t.entry
    let read := e.get (RACK_ENTRY_WRITE n) = 0
    let b1 := rackRelease e true b
    if nack = 1 then rackFail e n 1 b1
    else if nack = 2 then rackFail e n (if read ∧ e.get (RACK_ENTRY_TYPE n) = 2 then 7 else 2) b1
    else if ¬ read then rackOk e n b1
    else
      let (code, d) := readResult e n bytes
      if code = 0 then
        let old := (b1.rack.data[n]?).getD []
        let b2 := modRack (fun r => { r with data := setAt r.data n (d ++ old.drop d.length) }) b1
        ruleStep e n (((rackBit RACK_VALID n true (rackOk e n b2)).put (RACK_ENTRY_COUNT n) d.length).put
          (RACK_ENTRY_LAST_T n) e.clk.ns0)
      else if code = 3 then rackFail e n 3 (raise e SRC_RB_PEC n 0 0 b1)
      else rackFail e n code b1

/-- R436: an entry's next due time aborts its transaction or back-off; the arbitration exhaustion merges into POLL_OVERRUN. A time in
DATA0 is stated only for an entry that had not started, so both data are 0 (R353). -/
def rackOverrun (e : Env) (n : Nat) (t : RTx) (b : Blk) : Blk :=
  let b1 := rackFail e n 6 (rackRelease e t.run b)
  let b2 := if t.losses = 0 then b1 else countOnly e SRC_RB_ARB_EXHAUSTED b1
  let b3 := raise e SRC_POLL_OVERRUN n 0 0 b2
  if t.losses = 0 then b3 else markMerged e.now SRC_POLL_OVERRUN b3

/-- R430: the next due time. -/
def dueTimer (n : Nat) (b : Blk) : Option Nat := (b.rack.due[n]?).getD none

/-- R430, R436: an entry falls due. -/
def pollDue (n : Nat) (e : Env) (b : Blk) : Blk :=
  let b0 := modRack (fun r => { r with
    due := setAt r.due n (some (((r.due[n]?).getD none).getD e.now + ms (10 * e.get (RACK_ENTRY_PERIOD n)))) }) b
  if ¬ rackPolls e b0 ∨ e.get (RACK_ENTRY_EN n) = 0 then b0 else
  match b0.rack.cur with
  | some t =>
    if t.entry = n then rackOverrun e n t b0
    else if b0.rack.waiting.contains n then
      raise e SRC_POLL_OVERRUN n 0 0 (modRack (fun r => { r with waiting := r.waiting.filter (· != n) }) b0)
    else if e.get (RACK_ENTRY_WRITE n) = 1 ∧ ¬ rackWrites b0 then b0.put (RACK_ENTRY_RESULT n) 8
    else modRack (fun r => { r with waiting := insSet r.waiting n }) b0
  | none =>
    if b0.rack.waiting.contains n then
      raise e SRC_POLL_OVERRUN n 0 0 (modRack (fun r => { r with waiting := r.waiting.filter (· != n) }) b0)
    else if e.get (RACK_ENTRY_WRITE n) = 1 ∧ ¬ rackWrites b0 then b0.put (RACK_ENTRY_RESULT n) 8
    else rackNext e (modRack (fun r => { r with waiting := insSet r.waiting n }) b0)

/-- R435: arbitration is lost: a back-off follows, or the transaction ends with code 4. -/
def arbitrationLoss (e : Env) (b : Blk) : Blk :=
  match b.rack.cur with
  | none => b
  | some t =>
    if ¬ t.run then b else
    let b1 := ((modRack (fun r => { r with busy := true }) (b.bump RACK_ARB_CNT_LOW)).put RACK_STA_BUSY 0).put RACK_STA_IDLE 0
    if t.losses < e.get RACK_ARB_CFG_RETRIES then
      modRack (fun r => { r with cur := some { t with run := false, losses := t.losses + 1 } }) b1
    else
      raise e SRC_RB_ARB_EXHAUSTED t.entry 0 0 (rackFail e t.entry 4
        (modRack (fun r => { r with cur := none, backBy := none }) (b1.bump RACK_ARB_CNT_HIGH)))

/-- The TWIN_ID that spaces the back-offs, 0 in SOLO (R435). -/
def backoffId (b : Blk) : Nat := if b.role = .solo then 0 else b.get SYS_STRAPS_TWIN_ID

/-- R429, R435: the bus has become idle: a back-off that waits for it starts, or the entry that waited. -/
def busIdle (e : Env) (b : Blk) : Blk :=
  let b1 := modRack (fun r => { r with busy := false, idleAt := min r.idleAt e.now }) b
  match b1.rack.cur with
  | some t => if t.run then b1 else
    modRack (fun r => { r with backBy := some (e.now + us (50 * (backoffId b1 + 1))) }) (b1.put RACK_STA_IDLE 1)
  | none => rackNext e (b1.put RACK_STA_IDLE 1)

def backoffTimer (b : Blk) : Option Nat := b.rack.backBy

/-- R435: the end of a back-off: the whole transaction starts again, unless the role now bars a write (R434). -/
def backoffEnd (e : Env) (b : Blk) : Blk :=
  match b.rack.cur with
  | some t =>
    if e.get (RACK_ENTRY_WRITE t.entry) = 1 ∧ ¬ rackWrites b then
      rackNext e ((modRack (fun r => { r with cur := none, backBy := none }) b).put (RACK_ENTRY_RESULT t.entry) 8)
    else if rackPolls e b ∧ b.get RACK_STA_RECOVERING = 0 then rackDrive e t.entry t.losses b
    else modRack (fun r => { r with backBy := none }) b
  | none => modRack (fun r => { r with backBy := none }) b

/-! ### Alerts (R437) -/

/-- R437: the enabled read entries an alert of an address runs. -/
def alertEntries (e : Env) (a : Nat) : List Nat :=
  (List.range 32).filter (fun n => e.get (RACK_ENTRY_EN n) == 1 && e.get (RACK_ENTRY_WRITE n) == 0 &&
    e.get (RACK_ENTRY_ALERT n) == 1 && e.get (RACK_ENTRY_ADDR n) == a)

/-- RB_ALERT_STUCK: alert service pauses for 10 s. -/
def alertStuck (e : Env) (a : Nat) (b : Blk) : Blk :=
  beginExc e SRC_RB_ALERT_STUCK 0 0 a 0
    ((modRack (fun r => { r with pauseBy := some (e.now + sec 10), alertSame := 0 }) b).put RACK_STA_ALERT_PAUSED 1)

/-- An ARA read: the time on the bus of a transaction without an entry. -/
def araRead (e : Env) (b : Blk) : Blk :=
  rackRelease e true ((b.bump RACK_CNT_LOW).emit (.rack 0x0C false 0 []))

/-- R437: RB_ALERT_N low at a transaction boundary. The ARA read loses arbitration `losses` times, and then brings the bytes of
the responding target, or a NACK; `still` tells whether RB_ALERT_N stays low. -/
def alertService (losses : Nat) (resp : Option (List Byte)) (still : Bool) (e : Env) (b : Blk) : Blk :=
  if ¬ b.powered then b else
  let b0 := b.put RACK_STA_ALERT_LOW 1
  if ¬ rackPolls e b0 ∨ ¬ busFree e b0 ∨ ¬ b0.owner ∨ e.get RACK_CFG_ALERT_EN = 0 ∨ b0.get RACK_STA_ALERT_PAUSED = 1 ∨
     (b0.rack.alertTurn ∧ b0.rack.waiting ≠ []) ∨ b0.rack.alertRuns ≠ [] then b0 else
  let b1 := modRack (fun r => { r with alertTurn := true })
    ((araRead e b0).put RACK_ARB_CNT_LOW (min 0xFFFF (b0.get RACK_ARB_CNT_LOW + losses)))
  if e.get RACK_ARB_CFG_RETRIES < losses then
    raise e SRC_RB_ARB_EXHAUSTED 0 0 0 ((b1.bump RACK_ARB_CNT_HIGH).bump RACK_CNT_HIGH)
  else match resp with
  | none => alertStuck e 0 (b1.bump RACK_CNT_HIGH)
  | some bytes =>
    let byte := ((bytes[0]?).map BitVec.toNat).getD 0
    if e.get RACK_CFG_ARA_PEC = 1 ∧ pec [0x19#8, BitVec.ofNat 8 byte] ≠ ((bytes[1]?).map BitVec.toNat).getD 0 then
      raise e SRC_RB_PEC 0 0 0 (b1.bump RACK_CNT_HIGH)
    else
      let a := byte / 2
      let same := if b1.get RACK_ALERT_LAST_ADDR = a ∧ b1.rack.alertSame ≠ 0 then b1.rack.alertSame + 1 else 1
      let b2 := ((b1.put RACK_ALERT_LAST_ADDR a).bump RACK_ALERT_LAST_COUNT).put RACK_STA_ALERT_LOW (boolBit still)
      let b3 := modRack (fun r => { r with alertRuns := alertEntries e a, alertSame := if still then same else 0 }) b2
      if still ∧ 8 ≤ same then alertStuck e a b3 else b3

/-- The end of the pause; without a pause, RB_ALERT_STUCK awaits RB_ALERT_N high for 10 ms (R442). -/
def alertTimer (b : Blk) : Option Nat := b.rack.pauseBy.or (if inExc b SRC_RB_ALERT_STUCK 0 then some 0 else none)

/-- R437, R442: the pause ends; RB_ALERT_N has been high for `highMs` ms. -/
def alertPauseEnd (highMs : Nat) (e : Env) (b : Blk) : Blk :=
  let b1 := ((modRack (fun r => { r with pauseBy := none }) b).put RACK_STA_ALERT_PAUSED 0).put RACK_STA_ALERT_LOW
    (boolBit (highMs == 0))
  if 10 ≤ highMs then endExc e SRC_RB_ALERT_STUCK 0 b1 else b1

/-! ### Timeouts and recovery (R438, R439) -/

/-- R438: SCL has been low for 30 ms, not by the controller's own recovery. -/
def sclTimeout (e : Env) (b : Blk) : Blk :=
  if ¬ b.running ∨ b.holdup ∨ b.get RACK_STA_RECOVERING = 1 ∨ e.get RACK_CTL_EN = 0 then b else
  let b1 := match b.rack.cur with
    | some t => if t.run then rackFail e t.entry 5 (rackRelease e true b) else b.emit .rackStop
    | none => b.emit .rackStop
  raise e SRC_RB_SCL_TIMEOUT ((b.rack.cur.map RTx.entry).getD 0) 0 0 b1

/-- R439 step 2: SDA is high: STOP, the recovery ends, polling starts. -/
def rackRecovered (e : Env) (b : Blk) : Blk :=
  rackNext e (endExc e SRC_RB_BUS_FAULT 0
    ((((modRack (fun r => { r with
        check := false, holds := 0, holdBy := none, retryBy := none, once := false
        idleAt := e.now + freeTime e }) (b.emit .rackStop)).put RACK_STA_RECOVERING 0).put RACK_STA_RB_STUCK 0).put RACK_STA_FAULTED 0))

/-- R439 step 3: RB_STUCK, and SCL is held low for 35 ms. -/
def rackHold (e : Env) (b : Blk) : Blk :=
  raise e SRC_RB_STUCK 0 0 0 ((modRack (fun r => { r with holds := r.holds + 1, holdBy := some (e.now + ms 35) }) b).put
    RACK_STA_RB_STUCK 1)

/-- R439: SDA is checked before the first transaction, or has been low for 35 ms with SCL high; where it is low, up to 9 pulses
of SCL follow, which release it or do not. -/
def busRecovery (sdaLow released : Bool) (e : Env) (b : Blk) : Blk :=
  if ¬ b.running ∨ b.holdup ∨ e.get RACK_CTL_EN = 0 ∨ b.get RACK_STA_RECOVERING = 1 ∨ b.get RACK_STA_FAULTED = 1 ∨
     (b.rack.cur.map RTx.run).getD false then b else
  if ¬ sdaLow then rackNext e (modRack (fun r => { r with check := false }) b) else
  let b1 := (b.emit .rackRecover).put RACK_STA_RECOVERING 1
  if released then rackRecovered e b1 else rackHold e (modRack (fun r => { r with holds := 0, once := false }) b1)

def holdLowTimer (b : Blk) : Option Nat := b.rack.holdBy

/-- R439 steps 4 and 5: the hold of SCL ends and step 1 runs again; after the third repeat of step 3 the bus is faulted. -/
def recoveryHoldEnd (released : Bool) (e : Env) (b : Blk) : Blk :=
  let b0 := modRack (fun r => { r with holdBy := none }) b
  if b0.rack.once then
    let b1 := (b0.emit .rackRecover).bump RACK_RECOVERY_ATTEMPTS
    if released then rackRecovered e b1
    else (modRack (fun r => { r with once := false }) b1).put RACK_STA_RECOVERING 0
  else if released then rackRecovered e ((b0.emit .rackRecover).bump RACK_RECOVERY_ATTEMPTS)
  else if b0.rack.holds < 4 then rackHold e ((b0.emit .rackRecover).bump RACK_RECOVERY_ATTEMPTS)
  else
    let b1 := (((modRack (fun r => { r with waiting := [], alertRuns := [], retryBy := some (e.now + sec 10) }) b0).put
      RACK_STA_RECOVERING 0).put RACK_STA_FAULTED 1).bump RACK_RECOVERY_FAULTS
    let b2 := match b1.rack.cur with
      | some t => rackFail e t.entry 9 (rackRelease e false b1)
      | none => b1
    beginExc e SRC_RB_BUS_FAULT 0 0 0 0 b2

def busRetryTimer (b : Blk) : Option Nat := b.rack.retryBy

/-- R439 step 6: a faulted bus runs steps 1 to 4 once. -/
def busRetry (released : Bool) (e : Env) (b : Blk) : Blk :=
  let b0 := modRack (fun r => { r with retryBy := some (e.now + sec 10) }) b
  if ¬ b0.running ∨ b0.holdup ∨ e.get RACK_CTL_EN = 0 then b0 else
  let b1 := (b0.emit .rackRecover).put RACK_STA_RECOVERING 1
  if released then rackRecovered e b1 else rackHold e (modRack (fun r => { r with holds := 0, once := true }) b1)

/-! ### Stops and restarts (R440, R441) -/

/-- R441: a write of 0 to RACK.CTL.EN: the running transaction ends with a STOP. -/
def rackDisable (e : Env) (b : Blk) : Blk :=
  let b1 := modRack (fun r => { r with waiting := [], alertRuns := [] }) b
  match b1.rack.cur with
  | some t => rackRelease e t.run b1
  | none => b1

/-- R440: at HOLDUP entry and at a warm boot the transaction is abandoned and the pins released; R439's check follows. -/
def rackAbandon (b : Blk) : Blk :=
  (((modRack (fun r => { r with
      cur := none, backBy := none, waiting := [], alertRuns := [], check := true, holdBy := none
      busy := false }) b).put RACK_STA_BUSY 0).put RACK_STA_RECOVERING 0).put RACK_STA_IDLE 0

/-- R430: the due times from the end of a BOOT: entry n first n ms after it. -/
def rackArm (e : Env) (b : Blk) : Blk :=
  modRack (fun r => { r with due := (List.range 32).map (fun n =>
    if e.get (RACK_ENTRY_EN n) = 1 then some (e.now + ms n) else none) }) b

/-- R430 after a write to an entry: an entry just enabled becomes due on the grid that began at the end of BOOT; one disabled no
longer falls due. -/
def rackRegrid (e : Env) (b : Blk) : Blk :=
  let base := b.pwr.bootAt
  modRack (fun r => { r with due := mapIdx (fun n (d : Option Nat) =>
    if e.get (RACK_ENTRY_EN n) = 0 then none else
    let per := ms (10 * e.get (RACK_ENTRY_PERIOD n))
    match d with
    | some t => some (min t (e.now + per))
    | none => some (base + ms n + ((e.now - (base + ms n)) / per + 1) * per)) 0 r.due }) b

end Sys2Proof.Machine
end

