-- ==== Sys2Proof/Machine/Keep.lean ====
section
/-! DEFINITION. KEEP: images and their boot check, delta streams, activation, parameter slots, keys, security states, the
inspection port and the MRAM's upkeep (file 16, R443 to R474). -/

namespace Sys2Proof.Machine

/-! ### Images (R447, R448) -/

/-- 2 MiB. -/
def bankSize : Nat := 0x200000

/-- A byte of an image. -/
def Content.byte (c : Content) (i : Nat) : Byte := match c with
  | .empty => 0#8
  | .factory => Config.factoryImageByte i
  | .recovery => Config.recoveryImageByte i
  | .bytes bs => (bs[i]?).getD 0#8

/-- Bytes `off` to `off + n - 1` of an image. -/
def Content.slice (c : Content) (off n : Nat) : List Byte := match c with
  | .bytes bs => (bs.drop off).take n ++ List.replicate (n - (bs.drop off).length) 0#8
  | c => (List.range n).map (fun i => c.byte (off + i))

/-- A little-endian field of an image. -/
def Content.le (c : Content) (off n : Nat) : Nat := leVal (c.slice off n)

/-- The content of bank 0 (A) or 1 (B). -/
def bankOf (b : Blk) (n : Nat) : Content := if n = 0 then b.keep.bank0 else b.keep.bank1

/-- The image that runs: a bank's, or the recovery image (R455). -/
def runImage (b : Blk) : Content :=
  if b.get KEEP_STA_RECOVERY = 1 then .recovery else bankOf b (b.get KEEP_STA_RUN_BANK)

/-- The header's engine length, PARAM_FORMAT, RETAIN_FORMAT and total length (R447). -/
def Content.engineLen (c : Content) : Nat := c.le 0x0C 4
def Content.paramFormat (c : Content) : Nat := c.le 0x14 2
def Content.retainFormat (c : Content) : Nat := c.le 0x16 2
def Content.totalLen (c : Content) : Nat := c.le 0x18 4
def Content.version (c : Content) : Nat := c.le 0x08 4

/-- Where the parameter part begins: the engine length, aligned to 4 bytes. -/
def Content.partAt (c : Content) : Nat := (c.engineLen + 3) / 4 * 4

/-- Whether an image has a parameter part. -/
def Content.hasPart (c : Content) : Bool := c.totalLen != c.engineLen

/-- Step 6 of R448: the directory holds every kind once and no other, and every table's CRC agrees. -/
def directoryOk (c : Content) : Bool :=
  let n := c.le 0x1C 2
  let rows := (List.range (min n 16)).map (fun k => (c.le (0x100 + 16 * k) 2, c.le (0x104 + 16 * k) 4, c.le (0x108 + 16 * k) 4,
    c.le (0x10C + 16 * k) 4))
  decide (1 ≤ n) && decide (n ≤ 16) && [2, 3, 4, 5, 6].all (fun k => rows.countP (fun r => r.1 == k) == 1) && n == 5 &&
    rows.all (fun r => crc32c (c.slice r.2.1 r.2.2.1) == r.2.2.2)

/-- Step 7 of R448: the parameter part is bound to the engine part and signed with the plant image key. -/
def partOk (c : Content) (plantKey : Option (List Byte)) : Bool :=
  let at_ := c.partAt
  let len := 0x30 + 8 * c.le (at_ + 4) 2
  match plantKey with
  | none => false
  | some k => c.le at_ 4 == 0x474D4950 && c.slice (at_ + 0x10) 32 == sha256 (c.slice 0 0xC0) &&
      ecdsaOk k (sha256 (c.slice at_ len)) (c.slice (at_ + len) 64)

/-- The boot check of an image that reads as stored: the number of the first failing step of R448, 0 where all pass. An image
from the factory passes every step but the version's. -/
def checkContent (hwRev minVersion : Nat) (plantKey : Option (List Byte)) (c : Content) : Nat := match c with
  | .empty => 1
  | .factory => if minVersion ≤ c.version then 0 else 5
  | .recovery => 0
  | .bytes bs =>
    let c : Content := .bytes bs
    if ¬ (c.le 0 4 = 0x474D4947 ∧ c.le 4 2 = 1 ∧ c.engineLen ≤ c.totalLen ∧ c.totalLen ≤ bankSize ∧ c.le 0x10 1 ≤ hwRev) then 1
    else if sha256 (c.slice 0x40 64) ≠ Config.fusedKeyHash then 2
    else if sha256 (c.slice 0x100 (c.engineLen - 0x100)) ≠ c.slice 0x20 32 then 3
    else if ¬ ecdsaOk (c.slice 0x40 64) (sha256 (c.slice 0 0x80)) (c.slice 0x80 64) then 4
    else if c.version < minVersion then 5
    else if ¬ directoryOk c then 6
    else if c.hasPart ∧ ¬ partOk c plantKey then 7
    else 0

/-- A line of 64 bytes of a bank is uncorrectable (R445). -/
def bankDamaged (b : Blk) (n : Nat) : Bool := b.keep.badLines.any (fun l => l / 0x8000 == n)

/-- The boot check of a bank (R448): a bank being built is never checked and fails, a bank with an uncorrectable line fails at a
step the spec does not give. -/
def checkBank (b : Blk) (n : Nat) : Nat :=
  if b.get (KEEP_BANK_STATE n) = 1 then 1
  else if bankDamaged b n then (Config.openResult 445 [n]).toNat % 7 + 1
  else checkContent (b.get SYS_VARIANT_HW_REV) (b.get KEEP_MIN_VERSION) (keyOf b 6) (bankOf b n)

/-! ### Parameter slots and installation (R449 to R454) -/

/-- The block that a list of entries gives, over the defaults of the field table (R449). -/
def loadEntries (es : List (Nat × Nat)) : RegMap :=
  es.foldl (fun (m : RegMap) p =>
    ((wordFlds p.1).filter isParam).foldl (fun (m : RegMap) f => m.put f (p.2 / 2 ^ f.lo)) m) []

/-- The entries of a parameter part: register word address and value. -/
def partEntries (c : Content) : List (Nat × Nat) :=
  let at_ := c.partAt
  (List.range (c.le (at_ + 4) 2)).map (fun k =>
    (0x1000 * c.le (at_ + 0x30 + 8 * k) 1 + c.le (at_ + 0x32 + 8 * k) 2, c.le (at_ + 0x34 + 8 * k) 4))

/-- R453: whether an installation takes the part of an image rather than the running block, whose format is given. -/
def installsPart (format : Nat) (c : Content) : Bool :=
  c.hasPart && (c.le (c.partAt + 6) 1 % 2 == 0 || c.paramFormat != format)

/-- The parameter block that would result from booting an image under R453. -/
def blockAfter (e : Env) (b : Blk) (c : Content) : RegMap :=
  if installsPart (runImage b).paramFormat c then loadEntries (partEntries c) else e.par

/-- The latest valid slot (R452): its number and copy. -/
def slotWinner (k : Keep) : Option (Nat × ParSlot) := match k.slot0.filter ParSlot.ok, k.slot1.filter ParSlot.ok with
  | some x, some y => if y.seq ≤ x.seq then some (0, x) else some (1, y)
  | some x, none => some (0, x)
  | none, some y => some (1, y)
  | none, none => none

/-- R451, R454, R333: a parameter commit completes into the slot that does not hold the latest valid copy; a confirmation goes to the
standby (R335, R415). -/
def paramDone (e : Env) (confirm : Option Nat) (clears : Bool) (b : Blk) : Blk :=
  let b1 := if clears then
      (((b.put SYS_STA_CFG_DEFAULTED 0).put SYS_STA_CFG_CONFLICT 0).put KEEP_CMD_STA_RESULT
        (if b.get KEEP_CMD_STA_LAST = 4 then 1 else b.get KEEP_CMD_STA_RESULT))
    else b
  let (n, q) := match slotWinner b1.keep with
    | some (k, s) => (1 - k, (s.seq + 1) % 2 ^ 32)
    | none => (0, 1)
  let slot : ParSlot := { seq := q, format := (runImage b1).paramFormat, pcvConf := b1.get SAFE_PCV_CONF
                          defaulted := b1.get SYS_STA_CFG_DEFAULTED == 1, conflict := b1.get SYS_STA_CFG_CONFLICT == 1
                          vals := e.par.filter (fun p => paramKeys.contains p.1), ok := true }
  let b2 := (modKeep (fun k => if n = 0 then { k with slot0 := some slot } else { k with slot1 := some slot }) b1).put
    KEEP_PARAM_STA_SLOT n
  let b3 := if clears then endExc e SRC_CFG_DEFAULTED 0 b2 else b2
  match confirm with
  | some v => regBlock e (pcvConfirmed e v b3)
  | none => b3
where
  /-- The keys of the block's fields. -/
  paramKeys : List Nat := (paramWords.flatMap Prod.snd).map Fld.key

def paramTimer (b : Blk) : Option Nat := if b.running then b.keep.paramBy else none

/-- R451: 100 ms after the last change of an RWL field. -/
def paramCommitTimer (_ : Env) (b : Blk) : Blk := nvRequest (.param none false) (modKeep (fun k => { k with paramBy := none }) b)

/-! ### Retained records (R444) -/

/-- The register fields that the retained records hold. -/
def retainedFlds : List Fld :=
  [PWR_BOOT_BOOT_NUMBER, SYS_STATE_EPOCH, SAFE_SW_STATE_KP_BROKEN, SAFE_SW_STATE_KN_BROKEN, SAFE_SW_STATE_KC_BROKEN,
   SAFE_WELD_RESULT_KP, SAFE_WELD_RESULT_KN, SAFE_WELD_RESULT_KC, SHUTTLE_CMU_BLOCK_LO, SHUTTLE_CMU_BLOCK_HI,
   TRIP_TRIP_CNT_LIFE, TWIN_TAKEOVER_COUNT, TWIN_TAKEOVER_CAUSE, KEEP_MIN_VERSION, KEEP_BOOT_INFO_FALLBACKS, KEEP_NV_CNT_LOW,
   KEEP_NV_CNT_HIGH, KEEP_STA_COLD_PENDING,
   PORT_DESC_SPARE_IN_USE 0, PORT_DESC_SPARE_IN_USE 1, PORT_DESC_CAPACITY 0, PORT_DESC_CAPACITY 1,
   PORT_DESC_RETIRED 0, PORT_DESC_RETIRED 1]

/-- The retained records as they stand now. -/
def retainNow (b : Blk) : Retained :=
  { regs := retainedFlds.foldl (fun (m : RegMap) f => m.put f (b.get f)) []
    ctrs := (b.sess.take 4).map Sess.ctr
    siLocks := pairMap (fun _ p => p.locked) b
    serials := (mapIdx (fun n (m : CmuRec) => (n, m.conf)) 0 b.chain.cmus).filterMap (fun p => p.2.map (fun s => (p.1, s)))
    retired := b.chain.retire
    bootBank := b.keep.bootBank
    install := b.keep.install }

/-- R444: a commit of the retained records writes the copy that is not the latest valid one. -/
def retainDone (b : Blk) : Blk :=
  modKeep (fun k => { k with
    ret := retainNow b, ctrWait := false
    retOld := if k.retOk.1 then k.ret else k.retOld
    retOk := (true, k.retOk.1 || k.retOk.2) }) b

/-- R444: the copy of the retained records that a boot takes: the latest valid one, else what the factory left. -/
def retained (k : Keep) : Retained := if k.retOk.1 then k.ret else if k.retOk.2 then k.retOld else .factory

/-! ### The commands of KEEP.CMD -/

/-- The result of a command in KEEP.CMD_STA: 1 done, 2 running or waiting, 3 refused, 4 failed. The spec numbers no condition of
a refusal, so REASON is then left open. -/
def keepResult (cmd result : Nat) (b : Blk) : Blk :=
  let b1 := (b.put KEEP_CMD_STA_LAST cmd).put KEEP_CMD_STA_RESULT result
  if result = 3 then b1.putFree KEEP_CMD_STA_REASON else b1.put KEEP_CMD_STA_REASON 0

/-- A command of the host to KEEP, which a STANDBY takes as well (R117); none comes in HOLDUP (R472). -/
def keepCmd (cmd : Nat) (ok : Blk → Bool) (f : Blk → Blk) (b : Blk) : Blk :=
  if ¬ b.running then b
  else if b.holdup ∨ ¬ ok b then finish .denied (keepResult cmd 3 b)
  else finish .ok (f b)

/-- R470, R473: the service time has ended; a write of that cycle is judged in SEALED. -/
def serviceOver (e : Env) (b : Blk) : Bool := (b.keep.svcBy.map (fun t => decide (t ≤ e.now))).getD false

/-- R469: the security state that SERVICE rights of an actor follow; actors 0 to 3 are the GRA sessions, 4 the inspection port. -/
def keyAllowed (e : Env) (b : Blk) (actor slot : Nat) : Bool := match b.keep.sec with
  | .opened => true
  | .isSealed => decide (actor < 4) && slot == actor + 1
  | .service =>
    if serviceOver e b then decide (actor < 4) && slot == actor + 1 else decide (actor < 4) && actor == b.get KEEP_SVC_STA_SESSION

/-- A record of SECURITY_CHANGE (R474). -/
def securityChange (e : Env) (code d0 : Nat) (b : Blk) : Blk := recordRaise e ⟨SRC_SECURITY_CHANGE, code, d0, 0, false, none⟩ b

/-- R457: STREAM_BEGIN. -/
def streamBegin (_ : Env) (b : Blk) : Blk := keepCmd 1 (fun _ => true) (fun b =>
  let n := 1 - b.get KEEP_STA_RUN_BANK
  let b1 := setBank n (.bytes []) (modKeep (fun k => { k with stream := some ⟨n, [], false, 0, none⟩ }) b)
  let b2 := (b1.put (KEEP_BANK_STATE n) 1).put (KEEP_BANK_STEP n) 0
  keepResult 1 2 (((b2.put KEEP_STREAM_POS 0).put KEEP_STREAM_OUT 0).put KEEP_STA_STREAMING 1)) b

/-- R457: STREAM_ABORT. -/
def streamAbort (_ : Env) (b : Blk) : Blk := keepCmd 2 (fun _ => true) (fun b => keepResult 2 1 (streamDrop b)) b

/-- What a step of the decoder (R458) says: more bytes are needed, a fault with its CODE, the end, or the stream and the bytes
it adds to the bank. -/
inductive Dec where
  | more
  | bad (code : Nat)
  | done
  | go (s : Stream) (add : List Byte)
deriving DecidableEq, Repr

/-- One step of the decoder: the header, an operation's head, or some of its data. `out` bytes are written already. -/
def decodeStep (run : Content) (out : Nat) (s : Stream) : Dec :=
  let w := fun k => leVal ((s.pend.drop (4 * k)).take 4)
  if ¬ s.headed then
    if s.pend.length < 48 then .more
    else if w 0 ≠ 0x41544C44 ∨ w 1 % 0x10000 ≠ 1 ∨ w 1 / 0x10000 ≠ 0 ∨ w 11 ≠ 0 then .bad 2
    else if (s.pend.drop 8).take 32 ≠ run.slice 0x20 32 then .bad 1
    else if bankSize < w 10 then .bad 4
    else .go { s with pend := s.pend.drop 48, headed := true, target := w 10 } []
  else match s.op with
  | some o =>
    if o.rest = 0 then .go { s with op := none } []
    else if s.pend = [] then .more
    else
      let m := min o.rest s.pend.length
      let d := s.pend.take (min m o.out)
      let d := if o.code = 2 then List.zipWith (fun (x y : Byte) => x + y) (run.slice o.src d.length) d else d
      .go { s with pend := s.pend.drop m, op := some { o with src := o.src + d.length, out := o.out - d.length, rest := o.rest - m } } d
  | none =>
    if s.pend.length < 4 then .more
    else match w 0 with
    | 0x0F => if out = s.target then .done else .bad 5
    | 0x01 =>
      if s.pend.length < 12 then .more
      else if run.totalLen < w 1 + w 2 then .bad 3
      else if s.target < out + w 2 then .bad 4
      else .go { s with pend := s.pend.drop 12 } (run.slice (w 1) (w 2))
    | 0x02 =>
      if s.pend.length < 12 then .more
      else if run.totalLen < w 1 + w 2 then .bad 3
      else if s.target < out + w 2 then .bad 4
      else .go { s with pend := s.pend.drop 12, op := some ⟨2, w 1, w 2, (w 2 + 3) / 4 * 4⟩ } []
    | 0x03 =>
      if s.pend.length < 8 then .more
      else if s.target < out + w 1 then .bad 4
      else .go { s with pend := s.pend.drop 8, op := some ⟨3, 0, w 1, (w 1 + 3) / 4 * 4⟩ } []
    | _ => .bad 2

/-- The bytes a bank being built holds. -/
def builtBytes (b : Blk) (n : Nat) : List Byte := match bankOf b n with
  | .bytes bs => bs
  | _ => []

/-- R446: the lines of a bank's first `n` bytes are rewritten, so none of them is uncorrectable any more. -/
def linesWritten (bank n : Nat) (b : Blk) : Blk :=
  modKeep (fun k => { k with badLines := k.badLines.filter (fun l => l / 0x8000 != bank || decide (n ≤ 64 * (l % 0x8000))) }) b

/-- R458: the decoder runs on what the staging ring holds; every step but the last takes at least four bytes from it, so its
length bounds the steps. -/
def streamRun (e : Env) : Nat → Blk → Blk
  | 0, b => b
  | k + 1, b => match b.keep.stream with
    | none => b
    | some s =>
      let out := (builtBytes b s.bank)
      match decodeStep (runImage b) out.length s with
      | .more => b
      | .bad c => deltaFault e c b
      | .done =>
        let b1 := ((modKeep (fun k => { k with stream := none }) b).put KEEP_STA_STREAMING 0).put (KEEP_BANK_STATE s.bank) 2
        if b1.get KEEP_CMD_STA_LAST = 1 then b1.put KEEP_CMD_STA_RESULT 1 else b1
      | .go s2 add =>
        let b1 := if add = [] then b else linesWritten s.bank (out.length + add.length)
          ((setBank s.bank (.bytes (out ++ add)) b).put KEEP_STREAM_OUT (out.length + add.length))
        streamRun e k (modKeep (fun k => { k with stream := some s2 }) b1)

/-- Whether the gate of R78 would let a commit start. -/
def gateOpen (e : Env) (b : Blk) : Bool := decide (commitVolts e b ≤ b.get PWR_HOLD_V_HOLD)

/-- What the ring holds is decoded now, or once the energy gate lets the bank be written (R78, R443). -/
def streamGo (e : Env) (b : Blk) : Blk :=
  let n := ((b.keep.stream.map (fun s => s.pend.length)).getD 0) + 8
  if gateOpen e b then streamRun e n b else nvRequest (.image 0) b

/-- R457: words written to the STAGING window at an offset. -/
def stagingWrite (off : Nat) (ws : List Nat) (e : Env) (b : Blk) : Blk := localCmd (fun b =>
  if b.holdup then finish .denied b else
  match b.keep.stream with
  | none => finish .denied b
  | some s =>
    if off ≠ b.get KEEP_STREAM_POS % 0x100000 then finish .conflict b
    else if bankSize < s.pend.length + 4 * ws.length then finish .busy b
    else
      let b1 := modKeep (fun k => { k with stream := some { s with pend := s.pend ++ ws.flatMap (leBytes 4) } }) b
      finish .ok (streamGo e (b1.put KEEP_STREAM_POS (b.get KEEP_STREAM_POS + 4 * ws.length)))) b

/-! ### Activation (R460 to R465) -/

/-- R461: in CONNECTED the target keeps both formats and gives a block whose PCV is the confirmed one. -/
def targetFits (e : Env) (b : Blk) (c : Content) : Bool :=
  c.retainFormat == (runImage b).retainFormat && c.paramFormat == (runImage b).paramFormat &&
  paramPcv (blockAfter e b c) == b.get SAFE_PCV_CONF

/-- R460: what ACTIVATE needs when it is written. -/
def activateOk (e : Env) (same cold : Bool) (b : Blk) : Bool :=
  let n := if same then b.get KEEP_STA_RUN_BANK else 1 - b.get KEEP_STA_RUN_BANK
  let c := bankOf b n
  (b.get (KEEP_BANK_STATE n) == 2 || b.get (KEEP_BANK_STATE n) == 3) && b.keep.stream.isNone && b.role != .active &&
  (b.mode != .connected || targetFits e b c) && (cold || c.retainFormat == (runImage b).retainFormat) && b.keep.act.isNone

/-- R460, R145: what a waiting ACTIVATE waits for. -/
def activateReady (b : Blk) : Bool :=
  seqStep b == stepIdle && b.mode != .connecting && b.get SAFE_WELD_RESULT_PENDING == 0 && !b.holdup &&
  b.get PWR_STA_HOLD_READY == 1 && !b.watch.rrRun && (!b.twin || (b.role == .standby && b.get TWIN_PARTNER_ROLE == 1))

/-- R462: the journal, the parameter block and the log cache are committed before the warm boot. -/
def activateCommits (b : Blk) : Blk :=
  nvRequest .log (nvRequest (.param none false) (nvRequest (.journal false)
    (modKeep (fun k => { k with act := k.act.map (fun a => { a with stage := 1 }) }) b)))

/-- R460: ACTIVATE. -/
def activate (same handover cold : Bool) (e : Env) (b : Blk) : Blk := keepCmd 3 (activateOk e same cold) (fun b =>
  let n := if same then b.get KEEP_STA_RUN_BANK else 1 - b.get KEEP_STA_RUN_BANK
  let b1 := nvRequest .retained (modKeep (fun k => { k with bootBank := n, install := true }) b)
  if cold then keepResult 3 1 (b1.put KEEP_STA_COLD_PENDING 1)
  else
    let b2 := (modKeep (fun k => { k with
      act := some ⟨n, handover, b.keep.bootBank, b.keep.install, e.now + sec 60, 0⟩ }) b1).put KEEP_STA_ACTIVATING 1
    keepResult 3 2 (if activateReady b2 then activateCommits b2 else b2)) b

/-- R460, R473: a waiting ACTIVATE is dropped; BOOT_BANK and the install flag are as before it. -/
def activateDrop (b : Blk) : Blk := match b.keep.act with
  | none => b
  | some a =>
    nvRequest .retained ((((modKeep (fun k => { k with act := none, bootBank := a.oldBank, install := a.oldInstall }) b).put
      KEEP_STA_ACTIVATING 0).put KEEP_CMD_STA_RESULT 4).put KEEP_CMD_STA_REASON 0)

def activateTimer (b : Blk) : Option Nat := if b.running then b.keep.act.map Activate.byT else none

/-- R460: an ACTIVATE has waited 60 s. -/
def activationTimeout (e : Env) (b : Blk) : Blk := raise e SRC_ACTIVATION_TIMEOUT 0 0 0 (activateDrop b)

def handReqTimer (b : Blk) : Option Nat := if b.running then b.keep.handReq.map Prod.fst else none

/-- R465: a standby that is healthy after an image change asks for a handover, once a second for 600 s. -/
def handoverRequest (e : Env) (b : Blk) : Blk := match b.keep.handReq with
  | none => b
  | some (_, till) =>
    if b.role ≠ .standby then modKeep (fun k => { k with handReq := none }) b
    else if till ≠ 0 ∧ till ≤ e.now then (modKeep (fun k => { k with handReq := none }) b).put TWIN_CMD_RESULT 2
    else if healthBits b = 127 then
      twSend e (.mirror { mkMirror e b with hreq := true })
        (modKeep (fun k => { k with handReq := some (e.now + sec 1, if till = 0 then e.now + sec 600 else till) }) b)
    else modKeep (fun k => { k with handReq := some (e.now + sec 1, till) }) b

/-- R454: PARAM_ADOPT. -/
def paramAdopt (_ : Env) (b : Blk) : Blk := keepCmd 4 (fun b => b.mode == .commissioning)
  (fun b => keepResult 4 2 (nvRequest (.param none true) b)) b

/-! ### Keys (R466, R467) -/

/-- The first two bytes of a key's SHA-256, byte 0 low; 0 when empty (R466). -/
def keyKcv (bs : List Byte) : Nat := if bs = [] then 0 else leVal ((sha256 bs).take 2)

/-- A key commit completes (R467). -/
def keyDone (slot : Nat) (bs : List Byte) (b : Blk) : Blk :=
  let rest := b.keep.keys.filter (fun k => k.1 != slot)
  let b1 := modKeep (fun k => { k with keys := if bs = [] then rest else rest ++ [(slot, bs)] }) b
  ((b1.put KEEP_KEY_STA_PRESENT (setBit (b.get KEEP_KEY_STA_PRESENT) slot (bs != []))).put (KEEP_KEY_KCV slot) (keyKcv bs)).put
    KEEP_CMD_STA_RESULT (if b.get KEEP_CMD_STA_LAST = 8 ∨ b.get KEEP_CMD_STA_LAST = 9 then 1 else b.get KEEP_CMD_STA_RESULT)

/-- A key's length (R466). -/
def keyLen (slot : Nat) : Nat := if slot = 6 then 64 else 32

/-- The key buffer of a session as bytes; words not written are 0. -/
def keyBytes (s : Sess) (n : Nat) : List Byte :=
  ((List.range 16).flatMap (fun k => leBytes 4 ((s.keyBuf[k]?).getD 0))).take n

/-- Sessions 0 to 3 and the inspection port's own buffers stand in one list; this clears one. -/
def clearKeyBuf (actor : Nat) (b : Blk) : Blk := { b with sess := modAt b.sess actor (fun (s : Sess) => { s with keyBuf := [] }) }

/-- R467: KEY_WRITE by an actor, with the slot of KEY_CTL. -/
def keyWrite (actor : Nat) (e : Env) (b : Blk) : Blk := clearKeyBuf actor
  (keepCmd 8 (fun b => keyAllowed e b actor (e.get KEEP_KEY_CTL_SLOT)) (fun b =>
    let slot := e.get KEEP_KEY_CTL_SLOT
    let bs := ((b.sess[actor]?).map (fun s => keyBytes s (keyLen slot))).getD []
    securityChange e 4 slot (keepResult 8 2 (nvRequest (.key slot bs) b))) b)

/-- R467: KEY_ERASE. -/
def keyErase (actor : Nat) (e : Env) (b : Blk) : Blk :=
  keepCmd 9 (fun b => keyAllowed e b actor (e.get KEEP_KEY_CTL_SLOT)) (fun b =>
    securityChange e 5 (e.get KEEP_KEY_CTL_SLOT) (keepResult 9 2 (nvRequest (.key (e.get KEEP_KEY_CTL_SLOT) []) b))) b

/-- R448: RAISE_MIN_VERSION. -/
def raiseMinVersion (e : Env) (b : Blk) : Blk := keepCmd 10 (fun _ => true) (fun b =>
  securityChange e 6 (runImage b).version
    (keepResult 10 1 (nvRequest .retained (b.put KEEP_MIN_VERSION (runImage b).version)))) b

/-! ### Security states (R469, R470) -/

/-- R469: SEAL. -/
def sealCmd (e : Env) (b : Blk) : Blk := keepCmd 5 (fun b =>
    b.keep.sec == .opened && b.get KEEP_SEAL_CODE_CODE == b.get SYS_SERIAL_LO && (keyOf b 0).isSome && (keyOf b 5).isSome &&
    [1, 2, 3, 4].any (fun k => (keyOf b k).isSome) && (b.mode == .commissioning || b.mode == .isolated) &&
    b.get PWR_STA_HOLD_READY == 1)
  (fun b => keepResult 5 1 (securityChange e 1 0 (modKeep (fun k => { k with sec := .isSealed }) b))) b

/-- R469: SVC_REQUEST on a session: a fresh nonce. -/
def svcRequest (actor : Nat) (e : Env) (b : Blk) : Blk := keepCmd 6 (fun b =>
    b.keep.sec == .isSealed && b.get KEEP_STA_IP_EN == 1 && b.get KEEP_SVC_STA_BLOCKED == 0 && decide (actor < 4))
  (fun b =>
    let w := fun n => leVal ((List.range 4).map (fun k => Config.nonceByte b.free (4 * n + k)))
    let b1 := { modKeep (fun k => { k with nonce := some (actor, e.now + sec 10), svcResp := [] }) b with free := b.free + 1 }
    keepResult 6 1 ((List.range 4).foldl (fun (x : Blk) n => x.put (KEEP_SVC_NONCE n) (w n)) b1)) b

/-- R469: a failed answer; three in a row block SVC_REQUEST for 10 min. -/
def svcFail (e : Env) (b : Blk) : Blk :=
  let n := min 3 (b.get KEEP_SVC_STA_FAILS + 1)
  let b1 := (modKeep (fun k => { k with nonce := none, svcResp := [] }) b).put KEEP_SVC_STA_FAILS n
  let b2 := if n = 3 then (modKeep (fun k => { k with svcBlockBy := some (e.now + sec 600) }) b1).put KEEP_SVC_STA_BLOCKED 1 else b1
  raise e SRC_SVC_AUTH_FAIL 0 0 0 b2

/-- R469: what a correct response is. -/
def svcExpected (b : Blk) (session : Nat) : Option (List Byte) :=
  (keyOf b 5).map (fun k => (hmac k ((List.range 4).flatMap (fun n => leBytes 4 (b.get (KEEP_SVC_NONCE n))) ++
    leBytes 4 (b.get SYS_SERIAL_LO) ++ leBytes 4 (b.get SYS_SERIAL_HI) ++ leBytes 1 session)).take 16)

/-- R469: a word of the response; the answer is judged when all four words are written. -/
def svcRespWord (actor n w : Nat) (e : Env) (b : Blk) : Blk := localCmd (fun b =>
  match b.keep.nonce with
  | none => finish .denied b
  | some (s, till) =>
    if s ≠ actor ∨ b.holdup then finish .denied b else
    let ws := b.keep.svcResp.filter (fun p => p.1 != n) ++ [(n, w)]
    let b1 := modKeep (fun k => { k with svcResp := ws }) b
    if ws.length < 4 then finish .ok b1
    else
      let got := (List.range 4).flatMap (fun k => leBytes 4 (((ws.find? (fun p => p.1 == k)).map Prod.snd).getD 0))
      if e.now ≤ till ∧ svcExpected b s = some got then
        let b2 := modKeep (fun k => { k with
          nonce := none, svcResp := [], sec := .service, svcBy := some (e.now + sec (60 * e.get KEEP_SVC_TIME_TIME)) }) b1
        finish .ok (securityChange e 2 0 ((b2.put KEEP_SVC_STA_SESSION s).put KEEP_SVC_STA_FAILS 0))
      else finish .ok (svcFail e b1)) b

/-- R469: the whole response as one write of the four words. -/
def svcResp (actor : Nat) (ws : List Nat) (e : Env) (b : Blk) : Blk :=
  (mapIdx (fun n w => (n, w)) 0 (ws.take 4)).foldl (fun (x : Blk) p => svcRespWord actor p.1 p.2 e x) b

def svcRespTimer (b : Blk) : Option Nat := b.keep.nonce.map Prod.snd

/-- R469: no response within 10 s. -/
def svcResponseTimeout (e : Env) (b : Blk) : Blk := svcFail e b

def svcBlockTimer (b : Blk) : Option Nat := b.keep.svcBlockBy

/-- R469: the block ends. -/
def svcBlockEnd (_ : Env) (b : Blk) : Blk :=
  ((modKeep (fun k => { k with svcBlockBy := none }) b).put KEEP_SVC_STA_BLOCKED 0).put KEEP_SVC_STA_FAILS 0

/-- R470: SERVICE returns to SEALED. -/
def serviceEnd (e : Env) (b : Blk) : Blk :=
  if b.keep.sec = .service then securityChange e 3 0 (modKeep (fun k => { k with sec := .isSealed, svcBy := none }) b) else b

/-- R470: SVC_END, of the bound session. -/
def svcEnd (actor : Nat) (e : Env) (b : Blk) : Blk := keepCmd 7 (fun b => keyAllowed e b actor 7 && b.keep.sec == .service)
  (fun b => keepResult 7 1 (serviceEnd e b)) b

def svcTimer (b : Blk) : Option Nat := b.keep.svcBy

/-- R470: the service time runs again from each request accepted on the bound session. -/
def svcTouch (session : Nat) (e : Env) (b : Blk) : Blk :=
  if b.keep.sec = .service ∧ b.get KEEP_SVC_STA_SESSION = session then
    modKeep (fun k => { k with svcBy := some (e.now + sec (60 * e.get KEEP_SVC_TIME_TIME)) }) b
  else b

/-! ### The inspection port (R471, R472) -/

/-- R472: the port's state: 0 CLOSED, 1 OBSERVE, 2 FULL. -/
def ipState (b : Blk) : Nat :=
  if b.get KEEP_STA_IP_EN = 0 ∨ b.holdup ∨ b.phase = .coldBoot ∨ b.phase = .off then 0
  else match b.keep.sec with
  | .opened => if b.pwr.latch then 0 else 2
  | .isSealed => 0
  | .service => 1

/-- R471: IP_EN_N has been low for 100 ms. -/
def ipEnable (_ : Env) (b : Blk) : Blk := if b.powered then b.put KEEP_STA_IP_EN 1 else b

/-- R470, R473: IP_EN_N has been high for 100 ms: the port closes, SERVICE and a running challenge end. -/
def ipRelease (e : Env) (b : Blk) : Blk :=
  if ¬ b.powered then b else
  serviceEnd e (modKeep (fun k => { k with nonce := none, svcResp := [] }) (b.put KEEP_STA_IP_EN 0))

/-- R471: scan access, which stops the engines until the module is restarted. -/
def scanAccess (_ : Env) (b : Blk) : Blk :=
  if b.running ∧ ipState b = 2 ∧ b.mode = .commissioning then
    modKeep (fun k => { k with scanned := true }) { b with lastStatus := .ok }
  else finish .denied b

/-! ### The MRAM's upkeep (R445, R446) -/

/-- The region of a line of 64 bytes, by its MRAM address, as its commit priority (R443). -/
def lineRegion (line : Nat) : Nat :=
  let a := 64 * line
  if a < 0x600000 then 3 else if a < 0x620000 then 1 else if a < 0x640000 then 0 else if a < 0x680000 then 1
  else if a < 0x770000 then 3 else if a < 0xC00000 then 2 else 3

/-- R446: a sector's copy into the reserve is asked for; without a free reserve sector it stays in place. -/
def remapAsk (line : Nat) (b : Blk) : Blk := if b.keep.spares < 128 then nvRequest (.remap (lineRegion line)) b else b

/-- The conditions of the reserve (R446). -/
def reserveConds (b : Blk) : List Cond :=
  [⟨decide (112 < b.keep.spares), SRC_NV_RESERVE_LOW, 0, 0, 0, 0⟩,
   ⟨decide (128 ≤ b.keep.spares) || inExc b SRC_NV_RESERVE_EXHAUSTED 0, SRC_NV_RESERVE_EXHAUSTED, 0, 0, 0, 0⟩]

/-- R446: a remap's commit completes. -/
def remapDone (e : Env) (b : Blk) : Blk :=
  let b1 := (modKeep (fun k => { k with spares := min 128 (k.spares + 1) }) b).bump KEEP_NV_CNT_HIGH
  judgeAll e (reserveConds b1) (reserveUnits e 5 (b1.keep.spares - b.keep.spares) (nvRequest .retained
    (b1.put SYS_RESERVE_USED_USED (setBit (b1.get SYS_RESERVE_USED_USED) 5 true))))

/-- The structure that holds an uncorrectable line fails its own check (R445). DESIGN CHOICE: the spec does not place the two copies of
the retained records in their region, so which copy a line there belongs to, if any, is open (notes/assumptions/121.md). -/
def lineLost (line : Nat) (b : Blk) : Blk :=
  let a := 64 * line
  let b1 := modKeep (fun k => { k with badLines := insSet k.badLines line }) b
  if 0x600000 ≤ a ∧ a < 0x610000 then modKeep (fun k => { k with slot0 := k.slot0.map (fun (x : ParSlot) => { x with ok := false }) }) b1
  else if 0x610000 ≤ a ∧ a < 0x620000 then modKeep (fun k => { k with slot1 := k.slot1.map (fun (x : ParSlot) => { x with ok := false }) }) b1
  else if 0x620000 ≤ a ∧ a < 0x630000 then
    { b1 with ledger := { b1.ledger with jrnA := b1.ledger.jrnA.map (fun (j : Jrn) => { j with ok := false }) } }
  else if 0x630000 ≤ a ∧ a < 0x640000 then
    { b1 with ledger := { b1.ledger with jrnB := b1.ledger.jrnB.map (fun (j : Jrn) => { j with ok := false }) } }
  else if 0x650000 ≤ a ∧ a < 0x660000 then
    modKeep (fun k => { k with retOk := match (Config.openResult 444 [line]).toNat % 3 with
      | 0 => (false, k.retOk.2)
      | 1 => (k.retOk.1, false)
      | _ => k.retOk }) b1
  else b1

/-- R445: the scrub finds a line without error (0), with one it corrects (1), with one it cannot correct (2), or ends a pass
(3). No line is read before the transaction pause after the last one is over (R288). -/
def nvScrub (line res : Nat) (e : Env) (b0 : Blk) : Blk :=
  let soon := (b0.keep.lineAt.map (fun t => decide (e.now < t + us (b0.get THERM_STEPS_MOD_PAUSE)))).getD false
  if ¬ b0.running ∨ 0x40000 ≤ line ∨ (soon ∧ res ≠ 3) then b0 else
  let b := if res = 3 then b0 else modKeep (fun k => { k with lineAt := some e.now }) b0
  if res = 1 then
    let again := b.keep.lineFix.any (fun p => p.1 == line && decide (e.now ≤ p.2 + sec 2592000))
    let b1 := modKeep (fun k => { k with lineFix := k.lineFix.filter (fun p => p.1 != line) ++ [(line, e.now)] }) (b.bump KEEP_NV_STA_HIGH)
    let b2 := raise e SRC_NV_CORRECTED 0 line 0 b1
    if again then remapAsk line b2 else b2
  else if res = 2 then
    remapAsk line (raise e SRC_NV_UNCORRECTABLE 0 line 0 (nvRequest .retained ((lineLost line b).bump KEEP_NV_CNT_LOW)))
  else if res = 3 then modKeep (fun k => { k with scrubAt := some e.now }) b
  else b

end Sys2Proof.Machine
end

