-- ==== Sys2Proof/Machine/Power.lean ====
section
/-! DEFINITION. PWR and CLK: the supply, HOLDUP, the hold-up capacitor, the NV commits and the clocks' supervision (file 03, R71
to R94; R67, R70). -/

namespace Sys2Proof.Machine

def modPwr (f : Pwr → Pwr) (b : Blk) : Blk := { b with pwr := f b.pwr }

/-! ### The hold-up capacitor (R73 to R78) -/

/-- R76, R78: HOLD_READY and V_COMMIT_EFF as HOLD, the capacitance and the settings now give them. -/
def holdShow (e : Env) (b : Blk) : Blk :=
  (b.put PWR_STA_HOLD_READY (boolBit (decide (9000 ≤ b.get PWR_HOLD_V_HOLD) && b.get PWR_STA_CAP_VALID == 1 &&
    decide (e.get PWR_CAP_MIN ≤ b.get PWR_CAP_CAP_UF)))).put PWR_HOLD_V_V_COMMIT_EFF (commitVolts e b)

/-- HOLD as the supervisor reads it, in 10 mV. -/
def setHold (v : Nat) (b : Blk) : Blk := b.put PWR_HOLD_V_HOLD (min 65535 v)

/-- R74, R77: HOLD is read at 48 V or below in a discharge of NORMAL: it ends, and the boost starts with its 10 s (R75, R89). -/
def discharged (v : Nat) (e : Env) (b : Blk) : Blk :=
  if ¬ b.powered ∨ b.holdup ∨ b.get PWR_STA_DISCHARGE_ON = 0 ∨ 4800 < v then b else
  modPwr (fun p => { p with
    chargeBy := some (e.now + sec 10), boostBy := if b.phase = .coldBoot then some (e.now + sec 10) else p.boostBy })
    ((b.put PWR_STA_DISCHARGE_ON 0).put PWR_STA_BOOST_ON 1)

/-- A reading of HOLD, in 10 mV, and what it shows (R74, R76). -/
def holdRead (v : Nat) (e : Env) (b : Blk) : Blk := holdShow e (discharged v e (setHold v b))

/-- R129: HOLD_READY at 0 aborts a connect that runs: precondition 6 is lost. -/
def holdLost (e : Env) (src : Nat) (b : Blk) : Blk := if b.get PWR_STA_HOLD_READY = 0 then precondLost e src b else b

/-- R75, R491: HOLD_CAP_LOW while the measured capacitance lies below CAP_MIN. -/
def capJudge (e : Env) (b : Blk) : Blk :=
  if b.get PWR_STA_CAP_VALID = 0 then b else
  judge e (decide (b.get PWR_CAP_CAP_UF < e.get PWR_CAP_MIN)) SRC_HOLD_CAP_LOW 0 0 (b.get PWR_CAP_CAP_UF) (e.get PWR_CAP_MIN) b

/-- R74: HOLD reaches 50.0 V while it charges for a measurement; where no reading showed the end of the discharge at 48 V, the 10 s of
R75 and R89 count from here. -/
def capMeasureStart (e : Env) (b : Blk) : Blk :=
  if b.phase = .coldBoot ∨ (b.running ∧ b.pwr.remeasure ∧ ¬ b.holdup) then
    holdShow e (((modPwr (fun p => { p with
      capAt := some e.now, chargeBy := some (p.chargeBy.getD (e.now + sec 10))
      boostBy := if b.phase = .coldBoot then some (p.boostBy.getD (e.now + sec 10)) else p.boostBy }) (setHold 5000 b)).put
      PWR_STA_DISCHARGE_ON 0).put PWR_STA_BOOST_ON 1)
  else b

/-- R74: HOLD reaches 90.0 V: C = 60 mA × Δt / 40 V, in µF; a period of CORE is 5 ns. -/
def capMeasureComplete (e : Env) (b : Blk) : Blk :=
  match b.pwr.capAt with
  | none => b
  | some t =>
    if ¬ b.powered ∨ b.holdup then b else
    let c := min 65535 ((e.now - t) * 3 / 400000)
    let b1 := (((setHold 9000 b).put PWR_CAP_CAP_UF c).put PWR_STA_CAP_VALID 1).put PWR_CAP_REMEASURE 0
    capJudge e (holdShow e (modPwr (fun p => { p with capAt := none, chargeBy := none, remeasure := false, holdSup := true }) b1))

/-- R77: the host asks for a new measurement: the discharge starts. -/
def remeasureStart (e : Env) (b : Blk) : Blk :=
  holdShow e (((((modPwr (fun p => { p with
    remeasure := true, capAt := none, chargeBy := none, holdSup := false }) b).put PWR_STA_CAP_VALID 0).put
    PWR_CAP_REMEASURE 1).put PWR_STA_DISCHARGE_ON 1).put PWR_STA_BOOST_ON 0)

/-- R77: the write of REMEASURE. -/
def capRemeasure (e : Env) (b : Blk) : Blk := hostCmd (fun b =>
  if ¬ (b.mode = .commissioning ∨ b.mode = .isolated ∨ b.mode = .maintenance) then finish .denied b
  else finish .ok (if b.pwr.remeasure then b else remeasureStart e b)) b

/-- R75: HOLD, `v` in 10 mV, below 85 V for `held` ms, or not at 90 V within 10 s of the start of charging, which ends a measurement
that runs without a result; a connect that runs loses precondition 6 with HOLD_READY (R129). -/
def holdChargeFail (v held : Nat) (e : Env) (b : Blk) : Blk :=
  if ¬ b.powered ∨ b.holdup then b else
  let b1 := holdRead v e b
  let late := (b.pwr.chargeBy.map (fun t => decide (t ≤ e.now) && decide (v < 9000))).getD false
  let low := b.pwr.holdSup && decide (v < 8500) && decide (100 ≤ held)
  let b2 := if late then (modPwr (fun p => { p with chargeBy := none, capAt := none, remeasure := false }) b1).put PWR_CAP_REMEASURE 0
    else b1
  let b3 := if late || low then beginExc e SRC_HOLD_CHARGE_FAIL 0 0 v (if late then 9000 else 8500) b2
    else if 9000 ≤ v ∨ (b.pwr.holdSup ∧ 8500 ≤ v) then endExc e SRC_HOLD_CHARGE_FAIL 0 b2 else b2
  holdLost e SRC_HOLD_CHARGE_FAIL b3

/-- R75, R76: HOLD is at 90 V again. -/
def holdRecharged (e : Env) (b : Blk) : Blk :=
  if ¬ b.powered ∨ b.holdup then b else
  endExc e SRC_HOLD_CHARGE_FAIL 0 (holdShow e (modPwr (fun p => { p with holdSup := true, chargeBy := none })
    (setHold (max 9000 (b.get PWR_HOLD_V_HOLD)) b)))

/-! ### HOLDUP (R80 to R84, R138, R144) -/

/-- R38, R424: an ACTIVE that is CONNECTED relinquishes where its standby is healthy and in NORMAL. -/
def relinquishes (b : Blk) : Bool :=
  b.twin && b.role == .active && b.mode == .connected && b.get TWIN_PARTNER_HEALTHY == 1 && b.get TWIN_PARTNER_HOLDUP == 0 &&
  b.get TWIN_STA_TL_PATH_OK == 1

/-- The actions of R80 on pins and links, done by the AON supervisor during a warm boot (R84). -/
def holdupPins (e : Env) (b : Blk) : Blk :=
  let b1 := (rackAbandon (physStop (b.put PWR_STA_BOOST_ON 0))).put PWR_STA_PSTATE 1
  let b2 := modPwr (fun p => { p with
    holdupAt := e.now, rideBy := some (e.now + ms (e.get PWR_RIDE_TIME)), capAt := none, chargeBy := none, holdSup := false }) b1
  ((b2.put PWR_STA_RIDE_EXPIRED 0).put PWR_STA_DISCHARGE_ON 0).bump PWR_HOLDUP_LOG_ENTRIES

/-- R144, R138: a disconnect goes on without its weld test: one that runs ends, and its verdicts are not tested. -/
def holdupWeld (e : Env) (b : Blk) : Blk :=
  if (b.seq.weld.map (fun w => !w.inConnect && !w.demand)).getD false then
    setStep stepIdle (setVerdicts 0 0 0 ((modSeq clearSeqTimers (ssbOff e b)).put SAFE_WELD_RESULT_PENDING 0))
  else precondLost e SRC_SUPPLY_LOSS b

/-- What the engines do at HOLDUP entry (R80, R83, R144, R330, R382, R388, R459, R470, R473), SUPPLY_LOSS apart. -/
def holdupWork (e : Env) (b : Blk) : Blk :=
  let b1 := deltaFault e 6 (activateDrop (serviceEnd e b))
  let b2 := imdStop (tpStopAll (flushQueues b1))
  let b3 := modPsf (fun p => { p with wdBy := none, wdStartBy := none }) b2
  let b4 := modKeep (fun k => { k with nonce := none, svcResp := [] }) b3
  let b5 := holdupWeld e (if b4.mode = .maintenance then stopTests e b4 else b4)
  let b6 := if relinquishes b5 then modTw (fun t => { t with relSend := some e.clk.ns1 }) b5 else b5
  nvRequest (.journal false) b6

/-- HOLDUP entry in service. -/
def holdupEngines (e : Env) (b : Blk) : Blk := holdupWork e (raise e SRC_SUPPLY_LOSS 0 0 0 b)

/-- R71, R80, R84, R456: VIN, in 10 mV, has stood at `vin` for 50 µs: below 33 V the power state becomes HOLDUP. Under scan access the
AON supervisor's part alone happens (R90, R471). -/
def undervoltage (vin : Nat) (e : Env) (b : Blk) : Blk :=
  let b0 := b.put PWR_SUPPLY_VIN (min 65535 vin)
  match b.phase with
  | .off => b
  | .coldBoot => b0
  | .warmBoot => if b.holdup ∨ 3300 ≤ vin then b0 else serviceEnd e (raise e SRC_SUPPLY_LOSS 0 0 0 (holdupPins e b0))
  | .run =>
    if b.holdup ∨ 3300 ≤ vin then b0
    else if b.keep.scanned then holdupPins e b0
    else holdupEngines e (holdupPins e b0)

/-- The single-net time does not run in HOLDUP (R330): it goes on after the HOLDUP where it stood. -/
def netTimeResume (e : Env) (b : Blk) : Blk :=
  modPsf (fun p => { p with singleAt := p.singleAt.map (fun t => t + (e.now - b.pwr.holdupAt)) }) b

/-- R82: the power state returns to NORMAL: boost and PHYs restart, the rack bus is checked, deferred work goes on. -/
def powerNormal (e : Env) (b : Blk) : Blk :=
  let ms_ := min 65535 ((e.now - b.pwr.holdupAt) / ms 1)
  let b1 := (((b.put PWR_STA_PSTATE 0).put PWR_STA_RIDE_EXPIRED 0).put PWR_STA_BOOST_ON 1).put PWR_HOLDUP_LOG_LAST_MS ms_
  let b2 := modPwr (fun p => { p with rideBy := none, chargeBy := some (e.now + sec 10), holdSup := false }) b1
  let b3 := physStart e (netTimeResume e b2)
  let b4 := modTw (fun t => { t with
    relSend := none, skipTill := if b3.role = .standby then e.now + sec 1 else t.skipTill }) b3
  let b5 := if b4.running then psfRestart e b4 else b4
  let b6 := if b5.pwr.remeasure then remeasureStart e b5 else b5
  let b6 := if b6.keep.ctrWait then nvRequest .retained b6 else b6
  holdShow e (authDeferred e b6)

/-- R71, R82: VIN, in 10 mV, has stood at `vin` for 2 ms: at 35 V or above HOLDUP ends. -/
def undervoltageRelease (vin : Nat) (e : Env) (b : Blk) : Blk :=
  if ¬ b.powered then b else
  let b0 := b.put PWR_SUPPLY_VIN (min 65535 vin)
  if b0.holdup ∧ 3500 ≤ vin then powerNormal e b0 else b0

def rideTimer (b : Blk) : Option Nat := b.pwr.rideBy

/-- The final commits of R81 step 5. -/
def finalCommits (b : Blk) : Blk :=
  let b1 := nvRequest (.journal true) b
  if b1.watch.cache.isEmpty then b1 else nvRequest .log b1

/-- R81 step 4, R138: the ride-through time ends. During a warm boot the disconnect waits for its end (R84). -/
def rideExpiry (e : Env) (b : Blk) : Blk :=
  let b1 := (modPwr (fun p => { p with rideBy := none }) b).put PWR_STA_RIDE_EXPIRED 1
  if ¬ b1.running then b1
  else if b1.mode = .connected ∧ b1.owner ∧ b1.seq.dis = none then
    startDis e ⟨false, b1.seq.tctrl.isSome, true, if b1.seq.tctrl.isSome then b1.watch.rrSrc else 0, false⟩ b1
  else if b1.seq.dis = none then finalCommits b1
  else b1

/-- R81 step 6: nothing is left to do, or 100 ms have passed, which the AON supervisor times under scan access too. DESIGN CHOICE:
after a HOLDUP that began in a warm boot (R84) the 100 ms count from the detection, as the ride-through time does
(notes/assumptions/147.md). -/
def offDue (e : Env) (b : Blk) : Bool :=
  b.phase == .run && b.holdup && (decide (b.pwr.holdupAt + ms 100 ≤ e.now) ||
    (b.running && b.get PWR_STA_RIDE_EXPIRED == 1 && b.seq.dis.isNone && b.pwr.running.isNone && b.pwr.queued.isEmpty && b.pwr.waiting.isEmpty))

/-- R94, R491: VIN, in 10 mV, above 77 V for `held` ms. -/
def vinHigh (vin held : Nat) (e : Env) (b : Blk) : Blk :=
  if ¬ b.powered then b else
  judge e (decide (7700 < vin) && (decide (10 ≤ held) || inExc b SRC_VIN_HIGH 0)) SRC_VIN_HIGH 0 0 vin 7700
    (b.put PWR_SUPPLY_VIN (min 65535 vin))

/-- R70: VCOIL, `v` in 10 mV, below 18 V for 1 ms: every coil drops, the contactors count as open. -/
def vcoilLoss (v : Nat) (e : Env) (b : Blk) : Blk :=
  if ¬ b.powered ∨ b.get PWR_STA_VCOIL_OK = 0 ∨ 1800 ≤ v then b else
  let b1 := setFb false false false (releaseAll ((b.put PWR_STA_VCOIL_OK 0).put PWR_SUPPLY_VCOIL (min 65535 v)))
  precondLost e SRC_VCOIL_LOSS (judge e true SRC_VCOIL_LOSS 0 0 v 1800 b1)

/-- R70: VCOIL is back at 18 V or above. -/
def vcoilRestored (v : Nat) (e : Env) (b : Blk) : Blk :=
  if ¬ b.powered ∨ v < 1800 then b else
  endExc e SRC_VCOIL_LOSS 0 ((b.put PWR_STA_VCOIL_OK 1).put PWR_SUPPLY_VCOIL (min 65535 v))

/-- R94: a rail out of tolerance for 10 µs: the reaction, which a warm boot holds until its end (R356), and a cold boot after it;
under scan access, where no engine reacts, the cold boot alone. A cold BOOT is restarted instead (R456). -/
def railFault (e : Env) (b : Blk) : Blk :=
  if b.phase = .off ∨ b.phase = .coldBoot then b else
  let b1 := modPwr (fun p => { p with rail := true }) b
  if b.keep.scanned then b1 else raise e SRC_RAIL_FAULT 0 0 0 b1

/-! ### NV commits (R78, R79) -/

/-- R295: the MRAM write pulse of a band, ns. -/
def mramPulse (band : Nat) : Nat := match band with
  | 0 => 80
  | 1 => 60
  | 4 => 50
  | _ => 40

/-- What a commit holds is taken as it starts: of a journal, the ledger's snapshot (R260); it is written with the band's pulse. -/
def commitBegin (e : Env) (j : NvJob) (b : Blk) : Blk :=
  let b1 := modPwr (fun p => { p with pulse := mramPulse (b.get THERM_STA_BAND) }) b
  match j with
  | .journal f => journalStart e f b1
  | _ => b1

/-- R78: the head of the queue starts where the gate lets it; HOLD, `v` in 10 mV, is judged once. -/
def nvStart (v : Nat) (e : Env) (b : Blk) : Blk :=
  if ¬ b.powered then b else
  let b1 := holdLost e 0 (holdRead v e b)
  match b1.pwr.running, b1.pwr.queued with
  | none, j :: q => if commitVolts e b1 ≤ v then commitBegin e j (modPwr (fun p => nvAdmit { p with running := some j, queued := q }) b1) else b1
  | _, _ => b1

/-- What a completed commit leaves in MRAM. -/
def nvEffect (e : Env) (j : NvJob) (b : Blk) : Blk := match j with
  | .journal f => journalDone e f b
  | .param c k => paramDone e c k b
  | .retained => retainDone b
  | .key s bs => keyDone s bs b
  | .log => logDone e b
  | .ceiling v => ceilingDone e v b
  | .capture s => captureDone s b
  | .remap _ => remapDone e b
  | .image _ => streamRun e (((b.keep.stream.map (fun s => s.pend.length)).getD 0) + 8) b
where
  ceilingDone (e : Env) (v : Nat) (b : Blk) : Blk := Sys2Proof.Machine.ceilingDone v e b

/-- The first line of the region a job writes, by its priority (R443). -/
def jobLine (j : NvJob) : Nat := match j with
  | .journal _ => 0x620000 / 64
  | .param _ _ => 0x600000 / 64
  | .retained => 0x650000 / 64
  | .key _ _ => 0x640000 / 64
  | .log => 0x800000 / 64
  | .ceiling _ => 0x770000 / 64
  | .capture _ => 0x680000 / 64
  | .remap _ => 0xE00000 / 64
  | .image _ => 0

/-- R79, R446: the running commit completes; a write that fails its read-back moves its sector to the reserve, and is reported for the
journal and the log (R264, R364). -/
def nvComplete (readBackFails : Bool) (e : Env) (b : Blk) : Blk :=
  match b.pwr.running with
  | none => b
  | some j =>
    if ¬ b.powered then b else
    let b1 := modPwr (fun p => nvAdmit { p with running := none }) b
    if ¬ readBackFails then nvEffect e j b1
    else match j with
      | .journal f => remapAsk (jobLine j) (raise e SRC_JOURNAL_FAULT 0 0 0 (journalTorn e f b1))
      | .log => remapAsk (jobLine j) (raise e SRC_LOG_NV_FAULT 0 0 0 (nvEffect e j b1))
      | _ => remapAsk (jobLine j) (nvEffect e j b1)

/-- An abandoned key or adoption fails its command (R467). -/
def jobFails (j : NvJob) (b : Blk) : Bool := match j with
  | .key _ _ => b.get KEEP_CMD_STA_LAST == 8 || b.get KEEP_CMD_STA_LAST == 9
  | .param _ true => b.get KEEP_CMD_STA_LAST == 4
  | _ => false

/-- R360: a capture whose storage commit is abandoned is stored as far as it came and marked incomplete. -/
def capturesCut (l : List NvJob) (b : Blk) : Blk :=
  let cut := (b.watch.caps.filter (fun c => l.contains (.capture c.slot))).map Cap.slot
  let b1 := modWatch (fun w => { w with
    caps := w.caps.map (fun (c : Cap) => if cut.contains c.slot then { c with incomplete := true } else c) }) b
  cut.foldl (fun (x : Blk) k => x.put LOG_CAP_VALID (setBit (x.get LOG_CAP_VALID) k true)) b1

/-- R79: in HOLDUP, HOLD below V_COMMIT_EFF abandons every commit that has not started. -/
def commitAbandoned (v : Nat) (e : Env) (b : Blk) : Blk :=
  let b1 := if b.powered then holdLost e 0 (holdRead v e b) else b
  let l := b1.pwr.queued ++ b1.pwr.waiting
  if ¬ b.powered ∨ ¬ b1.holdup ∨ commitVolts e b1 ≤ v ∨ l = [] then b1 else
  let b2 := (modPwr (fun p => { p with queued := [], waiting := [] }) b1).bump PWR_HOLDUP_LOG_ABANDONED l.length
  let b3 := if l.any (fun j => jobFails j b2) then b2.put KEEP_CMD_STA_RESULT 4 else b2
  raise e SRC_COMMIT_ABANDONED 0 0 0 (modWatch (fun w => { w with ceilAsked := false }) (capturesCut l b3))

/-! ### OFF and the power cycle (R81, R85, R86) -/

/-- What OFF leaves of the module (R81, R85, R86): the MRAM, the AON retention, and what the factory fixed. -/
def keepThrough (b : Blk) : Blk :=
  let r := Blk.reset
  let fix := [SYS_VARIANT, SYS_VARIANT_HW_REV, SYS_SERIAL_LO, SYS_SERIAL_HI, SYS_MAC_A_LO, SYS_MAC_A_HI, SYS_MAC_B_LO, SYS_MAC_B_HI] ++
    (List.range 16).map CLK_COMP_PT_PPB ++ [LOG_CAP_VALID, LOG_CAP_PROTECT, LOG_CAP_LAST_SLOT, LOG_CAP_LAST_NUMBER]
  { r with
    sta := fix.foldl (fun (m : RegMap) f => m.put f (b.get f)) []
    tx := b.tx, free := b.free, lastStatus := b.lastStatus
    pwr := { r.pwr with
      latch := b.pwr.latch, latchGroups := b.pwr.latchGroups, cycled := false, restarts := b.pwr.restarts, onBank := b.pwr.onBank
      exhausted := b.pwr.exhausted }
    keep := { r.keep with
      bank0 := b.keep.bank0, bank1 := b.keep.bank1, slot0 := b.keep.slot0, slot1 := b.keep.slot1, ret := b.keep.ret
      retOld := b.keep.retOld, retOk := b.keep.retOk, keys := b.keep.keys, sec := if b.keep.sec = .service then .isSealed else b.keep.sec, lineFix := b.keep.lineFix
      badLines := b.keep.badLines, spares := b.keep.spares, scrubAt := b.keep.scrubAt }
    ledger := { r.ledger with jrnA := b.ledger.jrnA, jrnB := b.ledger.jrnB }
    watch := { r.watch with
      mram := b.watch.mram, mcnt := b.watch.mcnt, mff := b.watch.mff, mffValid := b.watch.mffValid, ceiling := b.watch.ceiling
      caps := b.watch.caps.filter (fun c => bitOf (b.get LOG_CAP_VALID) c.slot)
      capNum := b.watch.capNum, committed := b.watch.committed, dropped := b.watch.dropped } }

/-- R79: the commit that runs completes, whatever comes. -/
def commitFinish (e : Env) (b : Blk) : Blk := match b.pwr.running with
  | none => b
  | some j => nvEffect e j (modPwr (fun p => { p with running := none }) b)

/-- The module goes to OFF: the settings and the counters are lost; the wrap tally stays in the AON keeper, which counts the time
without VIN from HOLDUP entry on (R86, R367). -/
def goOff (s : State) : State :=
  { s with
    par := []
    clk := { s.clk with tb0 := 0, tb1 := 0, tb2 := 0, away := if s.blk.holdup then s.clk.now - s.blk.pwr.holdupAt else 0 }
    blk := keepThrough (commitFinish s.env s.blk) }

/-- R81 step 6. -/
def offEntry (s : State) : State := if offDue s.env s.blk then goOff s else s

/-- A completed power cycle leaves the MRAM only, and the AON keeper switches the discharge path on (R85, R86). -/
def cyclePower (s : State) : State :=
  { s with
    clk := { s.clk with wrap := 0 }
    blk := modPwr (fun p => { p with latch := false, latchGroups := 0, cycled := true, restarts := 0, stopped := false })
      (s.blk.put PWR_STA_DISCHARGE_ON 1) }

/-- R81, R85: HOLD falls below 40 V: in HOLDUP the module goes OFF early, which the next boot records; in OFF the AON keeper stops.
Either completes a power cycle. -/
def holdExhaustion (s : State) : State :=
  if s.blk.powered ∧ (s.blk.holdup ∨ s.blk.keep.scanned) then
    let t := goOff s
    cyclePower { t with blk := { t.blk with pwr := { t.blk.pwr with exhausted := true } } }
  else if s.blk.phase = .off then cyclePower s
  else s

/-- R85, R86: the AON keeper's count of VIN absence comes to 1 s, and stands there where it lay below. -/
def powerCycle (s : State) : State :=
  if s.blk.phase = .off then cyclePower { s with clk := { s.clk with away := max s.clk.away (sec 1) } } else s

/-! ### Clocks (R91 to R93) -/

/-- R373: the bases no longer count true time. -/
def timeInvalid (b : Blk) : Blk := ((b.put TIME_STA_TB0_VALID 0).put TIME_STA_TB1_VALID 0).put TIME_STA_TB2_VALID 0

/-- The ports whose link a stop of NET takes, by R398 a loss of link. -/
def netPorts (b : Blk) : List Nat :=
  [0, 1].filter (fun p => b.running && !b.holdup && b.get (PORT_LINK_UP p) == 1)

/-- The lanes of the Twin Link that a stop of TWIN takes, by R404 a loss of symbol lock. -/
def netLanes (b : Blk) : List Nat := [0, 1].filter (fun k => b.twin && b.get (laneFld k) != 0)

/-- NET, TWIN and CHAIN stop (R91): the links go, both lanes and, by `chainTx`, the ring ends with them. -/
def netStop (e : Env) (b : Blk) : Blk :=
  let b1 := (netPorts b).foldl (fun x p => x.bump (PORT_LINK_DOWN_CNT p)) (linkGone 1 (linkGone 0 (b.put CLK_STA_PLLN_LOCK 0)))
  let b2 := (netLanes b).foldl (fun (x : Blk) k => (laneGone e k x).put (laneFld k) 0) b1
  b2.put SYS_RESERVE_USED_USED (setBit (b2.get SYS_RESERVE_USED_USED) 4 false)

/-- What a stop of NET and TWIN brings in its cycle (R398, R404). -/
def netConds (b : Blk) : List Cond :=
  (netPorts b).flatMap linkConds ++ (netLanes b).map (fun k => ⟨true, SRC_TWIN_LANE_FAIL, k, k, 0, 0⟩)

/-- CORE moves to a fallback source (R91). That TRIP and SAMP have stopped is found by the lane tests and the modulator check. -/
def coreFallback (src : Nat) (b : Blk) : Blk := (b.put CLK_STA_PLLC_LOCK 0).put CLK_STA_CORE_SRC src

/-- R91, R373: REF has stopped or is more than 1 % off; both PLLs are treated as unlocked. DESIGN CHOICE: UNLOCK_CNT counts it as
REF_LOSS only, not in PLLC or PLLN (notes/assumptions/64.md). -/
def refLoss (e : Env) (b : Blk) : Blk :=
  if ¬ b.powered ∨ b.get CLK_STA_REF_OK = 0 then b else
  precondLost e SRC_REF_LOSS (judgeAll e
    (⟨true, SRC_REF_LOSS, 0, 0, 0, 0⟩ :: ⟨true, SRC_TIME_INVALID, 0, 0, 0, 0⟩ :: netConds b)
    (timeInvalid ((netStop e (coreFallback 2 (b.put CLK_STA_REF_OK 0))).bump CLK_UNLOCK_CNT_REF_LOSS)))

/-- R91, R373: PLL-C has lost lock. -/
def pllcUnlock (e : Env) (b : Blk) : Blk :=
  if ¬ b.powered ∨ b.get CLK_STA_PLLC_LOCK = 0 then b else
  precondLost e SRC_PLLC_UNLOCK (judgeAll e [⟨true, SRC_PLLC_UNLOCK, 0, 0, 0, 0⟩, ⟨true, SRC_TIME_INVALID, 0, 0, 0, 0⟩]
    (timeInvalid ((coreFallback 1 b).bump CLK_UNLOCK_CNT_PLLC)))

/-- R91: PLL-N has lost lock. DEDUCED: the time bases stay valid, for R373 names only REF_LOSS and PLLC_UNLOCK, on which the counters
run (notes/assumptions/111.md). -/
def pllnUnlock (e : Env) (b : Blk) : Blk :=
  if ¬ b.powered ∨ b.get CLK_STA_PLLN_LOCK = 0 then b else
  precondLost e SRC_PLLN_UNLOCK
    (judgeAll e (⟨true, SRC_PLLN_UNLOCK, 0, 0, 0, 0⟩ :: netConds b) ((netStop e b).bump CLK_UNLOCK_CNT_PLLN))

/-- R93: the REF frequency offset at a temperature in 0.1 °C, from the 16 points from −45 °C in steps of 10 °C. -/
def refPpb (b : Blk) (t : Int) : Int :=
  let pt := fun (n : Nat) => b.int (CLK_COMP_PT_PPB n)
  if t ≤ -450 then pt 0 else if 1050 ≤ t then pt 15
  else
    let n := ((t + 450) / 100).toNat
    pt n + divRound ((pt (n + 1) - pt n) * (t + 450 - 100 * n)) 100

/-- R93: the trim, in addend LSB: round(−PPB × 5 ns × 2²⁴ / 10⁹). -/
def trimOf (ppb : Int) : Int := divRound (-ppb * 83886080) 1000000000

/-- R93, R369: the trim `t` on the three bases; TB0's and TB1's may be disabled. -/
def setTrims (t : Int) (e : Env) (b : Blk) : Blk :=
  ((b.putInt (TIME_TB_TRIM 0) (if e.get TIME_TRIM_CTL_TB0_DIS = 1 then 0 else t)).putInt (TIME_TB_TRIM 1)
    (if e.get TIME_TRIM_CTL_TB1_DIS = 1 then 0 else t)).putInt (TIME_TB_TRIM 2) t

/-- R93: the sensor beside the TCXO is read; a reading outside the table or none raises REF_COMP_RANGE. -/
def refComp (reading : Option Int) (e : Env) (b : Blk) : Blk :=
  if ¬ b.powered then b else
  match reading with
  | none => judge e true SRC_REF_COMP_RANGE 0 0 0 0 (b.put CLK_STA_COMP_VALID 0)
  | some t =>
    let inside := decide (-450 ≤ t) && decide (t ≤ 1050)
    let b1 := (b.putInt CLK_REF_TEMP_TEMP t).putInt CLK_REF_PPB_PPB (refPpb b t)
    let b2 := b1.put CLK_STA_COMP_VALID (boolBit inside)
    let b3 := if inside then tpRerate e (setTrims (trimOf (refPpb b t)) e b2) else b2
    judge e (!inside) SRC_REF_COMP_RANGE 0 0 (dataWord t) (dataWord (if t < -450 then -450 else 1050)) b3

end Sys2Proof.Machine
end

