-- ==== Sys2Proof/Machine/View.lean ====
section
/-! DEFINITION. What a register access reads (files 03 to 16): the address map, the common header, status that the blocks keep in
their own form, wide values and snapshots (R95 to R105). -/

namespace Sys2Proof.Machine

/-! ### The address map (R95) -/

/-- Where an address lies. -/
inductive Area where
  | page (base : Nat)
  | cell (n off : Nat)
  | cmu (k off : Nat)
  | log (slot word : Nat)
  | staging (off : Nat)
  | none
deriving DecidableEq, Repr

def areaOf (a : Nat) : Area :=
  if a < 0x11000 then .page (a / 0x1000 * 0x1000)
  else if 0x100000 ≤ a ∧ a < 0x112000 then .cell ((a - 0x100000) / 128) (a % 128)
  else if 0x140000 ≤ a ∧ a < 0x142800 then .cmu ((a - 0x140000) / 256) (a % 256)
  else if 0x200000 ≤ a ∧ a < 0x600000 then .log ((a - 0x200000) / 32) (a % 32 / 4)
  else if 0x800000 ≤ a ∧ a < 0x900000 then .staging (a - 0x800000)
  else .none

/-- The end of the page or window of an address: no operation crosses it (R108). -/
def areaEnd (a : Nat) : Nat := match areaOf a with
  | .page base => base + 0x1000
  | .cell _ _ => 0x112000
  | .cmu _ _ => 0x142800
  | .log _ _ => 0x600000
  | .staging _ => 0x900000
  | .none => 0

/-- A span of `n` words from an address lies in one page or window and is aligned (R108, R115). -/
def spanOk (a n : Nat) : Bool := a % 4 == 0 && decide (a + 4 * n ≤ areaEnd a)

/-! ### Helpers -/

/-- Half `hi` of a wide value, s64 or u64. -/
def half64 (x : Int) (hi : Bool) : Nat := rawBits 64 x / (if hi then 2 ^ 32 else 1) % 2 ^ 32

/-- Whole `unit`s of CORE periods since a time, saturating at `top`. -/
def since (e : Env) (t unit top : Nat) : Nat := min top ((e.now - t) / unit)

/-- The time left until a deadline in `unit`s, rounded up, 0 without one. -/
def remain (e : Env) (t : Option Nat) (unit : Nat) : Nat := (t.map (fun d => (d - e.now + unit - 1) / unit)).getD 0

/-- A set of numbers below 32 above a base, as a word. -/
def setWord (base : Nat) (l : List Nat) : Nat :=
  l.foldl (fun w n => if base ≤ n ∧ n < base + 32 then setBit w (n - base) true else w) 0

/-- The session a reader has: 0 to 3, or 4 for the inspection port. -/
def sessOf (b : Blk) (who : Nat) : Sess := (b.sess[who]?).getD .empty

/-! ### Reserves (R43, R97) -/

/-- Reserve outputs assigned (R316), and spare sources with a producer. -/
def soUsed (par : RegMap) : List Nat := [6, 7].filter (fun n => par.get (SAFE_SO_FUNC_SO n) != 0)
def srcUsed (par : RegMap) : List Nat := (List.range 16).filter (fun k => par.get (FAULT_SPARE_MAP_PRODUCER k) != 0)
def soSpares (par : RegMap) : Nat := (soUsed par).length
def srcSpares (par : RegMap) : Nat := (srcUsed par).length

def popcount (w n : Nat) : Nat := ((List.range n).filter (bitOf w)).length

/-- IN_USE and AVAILABLE of a page. DESIGN CHOICE: of a twin module's four ring end ports, those that serve no end are available but
for one per remapped end, which its failed port is (notes/assumptions/112.md). -/
def spareUse (e : Env) (b : Blk) (page : Nat) : Nat × Nat := match page with
  | 5 => (b.get SYS_RESERVE_USED_USED % 2, boolBit (b.get TRIP_STA_C_ROLE == 0 && !retired b 2))
  | 6 =>
    let s := popcount (b.get CHAIN_SPARE_DETAIL_SPARES) 4
    let n := popcount (b.get CHAIN_SPARE_DETAIL_ENDS) 4
    (s + n, 4 - s + if b.twin then 4 - n - ((ringMap e b).filter (fun p => p != 0)).length else 0)
  | 10 => (soSpares e.par, 2 - soSpares e.par)
  | 11 => (srcSpares e.par, 16 - srcSpares e.par)
  | 13 =>
    let n := b.get (PORT_DESC_SPARE_IN_USE 0) + b.get (PORT_DESC_SPARE_IN_USE 1)
    (n, 16 - n)
  | 14 => (boolBit (laneUp b 0 != laneUp b 1), boolBit (laneUp b 0 && laneUp b 1))
  | 16 => (b.keep.spares, 128 - b.keep.spares)
  | _ => (0, 0)

/-! ### The rack's timing check (R431, R436) -/

/-- Bytes of a transaction. -/
def rackBytes (par : RegMap) (n : Nat) : Nat :=
  let wr := par.get (RACK_ENTRY_WRITE n) = 1
  (match par.get (RACK_ENTRY_TYPE n) with
    | 0 => if wr then 3 else 4
    | 1 => if wr then 4 else 5
    | 2 => 3 + par.get (RACK_ENTRY_LEN n)
    | _ => 4 + par.get (RACK_ENTRY_LEN n)) + par.get (RACK_ENTRY_PEC n)

/-- A bus clock period, ns. -/
def rackBit_ns (par : RegMap) : Nat := match par.get RACK_CFG_SPEED with
  | 0 => 10000
  | 1 => 2500
  | _ => 1000

/-- The retry total of an entry, µs (R436). -/
def retryTotal (par : RegMap) (twin : Bool) (n : Nat) : Nat :=
  par.get RACK_ARB_CFG_RETRIES * ((9 * rackBytes par n + 3) * rackBit_ns par + 50000 + (if twin then 100000 else 50000)) / 1000

/-! ### Status kept in a block's own form -/

/-- The entries of a session's response cache that still live, one that a frame meets at its very end among them (R44, R114). -/
def liveCache (e : Env) (s : Sess) : List CacheE := s.cache.filter (fun c => decide (e.now ≤ c.until_))
def liveCount (e : Env) (b : Blk) (n : Nat) : Nat := (liveCache e (sessOf b n)).length

/-- The oldest and newest sequence and the number of records in the log. -/
def logHead (w : Watch) : Nat := (logView w).foldl (fun m p => max m p.2.seq) 0
def logTail (w : Watch) : Nat := ((logView w).foldl (fun (m : Option Nat) p => match m with
  | none => some p.2.seq
  | some x => some (min x p.2.seq)) none).getD 0

/-- Fields whose value a block holds elsewhere, by the word's address. -/
def typedFlds (e : Env) (b : Blk) (a : Nat) : List (Fld × Nat) := match a with
  | 0x40 => [(SYS_MODE, b.mode.code), (SYS_MODE_PREV, b.prev.code)]
  | 0x44 => [(SYS_STATE_ROLE, b.role.code), (SYS_STATE_PSTATE, b.get PWR_STA_PSTATE), (SYS_STATE_THERMAL, thermalState b),
      (SYS_STATE_SECURITY, b.keep.sec.code)]
  | 0x4C => [(SYS_RESERVE_USED_USED, setBit (setBit (b.get SYS_RESERVE_USED_USED) 2 (soSpares e.par != 0)) 6
      (srcSpares e.par != 0))]
  | 0x78 => [(SYS_GRA_OUTSTANDING_S0, (sessOf b 0).outs.length), (SYS_GRA_OUTSTANDING_S1, (sessOf b 1).outs.length),
      (SYS_GRA_OUTSTANDING_S2, (sessOf b 2).outs.length), (SYS_GRA_OUTSTANDING_S3, (sessOf b 3).outs.length)]
  | 0x7C => [(SYS_GRA_CACHE_USE01_LOW, liveCount e b 0), (SYS_GRA_CACHE_USE01_HIGH, liveCount e b 1)]
  | 0x80 => [(SYS_GRA_CACHE_USE23_LOW, liveCount e b 2), (SYS_GRA_CACHE_USE23_HIGH, liveCount e b 3)]
  | 0x3094 => [(TIME_TIN_STA_COUNT, b.tim.tin.length)]
  | 0x604C => [CHAIN_PORT_MAP_END_1A, CHAIN_PORT_MAP_END_1B, CHAIN_PORT_MAP_END_2A, CHAIN_PORT_MAP_END_2B].filterMap
      (fun f => if foreignEnd b f then some (f, 0) else none)
  | 0x6078 => [(CHAIN_OW_STA_SINCE, since e b.chain.owLast (sec 1) 255)]
  | 0x70C0 => [(LEDGER_JRN_STA_AGE, since e b.ledger.jrnDone (sec 1) 255)]
  | 0xA00C => [(SAFE_STA_TESTS_SUSPENDED, boolBit (pulseNear e b))]
  | 0xA060 => [(SAFE_SO_STATE_ON, soMap e b)]
  | 0xA080 => [(SAFE_PSF_SINGLE_ELAPSED, (b.psf.singleAt.map (fun t => since e t (sec 60) 0xFFFF)).getD 0)]
  | 0xB00C => [(FAULT_STA_ERR_ASSERTED, boolBit b.watch.errOn), (FAULT_STA_RELEASE_ARMED, boolBit b.watch.errArmed),
      (FAULT_STA_SEQ_RUNNING, boolBit b.watch.rrRun), (FAULT_STA_HIGHEST, highestLevel b),
      (FAULT_STA_FF_VALID, boolBit b.watch.ffValid), (FAULT_STA_TCTRL_RUNNING, boolBit b.seq.tctrl.isSome)]
  | 0xB080 => [(FAULT_RR_SRC_SOURCE, b.watch.rrSrc), (FAULT_RR_SRC_LEVEL, b.watch.rrLevel),
      (FAULT_RR_SRC_RUNNING, boolBit b.watch.rrRun), (FAULT_RR_SRC_MERGE_COUNT, b.watch.rrMerge)]
  | 0xB084 => [(FAULT_RR_SEQ_SEQ, b.watch.rrSeq)]
  | 0xC00C => [(LOG_STA_FULL, boolBit (slotsUsed b.watch == 131072)), (LOG_STA_CACHE_PENDING, boolBit !b.watch.cache.isEmpty)]
  | 0x1000C => [(KEEP_STA_IP_STATE, ipState b)]
  | 0x10048 => [(KEEP_BANK_VERSION 0, b.keep.bank0.version % 65536)]
  | 0x1004C => [(KEEP_BANK_VERSION 1, b.keep.bank1.version % 65536)]
  | 0x10050 => [(KEEP_RUN_VERSION, (runImage b).version)]
  | 0x10064 => [(KEEP_PARAM_STA_FORMAT, (runImage b).paramFormat), (KEEP_PARAM_STA_PENDING, boolBit ((b.pwr.running.toList ++ b.pwr.queued ++ b.pwr.waiting).any
      (fun j => match j with
        | .param _ _ => true
        | _ => false)))]
  | 0x10090 => [(KEEP_SVC_STA_REMAIN, remain e b.keep.svcBy (sec 60))]
  | 0x10100 => [(KEEP_NV_STA_LOW, (b.keep.scrubAt.map (fun t => since e t (sec 3600) 0xFFFF)).getD 0)]
  | _ =>
    if a = 0xD044 ∨ a = 0xD084 then
      let p := (a - 0xD044) / 0x40
      [(PORT_LINK_UP_TIME p, (((b.ports[p]?).bind PortS.upAt).map (fun t => since e t (sec 1) 0xFFFF)).getD 0)]
    else if 0xB800 ≤ a ∧ a < 0xC000 ∧ a % 8 = 0 then
      let n := (a - 0xB800) / 8
      if n = SRC_PSF_TIMEOUT then [(FAULT_REACT_MINOR n, wdLevel e), (FAULT_REACT_SEVERE n, wdLevel e)] else []
    else if 0xF104 ≤ a ∧ a < 0xF500 ∧ a % 32 = 4 then
      [(RACK_ENTRY_RETRY_TOTAL ((a - 0xF100) / 32), retryTotal e.par b.twin ((a - 0xF100) / 32))]
    else []

/-- A field's value as read: 0 where only written, the setting or the status otherwise; EVT_EN bits fixed at 1 read 1 (R98). -/
def fldRead (e : Env) (b : Blk) (ov : List (Fld × Nat)) (f : Fld) : Nat :=
  match ov.find? (fun p => p.1 == f) with
  | some p => p.2 % 2 ^ f.w
  | none => match f.acc with
    | .rw => e.get f
    | .rwl => if f.addr % 0x1000 = 0x14 then paramField e.par f / 2 ^ f.lo else e.get f
    | .wo => 0
    | _ => b.get f

/-- A word of fields. -/
def fldsWord (e : Env) (b : Blk) (a : Nat) : Nat :=
  ((wordFlds a).map (fun f => fldRead e b (typedFlds e b a) f * 2 ^ f.lo)).sum

/-! ### Wide values (R104) -/

/-- The wide value's word at an address of a page. -/
def wideWord (e : Env) (b : Blk) (a : Nat) : Option Nat := match a with
  | 0x3040 => some e.clk.ns0
  | 0x3044 => some (e.clk.tb0 % 2 ^ 24)
  | 0x3048 => some e.clk.wrap
  | 0x304C => some e.clk.ns1
  | 0x3050 => some (e.clk.tb1 % 2 ^ 24)
  | 0x3054 => some e.clk.ns2
  | 0x3058 => some (e.clk.tb2 % 2 ^ 24)
  | 0x4070 => some (half64 (b.hvs.qS / 1000) false)
  | 0x4074 => some (half64 (b.hvs.qS / 1000) true)
  | 0x4078 => some (half64 (b.hvs.qH / 1000) false)
  | 0x407C => some (half64 (b.hvs.qH / 1000) true)
  | 0x5058 => some b.trip.ns
  | 0x505C => some (tripWord b.trip)
  | 0x70A8 => some (half64 b.ledger.qc false)
  | 0x70AC => some (half64 b.ledger.qc true)
  | 0x8068 => some (half64 b.shuttle.total false)
  | 0x806C => some (half64 b.shuttle.total true)
  | 0x8070 => some (half64 b.shuttle.loss false)
  | 0x8074 => some (half64 b.shuttle.loss true)
  | _ => none

/-- The wide words of a page, ascending. -/
def wideAddrs (page : Nat) : List Nat := match page with
  | 3 => [0x3040, 0x3044, 0x3048, 0x304C, 0x3050, 0x3054, 0x3058]
  | 4 => [0x4070, 0x4074, 0x4078, 0x407C]
  | 5 => [0x5058, 0x505C]
  | 7 => [0x70A8, 0x70AC]
  | 8 => [0x8068, 0x806C, 0x8070, 0x8074]
  | _ => []

/-- The wide words of a cell's record (R105): charges and shuttle counts. -/
def cellWide (b : Blk) (n off : Nat) : Option Nat :=
  match b.ledger.cells[n]? with
  | none => none
  | some l => match off with
    | 0x20 => some (half64 (qOf b l) false)
    | 0x24 => some (half64 (qOf b l) true)
    | 0x28 => some (half64 l.q false)
    | 0x2C => some (half64 l.q true)
    | 0x40 => some (half64 l.inQ false)
    | 0x44 => some (half64 l.inQ true)
    | 0x48 => some (half64 l.outQ false)
    | 0x4C => some (half64 l.outQ true)
    | _ => none

/-- The words of all cells that a LEDGER snapshot latches. -/
def cellSnap (b : Blk) : RegMap :=
  (List.range 576).flatMap (fun n => [0x20, 0x24, 0x28, 0x2C, 0x40, 0x44, 0x48, 0x4C].filterMap (fun o =>
    match cellWide b n o with
    | some v => if v = 0 then none else some (0x100000 + 128 * n + o, v)
    | none => none))

/-- What a session's snapshots are after a SNAP of a page (R104, R105). -/
def snapMap (e : Env) (b : Blk) (page : Nat) (m : RegMap) : RegMap :=
  let own := (wideAddrs page).filterMap (fun a => match wideWord e b a with
    | some v => if v = 0 then none else some (a, v)
    | none => none)
  let cells := m.filter (fun p => decide (0x100000 ≤ p.1))
  m.filter (fun p => decide (p.1 < 0x1000 * page)) ++ own ++
    m.filter (fun p => decide (0x1000 * (page + 1) ≤ p.1) && decide (p.1 < 0x100000)) ++
    (if page = 7 then cellSnap b else cells)

/-- R104: a snapshot of a page by a session, of what stood at the start of the cycle; its count goes on. -/
def snapPage (who page : Nat) (e : Env) (b : Blk) : Blk :=
  { b with sess := modAt b.sess who (fun (s : Sess) => { s with
      snaps := snapMap { e with clk := e.start.1 } e.start.2 page s.snaps
      snapCnt := s.snapCnt.set page 0 ((s.snapCnt.find page 0 + 1) % 2 ^ 32) }) }

/-- A wide word as a reader sees it: the latched half, or at the inspection port the present one (R471). -/
def wideRead (b : Blk) (who a : Nat) (v : Nat) : Nat := if who < 4 then (sessOf b who).snaps.find a 0 else v

/-! ### Words of their own form -/

/-- A record's word; the word number is taken below 8. -/
def recWord (r : Option Rec) (n : Nat) : Nat := ((r.map Rec.words).bind (fun l => l[n]?)).getD 0

/-- SHUTTLE.SLOT_n. -/
def slotWord (b : Blk) (n : Nat) (second : Bool) : Nat :=
  match b.shuttle.xfers.find? (fun x => x.slots.contains n) with
  | none => 0
  | some x => if second then x.tid % 65536 + min 65535 (x.gave / 100) * 65536
    else x.donor % 1024 + x.rcv % 1024 * 2 ^ 16 + x.st * 2 ^ 26 + boolBit x.bus * 2 ^ 29

/-- FAULT.CNT_n (R341). -/
def cntWord (e : Env) (b : Blk) (src : Nat) : Nat :=
  let c := cntOf b.watch.cnt src
  min 65535 (windowCount c e.now (windowTicks e src)) + min 65535 c.total * 65536

/-- The header of a stored capture (R361). -/
def capHead (c : Cap) : List Byte :=
  leBytes 4 0x50414344 ++ leBytes 4 c.number ++ [BitVec.ofNat 8 c.buf.trig,
    BitVec.ofNat 8 (boolBit (c.buf.further != []) + 2 * boolBit c.afterWarm + 4 * boolBit c.incomplete
      + 8 * boolBit c.buf.overflow)] ++
  leBytes 2 c.buf.edges.length ++ leBytes 4 (c.buf.tb0 % 2 ^ 32) ++ leBytes 4 c.buf.lanes ++ leBytes 4 c.buf.wrap ++
  leBytes 4 (c.boot % 256) ++ leBytes 4 c.buf.seq ++ leBytes 8 c.buf.furtherN ++
  c.buf.further.flatMap (fun p => leBytes 2 (p.1 % 256) ++ leBytes 2 p.2)

/-- A byte of a stored capture: header, waveforms (no operand of any command), edges. -/
def capByte (c : Cap) (off : Nat) : Byte :=
  if off < 0x100 then ((capHead c)[off]?).getD 0#8
  else if off < 0x10AA0 then Config.captureByte c.number off
  else if off < 70304 then
    (((c.buf.edges[(off - 0x10AA0) / 8]?).map (fun p => leBytes 4 (rawBits 32 p.1) ++ leBytes 4 p.2)).bind
      (fun l => l[(off - 0x10AA0) % 8]?)).getD 0#8
  else 0#8

/-- LOG.CAP_VIEW (R362): the selected block; a slot that holds no capture reads what the spec does not say. -/
def capView (b : Blk) (s : Sess) (a : Nat) : Nat :=
  let off := 2048 * s.capBlock + (a - 0xC800)
  match b.watch.caps.find? (fun c => c.slot == s.capSlot && bitOf (b.get LOG_CAP_VALID) c.slot) with
  | some c => leVal ((List.range 4).map (fun i => capByte c (off + i)))
  | none => leVal ((List.range 4).map (fun i => Config.captureByte 0 (off + i)))

/-- TIME.LQx_TXTS (R383): word 0 TAG, 1 NS, 2 FRAC, 3 POP. -/
def txtsWord (q : PortQ) (n : Nat) : Nat :=
  match q.txts with
  | [] => 0
  | t :: _ => match n with
    | 0 => t.tag % 65536 + q.txts.length * 65536 + 2 ^ 31
    | 1 => t.ns % 2 ^ 32
    | 2 => t.frac % 2 ^ 24 + t.wrap8 % 256 * 2 ^ 24
    | _ => 0

/-- TIME.PTPRX_x (R375): word 0 STA, 1 NS, 2 FRAC, 3 POP. -/
def ptpWord (b : Blk) (p n : Nat) : Nat :=
  let q := portQ b p
  let h := q.ptp.head?
  match n with
  | 0 => q.ptp.length + ((h.map PtpE.len).getD 0 % 2048) * 32 + b.get (ptpDropFld p) * 2 ^ 24
  | 1 => (h.map PtpE.ns).getD 0 % 2 ^ 32
  | 2 => (h.map PtpE.frac).getD 0 % 2 ^ 24 + (h.map PtpE.wrap8).getD 0 % 256 * 2 ^ 24
  | _ => 0

def bytesWord (bs : List Byte) (n : Nat) : Nat := leVal ((bs.drop (4 * n)).take 4)

/-- TIME.MU_STA. -/
def muSta (e : Env) (b : Blk) : Nat :=
  ((List.range 8).map (fun n => muOwner e b n * 4 ^ n + boolBit (muArmed b n) * 2 ^ (16 + n))).sum

/-- LOG.LOOKUP_RES for a session (R357). -/
def lookupRes (b : Blk) (s : Sess) : Nat :=
  match (logView b.watch).find? (fun p => p.2.seq == s.lookup) with
  | some p => p.1 % 2 ^ 17 + 2 ^ 31
  | none => 0

/-- TRIP.THR_A to THR_C: the code beside its equivalent current in 10 A (R174). -/
def thrWord (e : Env) (b : Blk) (a : Nat) : Nat :=
  let w := fldsWord e b a
  w + min 65535 (eqCurrent e ((a - 0x5040) / 4) w / 10000) * 65536

/-- Words of a page that are neither fields nor header, by the reader. -/
def specialWord (e : Env) (b : Blk) (who a : Nat) : Option Nat :=
  match wideWord e b a with
  | some v => some (wideRead b who a v)
  | none =>
    let s := sessOf b who
    if 0x307C ≤ a ∧ a ≤ 0x3084 then some (effAddend e.par b ((a - 0x307C) / 4))
    else if 0x3098 ≤ a ∧ a ≤ 0x30A4 then
      some (match b.tim.tin with
        | [] => 0
        | t :: _ => match (a - 0x3098) / 4 with
          | 0 => t.1
          | 1 => t.2.1
          | 2 => t.2.2.1
          | _ => t.2.2.2)
    else if a = 0x30C4 then some (muSta e b)
    else if 0x5040 ≤ a ∧ a ≤ 0x5048 then some (thrWord e b a)
    else if 0x3120 ≤ a ∧ a ≤ 0x312C then some (txtsWord b.tim.qa ((a - 0x3120) / 4))
    else if 0x3160 ≤ a ∧ a ≤ 0x316C then some (txtsWord b.tim.qb ((a - 0x3160) / 4))
    else if 0x31C0 ≤ a ∧ a ≤ 0x31DC then some (ptpWord b ((a - 0x31C0) / 16) ((a - 0x31C0) % 16 / 4))
    else if 0x3300 ≤ a ∧ a < 0x3380 then some (bytesWord (((b.tim.qa.ptp.head?).map PtpE.bytes).getD []) ((a - 0x3300) / 4))
    else if 0x3380 ≤ a ∧ a < 0x3400 then some (bytesWord (((b.tim.qb.ptp.head?).map PtpE.bytes).getD []) ((a - 0x3380) / 4))
    else if 0x3400 ≤ a ∧ a < 0x3A00 then some (s.lqBuf0.find ((a - 0x3400) / 4) 0)
    else if 0x3A00 ≤ a ∧ a < 0x4000 then some (s.lqBuf1.find ((a - 0x3A00) / 4) 0)
    else if 0x8100 ≤ a ∧ a < 0x8600 then some (slotWord b ((a - 0x8100) / 8) (a % 8 == 4))
    else if 0xB060 ≤ a ∧ a < 0xB080 then some (recWord b.watch.ff ((a - 0xB060) / 4))
    else if 0xB090 ≤ a ∧ a < 0xB0B0 then some (setWord ((a - 0xB090) / 4 * 32) b.watch.rrMap)
    else if 0xB0B0 ≤ a ∧ a < 0xB0D0 then some (setWord ((a - 0xB0B0) / 4 * 32) (b.watch.act.map Act.src))
    else if 0xB400 ≤ a ∧ a < 0xB800 then some (cntWord e b ((a - 0xB400) / 4))
    else if a = 0xC040 then some (logHead b.watch)
    else if a = 0xC044 then some (logTail b.watch)
    else if a = 0xC048 then some b.watch.committed
    else if a = 0xC04C then some b.watch.dropped
    else if a = 0xC050 then some (slotsUsed b.watch)
    else if a = 0xC058 then some s.lookup
    else if a = 0xC05C then some (lookupRes b s)
    else if a = 0xC078 then some (s.capSlot + s.capBlock * 256)
    else if 0xC800 ≤ a ∧ a < 0xD000 then some (capView b s a)
    else if 0xF500 ≤ a ∧ a < 0xF900 then some (bytesWord ((b.rack.data[(a - 0xF500) / 32]?).getD []) ((a - 0xF500) % 32 / 4))
    else none

/-! ### Records of cells and CMUs (R232, R233) -/

/-- A number kept to 16 bits, two's complement. -/
def w16 (x : Int) : Nat := rawBits 16 x

/-- A cell's flags, bits 16 to 24 of word 0x08. -/
def cellFlags (b : Blk) (n : Nat) (c : CellRec) : Nat :=
  let st := ((servingCmu b n).map CmuRec.state).getD 0
  boolBit c.fresh * 2 ^ 16 + boolBit c.stale * 2 ^ 17 + boolBit (c.unsure || c.endWire) * 2 ^ 18 + boolBit (st == 3) * 2 ^ 19
    + boolBit (st == 4) * 2 ^ 20 + boolBit (c.ovN != 0) * 2 ^ 21 + boolBit (c.uvN != 0) * 2 ^ 22 + boolBit c.via * 2 ^ 23
    + boolBit c.burst * 2 ^ 24

/-- A word of a cell's record. -/
def cellWord (e : Env) (b : Blk) (who n off : Nat) : Nat :=
  match cellWide b n off with
  | some v => wideRead b who (0x100000 + 128 * n + off) v
  | none => match b.chain.cells[n]?, b.ledger.cells[n]? with
    | some c, some l => match off with
      | 0x00 => c.v % 65536 + c.sweep % 256 * 65536
      | 0x04 => c.t % 2 ^ 32
      | 0x08 => (if c.has then since e c.at_ (us 100) 0xFFFF else 0xFFFF) + cellFlags b n c
      | 0x0C => w16 c.temp
      | 0x10 => w16 c.stepLo + w16 c.stepHi * 65536
      | 0x14 => c.vmin % 65536 + c.vmax % 65536 * 65536
      | 0x30 => l.cap % 2 ^ 32
      | 0x34 => if l.socUnk then 0xFFFFFFFF else (max 0 (min 10000 (socOf b l))).toNat + boundPct l * 65536
      | 0x38 => l.z % 2 ^ 32
      | 0x3C => w16 l.phase + ((l.zAt.map (fun t => since e t (sec 1) 0xFFFF)).getD 0xFFFF) * 65536
      | 0x50 => l.anchor % 4 + boolBit l.capUnk * 4 + boolBit l.pend * 8 + boolBit l.lost * 16 + boolBit l.socUnk * 32
          + boolBit l.cyc.isSome * 64 + b.get LEDGER_STA_SRC_HALL % 2 * 128
          + ((l.anchorAt.map (fun t => since e t (sec 3600) 0xFFFF)).getD 0xFFFF) * 65536
      | _ => 0
    | _, _ => 0

/-- A word of a position's record. -/
def cmuWord (b : Blk) (k off : Nat) : Nat :=
  match b.chain.cmus[k]? with
  | none => 0
  | some m => match off with
    | 0x00 => k + m.index.getD 0xFF * 256 + m.serves.getD 0x3F * 2 ^ 16 + m.state * 2 ^ 24
    | 0x04 => m.serial % 2 ^ 32
    | 0x08 => m.serial / 2 ^ 32 % 2 ^ 32
    | 0x0C => (m.conf.getD 0) % 2 ^ 32
    | 0x10 => (m.conf.getD 0) / 2 ^ 32 % 2 ^ 32
    | 0x14 => m.hopA % 65536 + m.hopB % 65536 * 65536
    | 0x18 => rawBits 8 m.errNow + min 255 m.errMax * 256 + m.home % 4 * 65536
    | 0x1C => m.vsup % 65536 + w16 m.sumDiff * 65536
    | 0x20 => m.isup % 65536
    | 0x34 => m.crcA + m.crcB * 256 + m.retries * 65536 + m.missed * 2 ^ 24
    | 0x38 => m.tones + m.toneFlags % 8 * 256
    | 0x3C => m.wires % 2 ^ 17
    | 0x40 => m.auth % 4 + min 255 m.tries * 256 + w16 m.die * 65536
    | _ => if 0x24 ≤ off ∧ off ≤ 0x30 then
        let t := fun i => w16 ((m.ntc[i]?).getD 0)
        t ((off - 0x24) / 2) + t ((off - 0x24) / 2 + 1) * 65536
      else 0

/-! ### Any word -/

/-- The disable bit of a page, 1 where the page has none. -/
def pageEn (e : Env) (page : Nat) : Nat := match page with
  | 8 => e.get SHUTTLE_CTL_EN
  | 15 => e.get RACK_CTL_EN
  | _ => 1

/-- The flags of a page's EVT register (R99). -/
def evtWord (b : Blk) (base : Nat) : Nat :=
  b.watch.evt.foldl (fun w n => if (evtPage n).1 = base then setBit w (n - (evtPage n).2) true else w) 0

/-- The word at an address of a page. -/
def pageWord (e : Env) (b : Blk) (who a : Nat) : Nat :=
  let base := a / 0x1000 * 0x1000
  let page := a / 0x1000
  match a % 0x1000 with
  | 0x000 => page + 0x47530000
  | 0x004 => 0x0100
  | 0x008 => (fldsWord e b a / 2 * 2) + pageEn e page
  | 0x010 => evtWord b base
  | 0x018 => boolBit (b.unlocked.contains page) * 2 ^ 16
  | 0x01C => (spareUse e b page).1 + (spareUse e b page).2 * 256
  | _ =>
    if page = 14 ∧ ¬ b.twin ∧ (a % 0x1000 = 0x00C ∨ 0x40 ≤ a % 0x1000) then 0
    else (specialWord e b who a).getD (fldsWord e b a)

/-- The word that a reader reads at an aligned, decoded address (R95, R96). -/
def readWord (e : Env) (b : Blk) (who a : Nat) : Nat := (match areaOf a with
  | .page _ => pageWord e b who a
  | .cell n off => cellWord e b who n off
  | .cmu k off => cmuWord b k off
  | .log slot w => recWord (((logView b.watch).find? (fun p => p.1 == slot)).map Prod.snd) w
  | .staging _ => 0
  | .none => 0) % 2 ^ 32

end Sys2Proof.Machine
end

