-- ==== Sys2Proof/Machine/Write.lean ====
section
/-! DEFINITION. What a register write does (R14 to R16, R98 to R103, R117, R118): the judgement of each word, settings and the rules
between them, and the registers whose write is an action. -/

namespace Sys2Proof.Machine

/-- One word of a WRITE or RMW: its address, the bits it writes, and their values. -/
structure WWord where
  addr : Nat
  mask : Nat
  value : Nat
deriving DecidableEq, Repr

/-- The bits of a field that a word covers. -/
def WWord.bits (w : WWord) (f : Fld) : Nat := w.mask / 2 ^ f.lo % 2 ^ f.w

def WWord.covers (w : WWord) (f : Fld) : Bool := f.addr == w.addr && w.bits f != 0

/-- (old AND NOT mask) OR (value AND mask), bit by bit (R108). -/
def mergeBits (w old mask value : Nat) : Nat := (((old ^^^ (old &&& mask)) ||| (value &&& mask)) % 2 ^ w)

/-- The value a field takes from a word. -/
def WWord.merged (w : WWord) (f : Fld) (old : Nat) : Nat := mergeBits f.w old (w.bits f) (w.value / 2 ^ f.lo % 2 ^ f.w)

/-- The bits a word sets in a field. -/
def WWord.ones (w : WWord) (f : Fld) : Nat := w.bits f &&& (w.value / 2 ^ f.lo % 2 ^ f.w)

/-- Bit `n` of a word is written as 1. -/
def WWord.sets (w : WWord) (n : Nat) : Bool := bitOf w.mask n && bitOf w.value n

/-- The word's written bits, the others 0. -/
def WWord.val (w : WWord) : Nat := w.value &&& w.mask

/-! ### Modes and locks -/

/-- An RWL field. -/
def Fld.locked (f : Fld) : Bool := f.acc == .rwl || f.acc == .lw1s

/-- The EVT_EN bit fixed at 1 (R98). -/
def evtEnFixed (f : Fld) : Bool :=
  f.addr % 0x1000 == 0x14 && ((List.range 256).any (fun n => (EVT_EN_BIT n).key == f.key && (srcRow n).enFixed))

/-- The modes in which a page's RWL fields are writable, with the exceptions of single registers (R98, R192, R363 and the page
headers). -/
def modeMay (m : Mode) (a : Nat) : Bool :=
  let cm := m == .commissioning || m == .maintenance
  if a % 0x1000 = 0x14 ∨ a = 0x604C ∨ 0xB800 ≤ a ∧ a < 0xC000 then cm
  else if a = 0xA040 ∨ a = 0xA054 ∨ a = 0xA070 ∨ a = 0xA074 then m == .commissioning
  else cm || m == .isolated || (a / 0x1000 == 3 && m == .tripped)

/-- The registers a STANDBY lets the host write (R117). -/
def standbyMay (a : Nat) : Bool :=
  a / 0x1000 == 16 || (decide (a < 0x11000) && (a % 0x1000 == 0x10 || a % 0x1000 == 0x18)) ||
  [0xB040, 0xB050, 0xC058, 0xC078, 0xC074, 0xC060, 0xC064, 0xC068, 0x3090, 0x3094, 0x30A8, 0x31CC, 0x31DC].contains a

/-! ### Rules between settings -/

def rising : List Int → Bool
  | x :: y :: l => decide (x < y) && rising (y :: l)
  | _ => true

def notFalling : List Int → Bool
  | x :: y :: l => decide (x ≤ y) && notFalling (y :: l)
  | _ => true

/-- R166: the lanes' equivalent currents against the backstops and against each other. -/
def lanesRule (e : Env) : Bool :=
  let i := fun k c => eqCurrent e k c
  let a := i 0 (e.get TRIP_THR_A)
  let b := i 1 (e.get TRIP_THR_B)
  let c := i 2 (e.get TRIP_THR_C)
  let lim := max (e.get HVS_LIM_OC_DSG) (e.get HVS_LIM_OC_CHG) * 1100
  let near := fun (x : Nat) => decide (10 * (iabs ((x : Int) - a)) ≤ a)
  [a, b, c].all (fun x => decide (lim ≤ x)) && near b && near c && decide (100000 ≤ (e.int HVS_HALL_SCALE_SCALE).natAbs) &&
    decide ((e.int HVS_HALL_SCALE_SCALE).natAbs ≤ 2000000)

/-- R192: the map of ring end ports: no port twice, and in SOLO a port for every end of a used ring. -/
def mapRule (e : Env) (b : Blk) : Bool :=
  let m := ringMap e b
  let used := m.filter (fun p => p != 0)
  let ends := if e.get CHAIN_CMU_COUNT_COUNT ≤ 18 then m.take 2 else m
  used.eraseDups.length == used.length && (b.twin || ends.all (fun p => p != 0))

/-- A group of THERM (R285). -/
def thermRule (w t s : Int) (hw ht : Nat) : Bool :=
  decide (w < t) && decide (t < s) && decide (hw < 100) && decide ((ht : Int) < t - w)

/-- THERM.COIL_R20: none, or 1 to 100 ohms in 10 mΩ. -/
def coilR20Rule (r : Nat) : Bool := r == 0 || (decide (100 ≤ r) && decide (r ≤ 10000))

/-- R342: an entry of the reaction table that can be changed. -/
def reactRule (e : Env) (n : Nat) : Bool :=
  let lo := e.get (FAULT_REACT_MINOR n)
  let hi := e.get (FAULT_REACT_SEVERE n)
  let w := e.get (FAULT_REACT_W n)
  let u := e.get (FAULT_REACT_UNIT n)
  decide (lo ≤ hi) && decide ((srcRow n).floor ≤ lo) &&
    (decide (hi < 5) || n == 0x92 || n == 0x95 || n == 0x98) &&
    (if u = 0 then w == 0 && e.get (FAULT_REACT_N n) == 1 else decide (1 ≤ w) && (decide (u < 5) || decide (w ≤ 90)))

/-- R431, R433, R436: a poll entry. -/
def entryRule (e : Env) (b : Blk) (n : Nat) : Bool :=
  let len := match e.get (RACK_ENTRY_TYPE n) with
    | 0 => 1
    | 1 => 2
    | _ => e.get (RACK_ENTRY_LEN n)
  let wr := e.get (RACK_ENTRY_WRITE n) == 1
  (!wr || decide (e.get (RACK_ENTRY_TYPE n) < 2)) &&
  decide (e.get (RACK_ENTRY_OFFSET n) + 1 + e.get (RACK_ENTRY_WIDE n) ≤ len) &&
  (e.get (RACK_ENTRY_EN n) == 0 || decide (4 * retryTotal e.par b.twin n ≤ 10000 * e.get (RACK_ENTRY_PERIOD n)))

/-- R385: match units: two for each port at least, none or two for each generator. -/
def unitsRule (e : Env) : Bool :=
  let n := fun o => ((List.range 8).filter (fun k => e.get (TIME_MU_OWN k) == o)).length
  decide (2 ≤ n 0) && decide (2 ≤ n 1) && (n 2 == 0 || n 2 == 2) && (n 3 == 0 || n 3 == 2)

/-- The rules between settings that bear on a word: true where the settings of `e` keep them. -/
def ruleOk (e : Env) (b : Blk) (a : Nat) : Bool :=
  if a = 0x4098 ∨ a = 0x5040 ∨ a = 0x5044 ∨ a = 0x5048 ∨ a = 0x4080 ∨ a = 0x4088 then lanesRule e
  else if a = 0x40B0 then decide (e.get HVS_IMD_THR_FAULT < e.get HVS_IMD_THR_WARN)
  else if a = 0x604C then mapRule e b
  else if a = 0x6068 ∨ a = 0x6070 ∨ a = 0x7074 then
    decide (e.get CHAIN_CELL_LIM_OV < e.get CHAIN_TONE_LIM_OV) && decide (e.get CHAIN_TONE_LIM_UV < e.get CHAIN_CELL_LIM_UV) &&
    decide (e.get LEDGER_LIM_V_CHG_V ≤ e.get CHAIN_CELL_LIM_OV) && decide (e.get CHAIN_CELL_LIM_UV ≤ e.get LEDGER_LIM_V_DSG_V)
  else if a = 0x7044 then decide (e.get LEDGER_ANCHOR_V_EMPTY + 1000 ≤ e.get LEDGER_ANCHOR_V_FULL)
  else if 0x7200 ≤ a ∧ a < 0x7210 then rising ((List.range 8).map (tBp e))
  else if 0x7210 ≤ a ∧ a < 0x7220 then rising ((List.range 8).map (socBp e))
  else if a = 0x706C then e.get LEDGER_RIPPLE_F == 0 || (decide (500 ≤ e.get LEDGER_RIPPLE_F) && decide (e.get LEDGER_RIPPLE_F ≤ 50000))
  else if a = 0x9068 then decide (e.int THERM_COOL_COOL_ON < e.int THERM_CELL_THR_WARN)
  else if a = 0x90D8 then coilR20Rule (e.get THERM_COIL_R20_KP) && coilR20Rule (e.get THERM_COIL_R20_KN)
  else if a = 0x90DC then coilR20Rule (e.get THERM_COIL_R20_KC)
  else if 0x9040 ≤ a ∧ a < 0x904C then
    decide (e.int THERM_COOL_COOL_ON < e.int THERM_CELL_THR_WARN) &&
    thermRule (e.int THERM_CELL_THR_WARN) (e.int THERM_CELL_THR_THROTTLE) (e.int THERM_CELL_THR2_SHUTDOWN)
      (e.get THERM_CELL_HYS_WARN_HYS) (e.get THERM_CELL_HYS_THR_HYS)
  else if 0x904C ≤ a ∧ a < 0x9058 then
    thermRule (e.int THERM_BUS_THR_WARN) (e.int THERM_BUS_THR_THROTTLE) (e.int THERM_BUS_THR2_SHUTDOWN)
      (e.get THERM_BUS_HYS_WARN_HYS) (e.get THERM_BUS_HYS_THR_HYS)
  else if 0x9058 ≤ a ∧ a < 0x9064 then
    thermRule (e.int THERM_MOD_THR_WARN) (e.int THERM_MOD_THR_THROTTLE) (e.int THERM_MOD_THR2_SHUTDOWN)
      (e.get THERM_MOD_HYS_WARN_HYS) (e.get THERM_MOD_HYS_THR_HYS)
  else if 0x9080 ≤ a ∧ a < 0x90A8 then notFalling ((List.range 10).map (fun n => (e.get (THERM_PAUSE_CELL n) : Int)))
  else if 0x90A8 ≤ a ∧ a < 0x90D0 then notFalling ((List.range 10).map (fun n => (e.get (THERM_PAUSE_MOD n) : Int)))
  else if a = 0xA04C then decide (e.get SAFE_TPS_CFG_WIDTH + e.get SAFE_TPS_CFG_RECOVERY ≤ 120)
  else if a = 0xA040 then decide (((List.range 6).filter (fun n => siFunc e n == 4)).length ≤ 1)
  else if a = 0xA070 ∨ a = 0xA074 then e.get SAFE_PSF_CID_STA == 0 || e.get SAFE_PSF_CID_STA != e.get SAFE_PSF_CID_CMD
  else if a = 0xA07C then decide (e.get SAFE_PSF_TIME_SKEW ≤ 250 * e.get SAFE_PSF_TIME_T_SF)
  else if 0xB800 ≤ a ∧ a < 0xC000 then
    (srcRow ((a - 0xB800) / 8)).fixed || (srcRow ((a - 0xB800) / 8)).kind == .unused || reactRule e ((a - 0xB800) / 8)
  else if a = 0x30C0 then unitsRule e
  else if 0x30D0 ≤ a ∧ a < 0x30F0 then
    let g := (a - 0x30D0) / 16
    e.get (TIME_TP_PERIOD g) == 0 || decide (e.get (TIME_TP_WIDTH g) + 10 ≤ e.get (TIME_TP_PERIOD g))
  else if a = 0xD040 ∨ a = 0xD080 then
    let p := (a - 0xD040) / 0x40
    e.get (PORT_CFG_ADV_2G5 p) + e.get (PORT_CFG_ADV_1G p) != 0
  else if 0xF100 ≤ a ∧ a < 0xF500 then entryRule e b ((a - 0xF100) / 32)
  else if a = 0xF040 ∨ a = 0xF044 then (List.range 32).all (entryRule e b)
  else true

/-- A word of the reaction table that cannot be changed (R342). -/
def reactFixed (a : Nat) : Bool :=
  decide (0xB800 ≤ a) && decide (a < 0xC000) &&
    ((srcRow ((a - 0xB800) / 8)).fixed || (srcRow ((a - 0xB800) / 8)).kind == .unused)

/-- R385: a unit changes owner while its generator runs. -/
def unitsBusy (e e' : Env) (b : Blk) : Bool :=
  (List.range 8).any (fun k => let o := e.get (TIME_MU_OWN k)
    let n := e'.get (TIME_MU_OWN k)
    o != n && ((o == 2 || n == 2) && b.tim.tp0.go || (o == 3 || n == 3) && b.tim.tp1.go))

/-! ### Settings -/

/-- A field's present value as a write sees it. -/
def fldNow (e : Env) (b : Blk) (f : Fld) : Nat := fldRead e b (typedFlds e b f.addr) f

/-- A setting. -/
def settable (f : Fld) : Bool := f.acc == .rw || f.acc == .rwl

/-- The settings after a word. -/
def parWord (e : Env) (b : Blk) (par : RegMap) (w : WWord) : RegMap :=
  (wordFlds w.addr).foldl (fun (m : RegMap) f =>
    if settable f ∧ w.covers f ∧ ¬ evtEnFixed f ∧ ¬ foreignEnd b f ∧ ¬ reactFixed w.addr
    then m.put f (w.merged f (fldNow e b f)) else m) par

/-- Only words of register pages hold settings. -/
def inPage (a : Nat) : Bool := decide (a < 0x11000)

def parWords (e : Env) (b : Blk) (ws : List WWord) : RegMap :=
  (ws.filter (fun w => inPage w.addr)).foldl (parWord e b) e.par

/-- R103: the bits of a status field that the module has changed in this CORE cycle. -/
def cycleBits (e : Env) (b : Blk) (f : Fld) : Nat := b.get f ^^^ e.start.2.get f

/-- The status fields that a host's word changes at once: RW fields an engine changes too, W1C flags, the schedule's valid bits, and
the data words of HOST_RAISE and SEAL. A field, or a flag, that the module has changed in this cycle stays so (R103). -/
def staWord (e : Env) (b : Blk) (w : WWord) : Blk :=
  (wordFlds w.addr).foldl (fun (x : Blk) f =>
    let free := (2 ^ f.w - 1) ^^^ cycleBits e b f
    if ¬ w.covers f then x else match f.acc with
    | .rwe => if free = 2 ^ f.w - 1 then x.put f (w.merged f (fldNow e b f)) else x
    | .w1c => x.put f (x.get f ^^^ (x.get f &&& w.ones f &&& free))
    | .w1s => if f.addr = 0x6060 then x.put f (x.get f ||| (w.ones f &&& free)) else x
    | .wo => if f.addr = 0xB0E4 ∨ f.addr = 0x10098 then x.put f (w.merged f 0) else x
    | _ => x) b

/-- A word's ranges and the rules between settings (R16, R40); `e'` holds the settings after the whole operation. -/
def wordConflict (e e' : Env) (b : Blk) (w : WWord) : Bool :=
  (wordFlds w.addr).any (fun f => w.covers f &&
    ((settable f || f.acc == .rwe) && w.merged f (fldNow e b f) != fldNow e b f && !(f.inRange (w.merged f (fldNow e b f))) ||
     foreignEnd b f && w.merged f 0 != 0 ||
     reactFixed w.addr && f.locked && w.merged f (fldNow e b f) != fldNow e b f)) ||
  ((wordFlds w.addr).any (fun f => settable f && w.covers f) && !(ruleOk e' b w.addr)) ||
  (w.addr == 0x30C0 && unitsBusy e e' b)

/-! ### Registers whose write is an action -/

/-- SAFE.SEQ_CMD. -/
def seqCmd (cmd arg : Nat) (e : Env) (b : Blk) : Blk := match cmd with
  | 1 => connectDo e b
  | 2 => disconnectDo e b
  | 3 => enterMaintDo e b
  | 4 => exitMaintDo e b
  | 5 => commissionDo e b
  | 6 => weldTestDo e b
  | 7 => coilTestDo arg e b
  | 8 => ackInspectDo arg e b
  | _ => seqHost (finish .conflict) b

/-- KEEP.CMD, by a session or the inspection port. -/
def keepDo (who v : Nat) (e : Env) (b : Blk) : Blk := match v % 16 with
  | 1 => streamBegin e b
  | 2 => streamAbort e b
  | 3 => activate (bitOf v 16) (bitOf v 17) (bitOf v 18) e b
  | 4 => paramAdopt e b
  | 5 => sealCmd e b
  | 6 => svcRequest who e b
  | 7 => svcEnd who e b
  | 8 => keyWrite who e b
  | 9 => keyErase who e b
  | 10 => raiseMinVersion e b
  | _ => localCmd (finish .conflict) b

/-- A page's lock (R97, R100); a change of mode in this cycle locks it whatever the key (R103). -/
def pageLock (e : Env) (page key : Nat) (b : Blk) : Blk :=
  finish .ok { b with unlocked := if key = 0x4C4B ∧ e.start.2.mode = b.mode then insSet b.unlocked page else b.unlocked.filter (fun p => p != page) }

/-- A page's event flags cleared by a word of ones (R97, R99); one that was set in this cycle stays (R103). -/
def evtClear (base ones : Nat) (e : Env) (b : Blk) : Blk :=
  finish .ok { b with watch := { b.watch with
    evt := b.watch.evt.filter (fun n =>
      !((evtPage n).1 == base && bitOf ones (n - (evtPage n).2)) || (evtOfCycle e b.watch).contains n) } }

def modSess (who : Nat) (f : Sess → Sess) (b : Blk) : Blk := { b with sess := modAt b.sess who f }

/-- R386: GO and STOP of a generator; written together they leave it stopped. A generator takes exactly two units (R385). -/
def tpCtl (g : Nat) (go stop : Bool) (e : Env) (b : Blk) : Blk := hostCmd (fun b =>
  if go ∧ tpUnits e b g ≠ 2 then finish .conflict b
  else
    let b1 := if go then tpGo g e b else b
    finish .ok (if stop ∧ (tpOf b1 g).go then (tpStop g b1).emit (.tpEdge g false) else b1)) b

/-- R411: TB0's addend or step of the partner. -/
def partnerAddend (v : Nat) (e : Env) (b : Blk) : Blk := hostCmd (fun b =>
  if ¬ b.twin then finish .denied b else if ¬ TWIN_PARTNER_TB0_ADDEND.inRange v then finish .conflict b
  else finish .ok (regFields [] (some v) none e b)) b
def partnerStep (v : Nat) (e : Env) (b : Blk) : Blk := hostCmd (fun b =>
  if ¬ b.twin then finish .denied b
  else finish .ok (regFields [] none (some (if v < 2 ^ 31 then (v : Int) else (v : Int) - 2 ^ 32)) e b)) b

/-- TWIN.CMD. -/
def twinCmd (v : Nat) (e : Env) (b : Blk) : Blk :=
  if v % 4 = 1 then handover e b else hostCmd (finish (if b.twin then .conflict else .denied)) b

/-- The bytes of a KEEP key buffer, word by word. -/
def keyBufPut (n v : Nat) (s : Sess) : Sess :=
  { s with keyBuf := setAt (s.keyBuf ++ List.replicate (16 - s.keyBuf.length) 0) n v }

/-- The engine's part of a word's write, where its register has one and some bit of it is written (R101). -/
def actionWord (who : Nat) (w : WWord) : Option (Env → Blk → Blk) :=
  let a := w.addr
  let v := w.val
  let hit := fun (n k : Nat) => w.mask / 2 ^ n % 2 ^ k != 0
  if ¬ inPage a ∨ w.mask = 0 then none
  else if a % 0x1000 = 0x08 then
    if w.sets 1 ∨ (a = 0xA008 ∧ w.sets 16) then some (fun e b =>
      let b1 := if w.sets 1 then finish .ok (snapPage who (a / 0x1000) e b) else b
      if a = 0xA008 ∧ w.sets 16 then soTestNow e b1 else b1) else none
  else if a % 0x1000 = 0x10 then some (fun e b => localCmd (evtClear (a - 0x10) v e) b)
  else if a % 0x1000 = 0x18 then if hit 0 16 then some (fun e b => localCmd (pageLock e (a / 0x1000) (v % 65536)) b) else none
  else if a = 0x1048 then if w.sets 16 then some capRemeasure else none
  else if a = 0x506C then if w.sets 0 then some captureManual else none
  else if a = 0x6094 then if w.sets 0 then some enumerate else none
  else if a = 0x609C then if w.sets 31 then some (fun e b => retirePos (e.get CHAIN_RETIRE_POSITION) e b) else none
  else if a = 0x60A4 then some (confirmSerial (v % 64) (v / 65536))
  else if a = 0xA200 then if hit 0 4 then some (seqCmd (v % 16) (v / 65536 % 8)) else none
  else if a = 0xA0B4 then some (pcvConfirm v)
  else if a = 0xB040 then if w.sets 0 then some errRelease else none
  else if a = 0xB050 then some (ffAck v)
  else if a = 0xB0E0 then if hit 0 8 then some (fun e b => hostRaise (v % 256) (v / 65536) (b.get FAULT_HOST_DATA) e b) else none
  else if a = 0xC058 then some (fun e b => logLookup who (mergeBits 32 (sessOf b who).lookup w.mask w.value) e b)
  else if a = 0xC068 then some (anchorTb0 v)
  else if a = 0xC078 then some (fun _ b => localCmd (fun b =>
    let s := sessOf b who
    let n := mergeBits 32 (s.capSlot + s.capBlock * 256) w.mask w.value
    if 11 < n % 16 ∨ 34 < n / 256 % 64 then finish .conflict b
    else finish .ok (modSess who (fun (s : Sess) => { s with capSlot := n % 16, capBlock := n / 256 % 64 }) b)) b)
  else if a = 0x30A8 then if w.sets 0 then some tinPop else none
  else if a = 0x30D0 ∨ a = 0x30E0 then if w.sets 0 ∨ w.sets 1 then some (tpCtl ((a - 0x30D0) / 16) (w.sets 0) (w.sets 1)) else none
  else if a = 0x3104 ∨ a = 0x3144 then some (lqPushDo who ((a - 0x3104) / 64) v)
  else if a = 0x3108 ∨ a = 0x3148 then if hit 0 16 then some (lqCancel ((a - 0x3108) / 64) (v % 65536)) else none
  else if a = 0x312C ∨ a = 0x316C then if w.sets 0 then some (txtsPop ((a - 0x312C) / 64)) else none
  else if a = 0x31CC ∨ a = 0x31DC then if w.sets 0 then some (ptpPop ((a - 0x31CC) / 16)) else none
  else if 0x3400 ≤ a ∧ a < 0x3A00 then some (fun _ b => hostCmd (fun b => finish .ok (modSess who (fun (s : Sess) => { s with
      lqBuf0 := s.lqBuf0.set ((a - 0x3400) / 4) 0 (mergeBits 32 (s.lqBuf0.find ((a - 0x3400) / 4) 0) w.mask w.value) }) b)) b)
  else if 0x3A00 ≤ a ∧ a < 0x4000 then some (fun _ b => hostCmd (fun b => finish .ok (modSess who (fun (s : Sess) => { s with
      lqBuf1 := s.lqBuf1.set ((a - 0x3A00) / 4) 0 (mergeBits 32 (s.lqBuf1.find ((a - 0x3A00) / 4) 0) w.mask w.value) }) b)) b)
  else if a = 0xD040 ∨ a = 0xD080 then if w.sets 3 then some (portRestart ((a - 0xD040) / 0x40)) else none
  else if a = 0xE040 then if hit 0 2 then some (twinCmd v) else none
  else if a = 0xE070 then some (fun e b => partnerAddend (e.get TWIN_PARTNER_TB0_ADDEND) e b)
  else if a = 0xE074 then some (partnerStep v)
  else if a = 0x10040 then if hit 0 4 then some (keepDo who v) else none
  else if 0x10080 ≤ a ∧ a < 0x10090 then some (svcRespWord who ((a - 0x10080) / 4) v)
  else if 0x100C0 ≤ a ∧ a < 0x10100 then some (fun _ b => localCmd (fun b =>
    finish .ok (modSess who (keyBufPut ((a - 0x100C0) / 4) v) b)) b)
  else none

/-! ### The judgement of a word (R101) -/

/-- A CELL record's word. CAP is written while its capacity is unknown (R96, R232). -/
def judgeCell (no : Bool) (b : Blk) (n off mask : Nat) : Status :=
  if off ≠ 0x30 ∨ mask = 0 then (if no then .denied else .ok)
  else if ¬ b.unlocked.contains 7 then .locked
  else if no ∨ ¬ chainWritable b ∨ ((b.ledger.cells[n]?).map LCell.capUnk).getD false = false then .denied
  else .ok

/-- CONNECTING was entered in this CORE cycle. -/
def connectsNow (e : Env) (b : Blk) : Bool := b.mode == .connecting && e.start.2.mode != .connecting

/-- What keeps a page's word from its engine (R101): lock, role, epoch, mode, range and the rules between settings; `no` tells that role
or epoch refuses the request's writes. Of MU_OWN and TPx_CTL a write in the cycle of entry to CONNECTING is judged against that mode, not
against the lock that came with it (R388). -/
def pageBar (no : Bool) (e e' : Env) (b : Blk) (w : WWord) : Option Status :=
  let fs := (wordFlds w.addr).filter (fun f => w.covers f && f.locked)
  if connectsNow e b ∧ (w.addr = 0x30C0 ∨ w.addr = 0x30D0 ∨ w.addr = 0x30E0) ∧ w.mask ≠ 0 ∧ e.start.2.unlocked.contains 3 then some .denied
  else if !fs.isEmpty ∧ ¬ b.unlocked.contains (w.addr / 0x1000) then some .locked
  else if no then some .denied
  else if w.addr / 0x1000 = 14 ∧ ¬ b.twin ∧ (w.addr % 0x1000 = 0x0C ∨ 0x40 ≤ w.addr % 0x1000) then some .denied
  else if !fs.isEmpty ∧ ¬ modeMay b.mode w.addr then some .denied
  else if wordConflict e e' b w then some .conflict
  else none

/-- A page's word; `b'` holds the status fields that the operation changes. -/
def judgePage (who : Nat) (no : Bool) (e e' : Env) (b b' : Blk) (w : WWord) : Status :=
  (pageBar no e e' b w).getD (match actionWord who w with
    | some f => (f e' b').lastStatus
    | none => .ok)

/-- Role and epoch (R117, R118). The inspection port writes as a SOLO session (R471). -/
def writeBarred (who epoch a : Nat) (b : Blk) : Bool :=
  who < 4 && (b.role == .standby && !(standbyMay a) || epoch != 0 && epochHigher (b.get SYS_STATE_EPOCH) epoch)

/-- The outcome of one word; `e'` and `b'` hold the settings and the status fields after the whole operation. -/
def judgeWord (who epoch : Nat) (e e' : Env) (b b' : Blk) (w : WWord) : Status :=
  let b0 := finish .ok b
  let no := writeBarred who epoch w.addr b
  match areaOf w.addr with
  | .page _ => judgePage who no e e' b0 (finish .ok b') w
  | .cell n off => judgeCell no b0 n off w.mask
  | .cmu _ _ => if no then .denied else .ok
  | .log _ _ => .denied
  | .staging _ => .denied
  | .none => .badaddr

/-! ### Taking effect (R102) -/

/-- Which of the fields differ between two setting maps. -/
def changed (p q : RegMap) (fs : List Fld) : Bool := fs.any (fun f => p.get f != q.get f)

/-- What the host has written in this cycle is no change of the module's: it joins what stood at the cycle's start. -/
def hostWrote (e : Env) (old b : Blk) (ws : List WWord) (was : Blk) : Blk :=
  ws.foldl (fun (x : Blk) w => (wordFlds w.addr).foldl (fun (x : Blk) f =>
    if w.covers f ∧ (f.acc = .rwe ∨ f.acc = .w1c ∨ f.acc = .w1s) then
      x.put f (mergeBits f.w (b.get f) (cycleBits e old f) (x.get f)) else x) x) was

/-- CELL.CAP (R259): C_i; the capacity stays unknown. A capacity that the engine has set in this cycle stays (R103). -/
def cellCap (n mask v : Nat) (e : Env) (b : Blk) : Blk :=
  if (b.ledger.cells[n]?).map LCell.cap ≠ (e.start.2.ledger.cells[n]?).map LCell.cap then b else
  nvRequest (.journal false) (modLed (fun l => { l with
    cells := modAt l.cells n (fun (c : LCell) => { c with cap := mergeBits 32 c.cap mask v }) }) b)

/-- R43: the SO outputs and spare sources that settings bring in, against those of `p` before, are recorded. -/
def reserveNew (p : RegMap) (e : Env) (b : Blk) : Blk :=
  reserveUnits e 6 ((srcUsed e.par).filter (fun n => !(srcUsed p).contains n)).length
    (reserveUnits e 2 ((soUsed e.par).filter (fun n => !(soUsed p).contains n)).length b)

/-- R339, R341, R365: what new settings leave of WATCH's counts and active sources: a source whose window changed counts anew, one
whose EVT_EN bit is 0 and a spare source without producer are not active. -/
def watchTaken (p : RegMap) (e : Env) (w : Watch) : Watch :=
  { w with
    cnt := w.cnt.map (fun (c : Cnt) => if changed p e.par [FAULT_REACT_W c.src, FAULT_REACT_UNIT c.src] then { c with buckets := [] } else c)
    act := w.act.filter (fun (x : Act) => evtEnabled e x.src &&
      !(decide (0xF0 ≤ x.src) && e.get (FAULT_SPARE_MAP_PRODUCER (x.src - 0xF0)) == 0)) }

/-- R394: LINK_SPEED_LOW of a link that stands, as the advertised speeds now are. -/
def speedConds (e : Env) (b : Blk) : List Cond :=
  ([0, 1].filter (fun p => b.get (PORT_LINK_UP p) == 1)).map (fun p =>
    ⟨b.get (PORT_LINK_SPEED p) == 1 && e.get (PORT_CFG_ADV_2G5 p) == 1, SRC_LINK_SPEED_LOW, p, p, 0, 0⟩)

/-- R296: a coil without a reference resistance shows no temperature. -/
def coilsTaken (e : Env) (b : Blk) : Blk :=
  [0, 1, 2].foldl (fun (x : Blk) k => if e.get (coilR20 k) = 0 then endExc e SRC_COIL_HOT k (x.put (coilTFld k) 0x8000) else x) b

/-- What settings that were `p` bring whichever way they came, by a write, an installed block or a REG packet: the supply (R75 to R78),
the input pairs (R307, R308), WATCH, the ports, the coils and the reserves (R43). -/
def settingsTaken (p : RegMap) (e : Env) (b : Blk) : Blk :=
  let b1 := if changed p e.par [PWR_V_COMMIT, PWR_CAP_MIN] then capJudge e (holdShow e b) else b
  let b2 := if changed p e.par ((List.range 6).map SAFE_SI_FUNC_P) then siEval e (discFresh e b1) else b1
  let b3 := if changed p e.par ((List.range 2).map PORT_CFG_ADV_2G5) then judgeAll e (speedConds e b2) b2 else b2
  let b4 := if changed p e.par ((List.range 3).map coilR20) then coilsTaken e b3 else b3
  reserveNew p e { b4 with watch := watchTaken p e b4.watch }

/-- What a change of settings does besides, from `p` to `e.par`. -/
def settingsChanged (p : RegMap) (addrs : List Nat) (e : Env) (b : Blk) : Blk :=
  let hit := fun a => addrs.contains a
  let fields := addrs.flatMap wordFlds
  let par := fields.any (fun f => isParam f && p.get f != e.get f)
  let b1 := if par then { b with
      safe := { b.safe with pcvBy := some (b.safe.pcvBy.getD (e.now + ms 10)) }
      keep := { b.keep with paramBy := some (e.now + ms 100) } } else b
  let b2 := if hit 0x306C then tpRerate e (setTrims (b1.int (TIME_TB_TRIM 2)) e b1) else b1
  let b3 := if hit 0x3060 ∨ hit 0x3064 then tpRerate e (if hit 0x3060 then b2.put TIME_STA_TB0_SET 1 else b2) else b2
  let b4 := if hit 0x40AC ∧ changed p e.par [HVS_IMD_CFG_ROLE] then imdStop b3 else b3
  let b5 := if hit 0x6040 ∧ changed p e.par [CHAIN_SWEEP_CTL_SRC] ∧ e.get CHAIN_SWEEP_CTL_SRC ≠ 1 then endExc e SRC_SYNC_LOSS 0 b4 else b4
  let b6 := if hit 0x8008 then
      (let x := if e.get SHUTTLE_CTL_EN = 0 ∧ p.get SHUTTLE_CTL_EN = 1 then shuttleHalt b5 else b5
       shuttleShow e x) else b5
  let b7 := if hit 0xF008 ∧ changed p e.par [RACK_CTL_EN] then (if e.get RACK_CTL_EN = 0 then rackDisable e b6 else rackRegrid e b6) else b6
  let b8 := if addrs.any (fun a => decide (0xF100 ≤ a) && decide (a < 0xF500)) then rackRegrid e b7 else b7
  settingsTaken p e b8

/-- R415: the RW fields that are forwarded, where the operation wrote one. -/
def forwardWords (addrs : List Nat) (e : Env) (b : Blk) : Blk :=
  let fs := forwarded.filter (fun f => addrs.contains f.addr)
  if fs.isEmpty ∨ ¬ b.twin then b else
  regFields (fs.foldl (fun (m : RegMap) f => m.put f (if f.acc == .rw then e.get f else b.get f)) []) none none e b

/-- A judged operation takes effect: settings, status fields, then the engines' parts in order of address. -/
def applyWords (who : Nat) (ws : List WWord) (s : State) : State :=
  let par := parWords s.env s.blk ws
  let addrs := ws.map WWord.addr
  let paged := ws.filter (fun w => inPage w.addr)
  let b1 := paged.foldl (fun (x : Blk) w => staWord s.env x w) s.blk
  let s1 : State := { s with par := par, start := (s.start.1, hostWrote s.env s.blk b1 paged s.start.2) }
  let b2 := forwardWords addrs s1.env (settingsChanged s.par addrs s1.env b1)
  let b3 := ws.foldl (fun (x : Blk) w => match areaOf w.addr with
    | .cell n off => if off = 0x30 ∧ w.mask != 0 then cellCap n w.mask w.value s1.env x else x
    | _ => match actionWord who w with
      | some f => f s1.env x
      | none => x) b2
  let s2 : State := { s1 with blk := finish .ok b3 }
  match ws.find? (fun w => w.addr == 0x3068 && w.mask != 0) with
  | some w => tb0Step (if w.val < 2 ^ 31 then (w.val : Int) else (w.val : Int) - 2 ^ 32) s2
  | none => s2

/-- The status of each word, up to the first that fails: its place and status. -/
def firstFail (f : WWord → Status) : Nat → List WWord → Option (Nat × Status)
  | _, [] => none
  | n, w :: ws => match f w with
    | .ok => firstFail f (n + 1) ws
    | st => some (n, st)

/-- What the refusal of a command shows (R120, R423, R457, R467): its result registers, and an emptied key buffer. -/
def refusalShown (old r : Blk) : Blk :=
  { [SAFE_SEQ_STA_LAST_RESULT, SAFE_SEQ_STA_REFUSE, KEEP_CMD_STA_LAST, KEEP_CMD_STA_RESULT, KEEP_CMD_STA_REASON, TWIN_CMD_RESULT].foldl
      (fun (x : Blk) f => x.put f (r.get f)) old with sess := r.sess }

/-- R102: an operation of words by a session or the inspection port; the place of its first failing word. A word that its engine
refuses, judged on the operation's new values, leaves what the refusal itself shows. -/
def writeWords (who epoch : Nat) (ws : List WWord) (s : State) : Nat × State :=
  let e := s.env
  let e' : Env := { e with par := parWords e s.blk ws }
  let b' := (ws.filter (fun w => inPage w.addr)).foldl (fun (x : Blk) w => staWord e x w) s.blk
  match firstFail (judgeWord who epoch e e' s.blk b') 0 ws with
  | none => (0, applyWords who ws s)
  | some (n, st) =>
    let shown : Blk := match ws[n]? with
      | some w =>
        if (w.addr = 0xA200 ∨ w.addr = 0x10040 ∨ w.addr = 0xE040) ∧ pageBar (writeBarred who epoch w.addr s.blk) e e' s.blk w = none then
          (match actionWord who w with
            | some f => refusalShown s.blk (f e' b')
            | none => s.blk) else s.blk
      | none => s.blk
    (n, { s with blk := finish st shown })

/-- A WRITE to the STAGING window (R96, R116, R457); role never refuses it, a lower epoch does (R117, R118). -/
def stagingWords (off epoch : Nat) (ws : List Nat) (s : State) : State :=
  if epoch ≠ 0 ∧ epochHigher (s.blk.get SYS_STATE_EPOCH) epoch = true then { s with blk := finish .denied s.blk }
  else s.act (stagingWrite off ws)

/-- A write of one whole word by a session or the inspection port. -/
def writeOne (who epoch a v : Nat) (s : State) : State :=
  if a % 4 ≠ 0 then { s with blk := finish .badaddr s.blk } else
  match areaOf a with
  | .staging off => stagingWords off epoch [v] s
  | _ => (writeWords who epoch [⟨a, 0xFFFFFFFF, v⟩] s).2

/-- GRA is answered: outside OFF, the boots and HOLDUP (R36, R65, R80, R391). -/
def Blk.answers (b : Blk) : Bool := b.running && !b.holdup

/-- R101: a host's write of one word, while GRA is answered. -/
def hostWrite (who a v : Nat) (s : State) : State := if s.blk.answers then writeOne who 0 a v s else s

/-- A write of some bits of a word (an RMW). -/
def hostMasked (who a mask v : Nat) (s : State) : State :=
  if s.blk.answers then (if a % 4 ≠ 0 then { s with blk := finish .badaddr s.blk } else (writeWords who 0 [⟨a, mask, v⟩] s).2) else s

/-- A write of the bits of one field, the others of its word kept (an RMW). -/
def hostField (who : Nat) (f : Fld) (v : Nat) (s : State) : State :=
  if s.blk.answers then (writeWords who 0 [⟨f.addr, (2 ^ f.w - 1) * 2 ^ f.lo, v % 2 ^ f.w * 2 ^ f.lo⟩] s).2 else s

/-- The words in which two setting maps differ among some fields. -/
def changedWords (p q : RegMap) (fs : List Fld) : List Nat := (fs.filter (fun f => p.get f != q.get f)).map Fld.addr

/-- R411, R415: a REG packet on the STANDBY: its own RWL fields, whatever the lock and mode, the forwarded fields, TB0's addend and
step; they act as settings that the host writes do. -/
def regIn (h : TwHdr) (r : RegPkt) (s : State) : State :=
  if ¬ s.blk.running ∨ ¬ s.blk.twin then s else
  let (ok, b1) := pktAccept s.env h (.reg r) s.blk
  if ¬ ok ∨ b1.role ≠ .standby then { s with blk := b1 } else
  let par1 := match r.block with
    | some (m, _) => takeBlock m s.par
    | none => s.par
  let has := fun (f : Fld) => r.fields.any (fun q => q.1 == f.key)
  let par2 := (forwarded.filter (fun f => has f && f.acc == .rw)).foldl (fun (p : RegMap) f => p.put f (r.fields.get f)) par1
  let par3 := match r.addend with
    | some a => if TIME_TB0_ADDEND.inRange a then par2.put TIME_TB0_ADDEND a else par2
    | none => par2
  let b2 := match r.block with
    | some (_, c) => (modKeep (fun k => { k with paramBy := some (s.clk.now + ms 100) })
        (modSafe (fun x => { x with pcvBy := some (s.clk.now + ms 10) }) b1)).put SAFE_PCV_CONF c
    | none => b1
  let b3 := (forwarded.filter (fun f => has f && f.acc != .rw)).foldl (fun (x : Blk) f => x.put f (r.fields.get f)) b2
  let s1 : State := { s with par := par3, blk := b3 }
  let words := changedWords s.par par3 (paramWords.flatMap Prod.snd ++ forwarded ++ [TIME_TB0_ADDEND])
  let s2 := s1.act (settingsChanged s.par words)
  match r.step with
  | some d => tb0Step d s2
  | none => s2

end Sys2Proof.Machine
end

