-- ==== Sys2Proof/Machine/Boot.lean ====
section
/-! DEFINITION. Boots: COLD_BOOT, its restart and its end, the warm boot and its resume (files 03, 05 and 16: R65 to R68, R84 to R89,
R111, R122, R145, R334, R452 to R456, R462 to R465). -/

namespace Sys2Proof.Machine

/-! ### The bank (R455, R456) -/

/-- A bank's boot check: its state and failing step, and IMAGE_CHECK_FAIL where it fails. -/
def bankChecked (e : Env) (n : Nat) (b : Blk) : Nat × Blk :=
  let step := checkBank b n
  let b1 := (b.put (KEEP_BANK_STATE n) (if step = 0 then 3 else 4)).put (KEEP_BANK_STEP n) step
  (step, if step = 0 then b1 else raise e SRC_IMAGE_CHECK_FAIL n step 0 b1)

/-- The module runs bank `n`, where `fallback` against BOOT_BANK, which then names it. -/
def runBank (n : Nat) (fallback : Bool) (b : Blk) : Blk :=
  let b1 := ((b.put KEEP_STA_RUN_BANK n).put KEEP_STA_RECOVERY 0).put KEEP_STA_FALLBACK (boolBit fallback)
  if fallback then nvRequest .retained (modKeep (fun k => { k with bootBank := n, install := false }) (b1.bump KEEP_BOOT_INFO_FALLBACKS))
  else b1

/-- R455: neither bank passes: the recovery image. -/
def runRecovery (e : Env) (b : Blk) : Blk :=
  judge e true SRC_RECOVERY_IMAGE 0 0 0 0 ((b.put KEEP_STA_RECOVERY 1).put KEEP_STA_FALLBACK 0)

/-- R455, R456: the bank `first` is checked, and then the other; after three restarts (`switched`) `first` stands in for a bank that
failed. -/
def bankBoot (e : Env) (first : Nat) (switched : Bool) (b : Blk) : Blk :=
  let (s1, b1) := bankChecked e first b
  if s1 = 0 then runBank first switched b1
  else if switched then runRecovery e b1
  else
    let (s2, b2) := bankChecked e (1 - first) b1
    if s2 = 0 then runBank (1 - first) true b2 else runRecovery e b2

/-! ### The parameter block (R40, R452, R453) -/

/-- R40: some word of the block breaks a range or a rule between settings; a setting at its reset value breaks none
(RACK.ENTRY_n.ADDR resets to 0, outside its range). -/
def blockConflict (e : Env) (b : Blk) : Bool :=
  paramWords.any (fun w => w.2.any (fun f => e.par.get f != f.reset && !(f.inRange (e.par.get f))) || !(ruleOk e b w.1))

/-- R40, R452: the defaults of the field table. The spec numbers no tables, so CONFLICT_ID is left open at a conflict. -/
def cfgDefaults (e : Env) (conflict : Bool) (b : Blk) : Blk :=
  let b1 := (b.put SYS_STA_CFG_DEFAULTED 1).put SYS_STA_CFG_CONFLICT (boolBit conflict)
  judge e true SRC_CFG_DEFAULTED 0 0 0 0
    (if conflict then (b1.putFree SYS_CONFLICT_ID_TABLE).putFree SYS_CONFLICT_ID_ENTRY else b1)

/-- A stored block as it is read back, keys rising. -/
def RegMap.canon (m : RegMap) : RegMap := m.foldl (fun (x : RegMap) p => x.insert p.1 p.2) []

/-- A block to be loaded is judged; a conflict loads the defaults (R40). -/
def blockJudged (e : Env) (par : RegMap) (b : Blk) : RegMap × Bool :=
  if blockConflict { e with par := par } b then ([], true) else (par, false)

/-- R453: the installation of an image's parameter part; its commit clears the default flags (R454). -/
def blockInstall (e : Env) (par : RegMap) (b : Blk) : RegMap × Blk :=
  let (p, bad) := blockJudged e par b
  (p, if bad then cfgDefaults e true b else nvRequest (.param none true) b)

/-- R452: the block of a cold boot. -/
def blockBoot (e : Env) (b : Blk) : RegMap × Blk :=
  let c := runImage b
  let win := slotWinner b.keep
  let activated := b.keep.install && b.get KEEP_STA_RECOVERY == 0
  let older := fun (x y : Option ParSlot) => match x, y with
    | some s, some t => !s.ok && t.ok && decide (t.seq ≤ s.seq)
    | _, _ => false
  let roll := older b.keep.slot0 b.keep.slot1 || older b.keep.slot1 b.keep.slot0
  let b1 := b.put KEEP_PARAM_STA_ROLLBACK (boolBit roll)
  let b2 := if roll then raise e SRC_PARAM_ROLLBACK 0 0 0 b1 else b1
  match win with
  | none =>
    if activated ∧ c.hasPart then blockInstall e (loadEntries (partEntries c)) b2
    else ([], nvRequest (.param none false) (cfgDefaults e false b2))
  | some (n, s) =>
    let b3 := (b2.put KEEP_PARAM_STA_SLOT n).put SAFE_PCV_CONF s.pcvConf
    if activated ∧ installsPart s.format c then blockInstall e (loadEntries (partEntries c)) b3
    else if s.format ≠ c.paramFormat then ([], nvRequest (.param none false) (cfgDefaults e false b3))
    else
      let (p, bad) := blockJudged e s.vals.canon b3
      if bad then ([], cfgDefaults e true b3)
      else
        let b4 := (b3.put SYS_STA_CFG_DEFAULTED (boolBit s.defaulted)).put SYS_STA_CFG_CONFLICT (boolBit s.conflict)
        (p, judge e s.defaulted SRC_CFG_DEFAULTED 0 0 0 0 b4)

/-- R334: the block is confirmed when its PCV equals the retained PCV_CONF; a slot's confirmed block that no longer is the running
one has lapsed. -/
def pcvBoot (e : Env) (b : Blk) : Blk :=
  let v := paramPcv e.par
  let was : Bool := match slotWinner b.keep with
    | some (_, s) => s.pcvConf == paramPcv s.vals
    | none => false
  let now : Bool := (slotWinner b.keep).isSome && v == b.get SAFE_PCV_CONF
  let b1 := (b.put SAFE_PCV v).put SAFE_STA_PCV_CONFIRMED (boolBit now)
  if was ∧ ¬ now then raise e SRC_PCV_LAPSED 0 0 0 b1 else b1

/-! ### Cold boot (R66, R72 to R74, R86 to R89, R111, R149, R181) -/

/-- What MRAM's retained records give back (R444). -/
def retainedLoad (b : Blk) : Blk :=
  let r := retained b.keep
  let b0 := b.keep.keys.foldl (fun (x : Blk) k =>
    (x.put KEEP_KEY_STA_PRESENT (setBit (x.get KEEP_KEY_STA_PRESENT) k.1 true)).put (KEEP_KEY_KCV k.1) (keyKcv k.2)) b
  let b1 := retainedFlds.foldl (fun (x : Blk) f => x.put f (r.regs.get f)) b0
  let n := r.regs.get PWR_BOOT_BOOT_NUMBER
  { (b1.put PWR_BOOT_BOOT_NUMBER ((n + 1) % 256)).put SAFE_SI_STATE_LOCKED (r.siLocks % 64) with
    sess := mapIdx (fun k (x : Sess) => { x with ctr := ((r.ctrs[k]?).map (fun c => c + 1)).getD 0 }) 0 b.sess
    keep := { b.keep with bootBank := r.bootBank, install := r.install }
    safe := { b.safe with pairs := mapIdx (fun k (p : Pair) => { p with locked := bitOf r.siLocks k }) 0 b.safe.pairs }
    chain := { b.chain with
      retire := r.retired
      cmus := mapIdx (fun k (m : CmuRec) => { m with conf := (r.serials.find? (fun p => p.1 == k)).map Prod.snd }) 0 b.chain.cmus } }

/-- The hardware once its rails and clocks stand (R88 steps 1 to 4): pins, supplies, clocks, island with its factory calibration
(R154). -/
def pinsUp (p : BootPins) (e : Env) (b : Blk) : Blk :=
  let low := decide (p.hold ≤ 4800)
  let b1 := ((({ b with phase := .coldBoot, mode := .transient, prev := .transient, twin := p.twin
                        role := .solo, unlocked := [] }.put SYS_STRAPS_ADDR p.addr).put SYS_STRAPS_TWIN_ID
    p.twinId).put SYS_STRAPS_TWIN_CFG (boolBit p.twin)).put PWR_SUPPLY_VIN (min 65535 p.vin)
  let b2 := (((b1.put PWR_SUPPLY_VCOIL (min 65535 p.vcoil)).put PWR_STA_VCOIL_OK (boolBit (decide (1800 ≤ p.vcoil)))).put
    PWR_STA_BOOST_ON (boolBit low)).put PWR_STA_DISCHARGE_ON (boolBit (!low))
  let b3 := ((((b2.put CLK_STA_REF_OK 1).put CLK_STA_PLLC_LOCK 1).put CLK_STA_PLLN_LOCK 1).put CLK_STA_TRIP_FWD_OK 1).put
    CLK_STA_SAMP_FWD_OK 1
  let b4 := (((b3.put HVS_STA_ISLAND_OK 1).put HVS_STA_SAMP_OK 1).put HVS_STA_SHUNT_OK 1).put HVS_STA_HALL_OK 1
  let b5 := { b4 with
    pwr := { b4.pwr with
      boostBy := if low then some (e.now + sec 10 - ms 1) else none
      chargeBy := if low then some (e.now + sec 10 - ms 1) else none }
    hvs := { b4.hvs with
      shuntOkAt := e.now, hallPwr := true
      cal := (List.range 12).map (fun n => (Config.factoryCal (3 * n), Config.factoryCal (3 * n + 1), Config.factoryCal (3 * n + 2))) }
    safe := { b4.safe with tps := .low }
    watch := { b4.watch with
      errOn := true, errSince := e.now, cnt := b4.watch.mcnt, ff := b4.watch.mff, ffValid := b4.watch.mffValid
      nextSeq := b4.watch.ceiling + 1 } }
  holdShow e (setHold p.hold b5)

/-- The thermal latch and its groups as the AON retention kept them; after a power cycle every group is checked again (R86, R293). -/
def thermBoot (cause : Nat) (b : Blk) : Blk :=
  let b1 := ((b.put THERM_STA_LATCH (boolBit b.pwr.latch)).put THERM_STA_LATCH_GROUPS b.pwr.latchGroups).put
    PWR_BOOT_LATCH_KEPT (boolBit b.pwr.latch)
  { b1 with therm := { b1.therm with relatch := if cause = 0 then [0, 1, 2] else [] } }

/-- R181, R178: the lanes' boot tests; `bad` names a lane once for each test of it that failed. -/
def lanesBoot (bad : List Nat) (e : Env) (b : Blk) : Blk :=
  let b1 := laneBootTest bad b
  let used := bitOf (b1.get SYS_RESERVE_USED_USED) 0
  judgeWith e [lanesCond b1] (((bad.filter (fun k => decide (k < 3))).map (fun k =>
    ({ src := SRC_LANE_TEST_FAIL, code := k + 1 } : Raise))) ++ ((([0, 1, 2].filter (fun k => bad.contains k)).map (fun k =>
    ({ src := SRC_LANE_RETIRED, code := k + 1 } : Raise)))) ++ (if used then [{ src := SRC_RESERVE_IN, code := 0 }] else [])) b1

/-- What the earlier time in OFF or in BOOT leaves to report (R70, R81, R444, R446, R456). -/
def bootReports (e : Env) (b : Blk) : Blk :=
  let b := if b.keep.retOk.1 || b.keep.retOk.2 then b else raise e SRC_NV_UNCORRECTABLE 0 0 0 b
  let used := setBit (setBit (b.get SYS_RESERVE_USED_USED) 5 (b.keep.spares != 0)) 7
    (b.get (PORT_DESC_SPARE_IN_USE 0) + b.get (PORT_DESC_SPARE_IN_USE 1) != 0)
  let b1 := judgeAll e (reserveConds b) (b.put SYS_RESERVE_USED_USED used)
  let b2 := if b1.pwr.exhausted then raise e SRC_HOLD_EXHAUSTED 0 0 0 (modPwr (fun p => { p with exhausted := false }) b1) else b1
  if b2.get PWR_STA_VCOIL_OK = 0 then judge e true SRC_VCOIL_LOSS 0 0 (b2.get PWR_SUPPLY_VCOIL) 1800 b2 else b2

/-- BOOT from OFF, with its cause: steps 1 to 5 of R88. `now` goes on; the counters start from 0 (R367). What the block brings into use
beyond the stored one is recorded (R43). -/
def bootFrom (cause : Nat) (p : BootPins) (s : State) : State :=
  let c : Clock := { s.clk with tb0 := 0, tb1 := 0, tb2 := 0, away := 0 }
  let s0 : State := { s with par := [], clk := c, start := (c, s.start.2) }
  let e0 := s0.env
  let n := s.blk.pwr.restarts
  let b1 := thermBoot cause (pinsUp p e0 (retainedLoad s.blk))
  let b2 := ((b1.put PWR_BOOT_CAUSE cause).put KEEP_BOOT_INFO_RESTARTS (min 15 n)).put KEEP_STA_COLD_PENDING 0
  let empty := fun (c : Content) => match c with
    | .empty => true
    | _ => false
  let b3 := ((b2.put (KEEP_BANK_STATE 0) (if empty b2.keep.bank0 then 0 else 2)).put (KEEP_BANK_STATE 1)
    (if empty b2.keep.bank1 then 0 else 2))
  let (bank, k) := if n = 0 then (b3.keep.bootBank, 0) else (s.blk.pwr.onBank.1, s.blk.pwr.onBank.2 + 1)
  let first := if k = 3 then 1 - bank else b3.keep.bootBank
  let b4 := bankBoot e0 first (k == 3) b3
  let runs := b4.get KEEP_STA_RUN_BANK
  let (par, b5) := blockBoot e0 b4
  let b6 := nvRequest .retained (modPwr (fun q => { q with
    onBank := (runs, if k ≠ 3 ∧ runs = bank then k else 0), cycled := false, stopped := false, rail := false })
    (modKeep (fun k => { k with install := false, ctrWait := true }) b5))
  let s1 : State := { s0 with par := par, blk := b6 }
  let e := s1.env
  let old := ((slotWinner b3.keep).map (fun q => q.2.vals.canon)).getD []
  { s1 with blk := reserveNew old e (bootReports e (lanesBoot p.bad e (ledgerRestore e (pcvBoot e (physStart e (holdShow e b6)))))) }

/-- The cause of a cold boot (PWR.BOOT.CAUSE). -/
def coldCause (p : Pwr) : Nat := if p.rail then 3 else if p.stopped then 2 else if p.cycled then 0 else 1

/-- R94: a rail fault's cold boot follows once the reaction has opened the outputs. -/
def railDue (b : Blk) : Bool :=
  b.phase == .run && b.pwr.rail && b.seq.dis.isNone && b.mode != .connected && b.mode != .connecting

/-- R71, R72, R88, R456: undervoltage release, at 35 V or above, after OFF starts BOOT; one that BOOT was stopped for counts as a
restart. -/
def coldBoot (p : BootPins) (s : State) : State :=
  if s.blk.phase = .off then
    if p.vin < 3500 then s else
    let stopped := s.blk.pwr.stopped
    bootFrom (coldCause s.blk.pwr) p { s with blk := modPwr (fun q => { q with
      restarts := if stopped then q.restarts + 1 else q.restarts }) s.blk }
  else if railDue s.blk then bootFrom 3 p (goOff s)
  else s

/-- R456: a glitch, a rail fault or a stall restarts BOOT. DESIGN CHOICE: the restart keeps the straps that this BOOT has read (R66,
notes/assumptions/149.md). -/
def bootRestart (bad : List Nat) (s : State) : State :=
  if s.blk.phase ≠ .coldBoot then s else
  let b := s.blk
  let p : BootPins := ⟨b.get SYS_STRAPS_ADDR, b.get SYS_STRAPS_TWIN_ID, b.twin, b.get PWR_SUPPLY_VIN, b.get PWR_SUPPLY_VCOIL,
    b.get PWR_HOLD_V_HOLD, bad⟩
  let t := goOff s
  bootFrom 2 p { t with blk := modPwr (fun q => { q with restarts := b.pwr.restarts + 1 }) t.blk }

/-- R71, R80, R456: undervoltage in service and in a warm boot enters HOLDUP; in a cold BOOT it stops the boot. -/
def undervoltageDetection (vin : Nat) (s : State) : State :=
  if s.blk.phase = .coldBoot ∧ vin < 3300 then
    let t := goOff s
    { t with blk := modPwr (fun q => { q with stopped := true }) t.blk }
  else s.act (undervoltage vin)

/-- The shutdown sources of the groups that the kept latch names, in ascending order (R122). -/
def keptShutdowns (b : Blk) : List Raise :=
  if ¬ b.pwr.latch then [] else
  ([(0, SRC_CELL_SHUTDOWN), (1, SRC_BUS_SHUTDOWN), (2, SRC_MOD_SHUTDOWN)].filter (fun g => bitOf b.pwr.latchGroups g.1)).map
    (fun g => ({ src := g.2 } : Raise))

/-- The mode that follows a cold boot (R122). -/
def bootMode (b : Blk) : Mode :=
  if b.pwr.latch then .tripped
  else if b.get SYS_STA_CFG_DEFAULTED = 1 ∨ b.get SAFE_STA_PCV_CONFIRMED = 0 ∨ b.get KEEP_STA_RECOVERY = 1 then .commissioning
  else .isolated

/-- What starts when a boot has ended: the watchdog's wait (R330), the rack's schedule (R430), the journal period (R261). -/
def enginesStart (e : Env) (b : Blk) : Blk :=
  let b1 := modLed (fun l => { l with jrnAt := some (e.now + sec (e.get LEDGER_JRN_CFG_PERIOD)) }) (rackArm e (psfRestart e b))
  { b1 with pwr := { b1.pwr with bootAt := e.now } }

/-- R65: ERR_N is released at the end of a cold BOOT unless a source is active at L1 or above. -/
def bootErrRelease (b : Blk) : Blk :=
  if activeAt b 1 then b else { b with watch := { b.watch with errOn := false, errArmed := false } }

/-- R363, R364: the BOOT record, the first of its boot, stands before the cycle of the raises that BOOT's end ingests. -/
def bootRecord (e : Env) (b : Blk) : Blk :=
  let b1 := record e { src := SRC_BOOT, code := b.get PWR_BOOT_CAUSE, d0 := b.watch.committed } b
  { b1 with watch := { b1.watch with cyc := none } }

/-- R88 step 8, R89: BOOT ends with HOLD, in 10 mV, at 95 V or 10 s after the boost's start: the BOOT record, the mode, the raises
held in the order of R349, and the start of the engines. A charge that is late leaves no measurement (R75). A SOLO module enumerates its string, in TWIN the one that takes authority does. -/
def bootEnd (hold : Nat) (e : Env) (b : Blk) : Blk :=
  let b := if b.phase = .coldBoot then holdRead hold e b else b
  if b.phase ≠ .coldBoot ∨ ¬ (9500 ≤ hold ∨ (b.pwr.boostBy.map (fun t => decide (t ≤ e.now))).getD false = true) then b else
  let late := decide (hold < 9000)
  let restarts := b.pwr.restarts
  let held := b.watch.held
  let b1 : Blk := { b with
    phase := .run
    pwr := { b.pwr with
      boostBy := none, chargeBy := none, capAt := if late then none else b.pwr.capAt, holdSup := true, restarts := 0 }
    watch := { b.watch with held := [] } }
  let b2 := bootRecord e b1
  let b3 := modeTo e (bootMode b2) b2
  let b4 := judgeWith e (if late then [⟨true, SRC_HOLD_CHARGE_FAIL, 0, 0, hold, 0⟩] else [])
    (held ++ keptShutdowns b3 ++ (if restarts = 0 then [] else [{ src := SRC_BOOT_RESTART }]) ++ [modeRaise b3.mode b2.mode]) b3
  let b6 := enginesStart e (settleHeld held b4)
  let b7 := if b6.twin then b6 else enumStart e b6
  let b8 := { testsStart e (modSafe (fun s => { s with evalBy := some (e.now + ms 10) }) b7) with
    role := if b7.twin then .standby else .solo
    tw := if b7.twin then { b7.tw with listenBy := some (e.now + ms 20) } else b7.tw }
  thermShow e (bootErrRelease b8)

/-! ### Warm boot (R145, R462) -/

/-- The commits that R462 asks for are done: the write cache is empty too (R356). -/
def warmCommitted (b : Blk) : Bool :=
  b.watch.cache.isEmpty && !((b.pwr.running.toList ++ b.pwr.queued ++ b.pwr.waiting).any (fun j => match j with
    | .journal _ => true
    | .param _ _ => true
    | .log => true
    | _ => false))

/-- The Twin Link stops without a fault: both lanes are down until they retrain after the warm boot (R67). -/
def linkStop (b : Blk) : Blk :=
  let b1 := (modTw (fun t => { t with lanes := [.start, .start] }) b).put TWIN_LANE_STA_L0 0
  (b1.put TWIN_LANE_STA_L1 0).put SYS_RESERVE_USED_USED (setBit (b1.get SYS_RESERVE_USED_USED) 4 false)

/-- The engines stop and the retention record is written (R382, R388, R440, R463); the SO outputs stay as latched, TPS0 and TPS1
are held high and the Twin Link stops (R67); a pair that stands low for emergency stop or external trip drops the latches at once (R68). -/
def enginesStop (e : Env) (b : Blk) : Blk :=
  let b1 := imdStop (tpStopAll (flushQueues (deltaFault e 6 b)))
  let b2 := rackAbandon (modKeep (fun k => { k with nonce := none, svcResp := [], retention := some (runImage b).retainFormat
                                                    warmAt := e.now }) b1)
  let b3 := testsStop .high (modSafe (fun s => { s with soLatch := soMap e b, warmDemand := [] }) (linkStop b2))
  warmStop e { b3 with phase := .warmBoot, unlocked := [] }

/-- R462: an accepted ACTIVATE goes on: its commits are asked for, announcements stop, and once the last sweep in flight has closed
the engines stop. -/
def warmBoot (e : Env) (b : Blk) : Blk :=
  match b.keep.act with
  | none => b
  | some a =>
    if ¬ b.running ∨ ¬ activateReady b then b
    else if a.stage = 0 then activateCommits b
    else if ¬ warmCommitted b then (if b.watch.cache.isEmpty then b else nvRequest .log b)
    else if ¬ b.chain.flight.isEmpty then modKeep (fun k => { k with act := some { a with stage := 2 } }) b
    else enginesStop e b

/-! ### Resume (R145, R463, R464) -/

/-- The settings that run on through a warm boot beside the parameter block: the time bases (R367), TIN (R389), the schedule (R462) and
the SO outputs the host switched (R67). -/
def runsOn : List Fld :=
  [TIME_TB0_ADDEND, TIME_TB1_ADDEND, TIME_TRIM_CTL_TB0_DIS, TIME_TRIM_CTL_TB1_DIS, TIME_TIN_CFG_EN, TIME_TIN_CFG_EDGE,
   SAFE_SO_HOST_ON] ++ (List.range 32).map CHAIN_SCHED

/-- The settings after a warm boot, given the block it loads: the block's fields, and those that run on. -/
def parResume (block par : RegMap) : RegMap :=
  let keep := paramKeys ++ runsOn.map Fld.key
  let base := par.filter (fun p => keep.contains p.1 && !paramKeys.contains p.1)
  block.foldl (fun (m : RegMap) p => if paramKeys.contains p.1 then m.set p.1 (p.2 + 1) p.2 else m) base
where
  paramKeys : List Nat := (paramWords.flatMap Prod.snd).map Fld.key

/-- R462, R453, R464: the bank that a warm boot brings up. -/
def bankResume (e : Env) (target : Nat) (b : Blk) : Blk :=
  let old := b.get KEEP_STA_RUN_BANK
  let (s1, b1) := bankChecked e target b
  if s1 = 0 then judge e false SRC_RECOVERY_IMAGE 0 0 0 0 (runBank target false b1)
  else
    let (s2, b2) := bankChecked e old b1
    if s2 = 0 then judge e false SRC_RECOVERY_IMAGE 0 0 0 0 (runBank old true b2) else runRecovery e b2

/-- R111, R100: new session counters, everything of the sessions cleared. -/
def sessionsNew (b : Blk) : Blk :=
  { b with
    unlocked := []
    sess := mapIdx (fun n (x : Sess) => { Sess.empty with ctr := if n < 4 then x.ctr + 1 else 0 }) 0 b.sess }

/-- The registers that a boot clears though the module goes on (R85: those counted since boot). -/
def sinceBootClear (b : Blk) : Blk :=
  [SYS_GRA_STAT_AUTHFAIL, SYS_GRA_STAT_BUSY, SYS_GRA_STAT_REPLAY, SYS_GRA_STAT_DISCARDED, FAULT_PUSH_CNT_FRAMES,
   FAULT_PUSH_CNT_SKIPPED, TIME_STA_TB0_SET, SHUTTLE_CTL_MAINT_RUN, SAFE_STA_PERMIT, SAFE_STA_SINGLE_NET, SAFE_PSF_RX_FLAGS,
   SAFE_PSF_SEQ_TX, SAFE_PSF_SEQ_RX].foldl
    (fun (x : Blk) f => x.put f 0) b

/-- R462: the host's instants that fell in the gap are cleared with one SWEEP_LATE; the AUTO grid goes on with the first instant that
can still be announced. -/
def gapResume (e : Env) (b : Blk) : Blk :=
  let gone := (List.range 32).filter (fun n => bitOf (b.get CHAIN_SCHED_VALID) n && decide (sdiff32 (e.get (CHAIN_SCHED n)) e.clk.ns1 < 50000))
  let b1 := b.put CHAIN_SCHED_VALID (gone.foldl (fun v n => setBit v n false) (b.get CHAIN_SCHED_VALID))
  let next := fun (p : Nat) =>
    let behind := sdiff32 ((e.clk.ns1 + 50000) % 2 ^ 32) p
    if behind ≤ 1000000 then p else (p + (behind.toNat - 1) / 1000000 * 1000000) % 2 ^ 32
  let b2 := modChain (fun c => { c with
    gapFrom := c.prevT, base := c.base.map next
    cells := c.cells.map (fun (x : CellRec) => { x with staleAt := x.staleAt.map (fun t => t + (e.now - b.keep.warmAt)) }) }) b1
  if gone = [] then b2 else skipLate e b2

/-- The engines' state that neither the retention record nor MRAM holds starts again (R85, R463), the push sequence too (R359). -/
def enginesRestart (e : Env) (b : Blk) : Blk :=
  endExc e SRC_PSF_SINGLE_EXPIRED 0 <| endExc e SRC_PSF_SINGLE_NET 0 { b with
    watch := { b.watch with pushSeq := 0 }
    psf := { Psf.start with singleAt := none }
    rack := Rack.start
    ports := b.ports.map (fun (x : PortS) => { x with txq := [], busyTill := 0 })
    chain := { b.chain with
      flight := [], edgeT := none, gaps := [], burst := none, owPlan := none, enum := none, echo := [], wait := []
      commit := none, notices := [], beaconAt := none
      cmus := b.chain.cmus.map (fun (m : CmuRec) => { m with nonce := none }) }
    tw := { b.tw with
      lanes := [.start, .start], hbAt := some e.now, ffAt := some e.now, seenAt := b.tw.seenAt.map (fun _ => e.now), ho := 0
      relRx := none, relSend := none, sent := none, aligned := false, alignOut := 0, alignIn := 0, rxTb1 := none, mir := none, pcmds := none
      skipTill := e.now + sec 1 } }

/-- R463: the retention check; `sound` tells that the record's CRC agrees and that every output latch equals its command or was
dropped. -/
def retentionOk (sound : Bool) (b : Blk) : Bool := sound && b.keep.retention == some (runImage b).retainFormat

/-- The sources whose state a failed retention check leaves as it is: those of the supply, the clocks, the time bases, the island, the
links, the rack and KEEP. DESIGN CHOICE: they stay active and in their excursions (R392, R491; notes/assumptions/150.md). -/
def srcKept (src : Nat) : Bool := (decide (0x10 ≤ src) && decide (src < 0x50)) || (decide (0xC0 ≤ src) && decide (src < 0xF0))

/-- R464: what a failed retention check leaves: the hardware, the island, the power, time and KEEP pages, the switch commands and what
MRAM holds, the confirmed PCV among it; every other engine at its reset values, the ledger from its journal. The pairs are evaluated
again 10 ms after the test pulses start (R306). -/
def retentionLost (e : Env) (b : Blk) : Blk :=
  let hw := fun (k : Nat) => let a := k / 8
    decide (a < 0x6000) || decide (0xD000 ≤ a) || a == 0xA208 || a == 0xA20C
  let kept := retainedFlds ++ [SAFE_PCV, SAFE_STA_PCV_CONFIRMED, LOG_CAP_VALID, LOG_CAP_PROTECT, LOG_CAP_LAST_SLOT, LOG_CAP_LAST_NUMBER]
  let sta := kept.foldl (fun (m : RegMap) f => m.put f (b.get f)) (b.sta.filter (fun p => hw p.1))
  let w := b.watch
  let w1 : Watch := { Watch.start with
    held := w.held, act := w.act.filter (fun a => srcKept a.src), exc := w.exc.filter (fun p => srcKept p.1), mram := w.mram, mcnt := w.mcnt, mff := w.mff, mffValid := w.mffValid, cnt := w.mcnt, ff := w.mff, ffValid := w.mffValid
    ceiling := w.ceiling, nextSeq := w.ceiling + 1, committed := w.committed, dropped := w.dropped, bufs := w.bufs, caps := w.caps
    capNum := w.capNum, errOn := w.errOn, errSince := w.errSince }
  let c := { Chain.start with
    retire := b.chain.retire, silent := b.chain.silent
    cmus := List.zipWith (fun (x y : CmuRec) => { x with conf := y.conf }) Chain.start.cmus b.chain.cmus }
  let b1 : Blk := { b with
    sta := sta, watch := w1, chain := c, therm := { Therm.start with coils := b.therm.coils }, shuttle := Shuttle.start, hvs := { b.hvs with zeroS := false }
    ledger := { Ledger.start with jrnA := b.ledger.jrnA, jrnB := b.ledger.jrnB }
    seq := Seq.idle
    safe := { Safe.start with
      tps := b.safe.tps, soLatch := b.safe.soLatch, warmDemand := b.safe.warmDemand, evalBy := some (e.now + ms 10)
      pairs := List.zipWith (fun (x y : Pair) => { x with a := y.a, b := y.b, locked := y.locked }) Safe.start.pairs b.safe.pairs } }
  thermBoot 1 (ledgerRestore e (b1.put SAFE_PCV_CONF (((slotWinner b.keep).map (fun q => q.2.pcvConf)).getD 0)))

/-- R145: a click-path trip, the island limit latch, R68 or the AON supervisor dropped the latches: the disconnect runs from the
confirmation of its step 1, and the module enters TRIPPED, from every mode. -/
def droppedResume (e : Env) (b : Blk) : Blk :=
  let dropped := b.trip.warmDrop || b.therm.aonDrop
  let b1 := { b with
    trip := { b.trip with warmDrop := false }
    therm := { b.therm with aonDrop := false } }
  if ¬ dropped ∨ ¬ b1.owner then b1
  else if b1.mode = .connected then
    (if b1.seq.dis = none then startDis e ⟨false, true, false, 0, false⟩ b1 else b1)
  else if b1.mode = .tripped then b1
  else tripIdle e b1

/-- R68: the demands that dropped the latches in the warm boot: those that still stand as conditions, the others as raises of their
functions' sources. -/
def warmDemands (e : Env) (b : Blk) : List Cond × List Raise :=
  let stands := fun (n : Nat) => (b.safe.pairs[n]?.map (fun p => pairSafe (siFunc e n)
    { p with dem := pairDemand (siFunc e n) p.a p.b })).getD false
  let of_ := fun (n : Nat) => (siSources.filter (fun s => s.1 == siFunc e n)).map Prod.snd
  ((b.safe.warmDemand.filter stands).flatMap (fun n => (of_ n).map (fun s => ⟨true, s, n, n, 0, 0⟩)),
   (b.safe.warmDemand.filter (fun n => !(stands n))).flatMap (fun n => (of_ n).map (fun s => { src := s, code := n })))

/-- R84, R138: a HOLDUP that began during the warm boot goes on; the ride-through time counts from its detection. -/
def holdupResume (e : Env) (b : Blk) : Blk :=
  if ¬ b.holdup then b else
  let b1 := holdupWork e b
  if b1.get PWR_STA_RIDE_EXPIRED = 1 then rideExpiry e b1 else b1

/-- The first events after a warm boot: BOOT, the demands that dropped the latches (R68, R145), then in one order the raises held, a
failed retention check (R356, R464) and what the inputs now show; where the latches were dropped, the disconnect (R145). -/
def resumeEvents (ok : Bool) (e : Env) (b : Blk) : Blk :=
  let held := b.watch.held ++ if ok then [] else
    [{ src := if b.role = .standby then SRC_STANDBY_RESTORED else SRC_RETENTION_FAIL }]
  let b1 := bootRecord e { b with phase := .run, watch := { b.watch with held := [] } }
  let (stand, gone) := warmDemands e b1
  let b2 := judgeWith e stand gone (testsStart e (modSafe (fun s => { s with warmDemand := [] }) b1))
  droppedResume e (captureResume e (settleHeld (gone ++ held) (siEvalWith e (breakConds b2) held (silenceShow b2))))

/-- R465: a standby that was activated for a handover asks for it once it is healthy. -/
def actFinish (e : Env) (fellBack : Bool) (b : Blk) : Blk := match b.keep.act with
  | none => b
  | some a =>
    ((modKeep (fun k => { k with
      act := none, install := false, retention := none
      handReq := if a.handover ∧ b.role = .standby then some (e.now, 0) else none }) b).put KEEP_STA_ACTIVATING 0).put
      KEEP_CMD_STA_RESULT (if fellBack then 4 else 1)

/-- R84, R111, R145, R453, R462 to R465: the end of a warm boot. -/
def resume (sound : Bool) (s : State) : State :=
  match s.blk.keep.act with
  | none => s
  | some a =>
    if s.blk.phase ≠ .warmBoot then s else
    let e := s.env
    let oldFormat := (runImage s.blk).paramFormat
    let b1 := bankResume e a.target s.blk
    let fellBack := b1.get KEEP_STA_FALLBACK == 1 || b1.get KEEP_STA_RECOVERY == 1
    let c := runImage b1
    let installs := !fellBack && b1.keep.install && installsPart oldFormat c
    let (block, b2) := if installs then blockInstall e (loadEntries (partEntries c)) b1 else (s.par, b1)
    let b3 := ((b2.put PWR_BOOT_CAUSE (if fellBack then 5 else 4)).put PWR_BOOT_BOOT_NUMBER
      ((b2.get PWR_BOOT_BOOT_NUMBER + 1) % 256)).put KEEP_PARAM_STA_ROLLBACK 0
    let b4 := nvRequest .retained (modKeep (fun k => { k with ctrWait := true }) (sinceBootClear (sessionsNew b3)))
    let s1 : State := { s with par := parResume block s.par, blk := b4 }
    let e1 := s1.env
    let ok := retentionOk sound b4
    let b5 := enginesRestart e1 (if ok then b4 else retentionLost e1 b4)
    let b6 := actFinish e1 fellBack b5
    let b7 := resumeEvents ok e1 b6
    let b8 := capJudge e1 (holdShow e1 (settingsTaken s.par e1 (pcvSet e1 (paramPcv e1.par) b7)))
    let b9 := holdupResume e1 (gapResume e1 (enginesStart e1 (onlyIf (!b8.holdup) (authDeferred e1) b8)))
    { s1 with blk := thermShow e1 (siShow e1 b9) }

end Sys2Proof.Machine
end

