-- ==== Sys2Proof/Machine/Gra.lean ====
section
/-! DEFINITION. Register access from outside: GRA frames and sessions (R106 to R118), event push (R359) and the inspection port
(R471). -/

namespace Sys2Proof.Machine

/-! ### Requests (R107, R108, R112 step 1) -/

/-- A GRA request whose form is right: `text` are the bytes its MAC covers, `mac` the MAC itself. -/
structure GraReq where
  session : Nat
  seq : Nat
  tag : Nat
  op : Nat
  count : Nat
  addr : Nat
  epoch : Nat
  payload : List Nat
  text : List Byte
  mac : List Byte
deriving DecidableEq, Repr

/-- COUNT lies in the range that R108 gives its operation. -/
def graCountOk (op n : Nat) : Bool := match op with
  | 1 => decide (1 ≤ n) && decide (n ≤ 64)
  | 2 => decide (1 ≤ n) && decide (n ≤ 64)
  | 3 => decide (1 ≤ n) && decide (n ≤ 32)
  | 4 => n == 0
  | 5 => n == 2
  | _ => false

/-- Payload words of a request. -/
def graWords (op n : Nat) : Nat := match op with
  | 2 => n
  | 3 => 2 * n
  | 5 => n
  | _ => 0

/-- A little-endian word of a byte list, by its number. -/
def leWord (bs : List Byte) (k : Nat) : Nat := leVal (slice bs (4 * k) 4)

/-- R112 step 1: the request in a message, if its form is right; padding after the MAC is ignored. -/
def graParse (m : List Byte) : Option GraReq :=
  let op := leVal (slice m 9 1)
  let n := leVal (slice m 10 2)
  let k := 24 + 4 * graWords op n
  if m.length < 24 ∨ m.length < k + 16 ∨ m.take 2 ≠ [1#8, 1#8] ∨ 4 ≤ leVal (slice m 2 1) ∨ slice m 3 1 ≠ [0#8] ∨
      slice m 18 6 ≠ List.replicate 6 0#8 ∨ graCountOk op n = false then none
  else some {
    session := leVal (slice m 2 1)
    seq := leVal (slice m 4 4)
    tag := leVal (slice m 8 1)
    op := op
    count := n
    addr := leVal (slice m 12 4)
    epoch := leVal (slice m 16 2)
    payload := (List.range (graWords op n)).map (fun i => leWord (m.drop 24) i)
    text := m.take k
    mac := slice m k 16 }

/-- The MAC of R109. -/
def graMac (key text : List Byte) (ctr : Nat) : List Byte := mac16 key (text ++ leBytes 8 ctr)

/-- STATION (R107). -/
def station (b : Blk) : Nat := b.get SYS_STRAPS_ADDR + 16 * b.get SYS_STRAPS_TWIN_ID + 32 * b.role.code

/-- A response before its MAC (R107, R108): with STATUS not OK it has no payload. -/
def graText (r : GraReq) (st : Status) (index : Nat) (payload : List Nat) (b : Blk) : List Byte :=
  let count := if st = .ok ∧ r.op = 4 then 1 else if st = .ok ∧ r.op = 5 then 5 else r.count
  [1#8, 1#8, BitVec.ofNat 8 r.session, 1#8] ++ leBytes 4 r.seq ++ leBytes 1 r.tag ++ leBytes 1 r.op ++ leBytes 2 count ++
    leBytes 4 r.addr ++ leBytes 2 (b.get SYS_STATE_EPOCH) ++ leBytes 1 st.code ++ leBytes 1 index ++ leBytes 1 (station b) ++
    List.replicate 3 0#8 ++ (if st = .ok then payload.flatMap (leBytes 4) else [])

/-- A response with its MAC, by the session's key and counter. -/
def graResponse (key : List Byte) (ctr : Nat) (r : GraReq) (st : Status) (index : Nat) (payload : List Nat) (b : Blk) : List Byte :=
  graText r st index payload b ++ graMac key (graText r st index payload b) ctr

/-- R106: a response leaves by the port of its request, to its source, with its tag. -/
def graSend (e : Env) (port : Nat) (f : EthF) (msg : List Byte) (b : Blk) : Blk :=
  ethSend e port ⟨f.src, portMac b port, f.tag, 0x88B5, msg⟩ b

/-! ### Sessions (R110 to R114) -/

/-- R113: a sequence is new. -/
def seqNew (s : Sess) (n : Nat) : Bool := match s.high with
  | none => true
  | some h => decide (h < n) || (decide (h < n + 64) && !(s.seen.contains n))

/-- R112 step 9: a sequence is marked seen; only the 63 numbers below the highest matter (R113). -/
def seqMark (n : Nat) (s : Sess) : Sess :=
  let h := max n (s.high.getD n)
  { s with high := some h, seen := (insSet s.seen n).filter (fun k => decide (h < k + 64)) }

/-- R112: AUTHFAIL responses, at most 16 in a second for a session and port. -/
def authfailReply (port : Nat) (f : EthF) (key : List Byte) (r : GraReq) (e : Env) (b : Blk) : Blk :=
  let s := sessOf b r.session
  let recent := s.authAt.filter (fun p => decide (e.now < p.2 + sec 1))
  if 16 ≤ (recent.filter (fun p => p.1 == port)).length then b else
  graSend e port f (graResponse key s.ctr r .authfail 0 [] b)
    (modSess r.session (fun (x : Sess) => { x with authAt := recent ++ [(port, e.now)] }) b)

/-- A response that is not cached. -/
def plainReply (e : Env) (port : Nat) (f : EthF) (key : List Byte) (r : GraReq) (st : Status) (b : Blk) : Blk :=
  graSend e port f (graResponse key (sessOf b r.session).ctr r st 0 [] b) (finish st b)

/-! ### Operations (R108) -/

/-- The words of a WRITE or RMW. -/
def graWWords (r : GraReq) : List WWord :=
  (List.range r.count).map (fun k =>
    if r.op = 2 then ⟨r.addr + 4 * k, 0xFFFFFFFF, (r.payload[k]?).getD 0⟩
    else ⟨r.addr + 4 * k, (r.payload[2 * k]?).getD 0, (r.payload[2 * k + 1]?).getD 0⟩)

/-- The words that stand at a span, as a reader sees them. -/
def readSpan (e : Env) (b : Blk) (who a n : Nat) : List Nat := (List.range n).map (fun k => readWord e b who (a + 4 * k))

/-- What executing an accepted request leaves: the state, the status, the failing word and the payload. -/
structure Done where
  st : State
  status : Status
  index : Nat
  payload : List Nat
deriving DecidableEq, Repr

def refused (status : Status) (s : State) : Done := ⟨{ s with blk := finish status s.blk }, status, 0, []⟩

/-- READ. -/
def graRead (r : GraReq) (s : State) : Done :=
  if spanOk r.addr r.count then ⟨s, .ok, 0, readSpan s.env s.blk r.session r.addr r.count⟩ else refused .badaddr s

/-- A WRITE to the STAGING window. -/
def graStaging (off : Nat) (r : GraReq) (s : State) : Done :=
  let t := stagingWords off r.epoch r.payload s
  ⟨t, t.blk.lastStatus, 0, []⟩

/-- WRITE and RMW (R101, R102): all words or none. -/
def graWrite (r : GraReq) (s : State) : Done :=
  if ¬ spanOk r.addr r.count then refused .badaddr s else
  let words := fun (_ : Unit) =>
    let old := if r.op = 3 then readSpan s.env s.blk r.session r.addr r.count else []
    let (n, t) := writeWords r.session r.epoch (graWWords r) s
    (⟨t, t.blk.lastStatus, if t.blk.lastStatus = .ok then 0 else n, old⟩ : Done)
  match areaOf r.addr with
  | .staging off => if r.op = 2 then graStaging off r s else words ()
  | _ => words ()

/-- SNAP of a page (R104, R105): the answer is the session's snapshot count of the page. DESIGN CHOICE: an address that is no page base
answers BADADDR (notes/assumptions/113.md). -/
def graSnap (r : GraReq) (s : State) : Done :=
  if r.addr % 0x1000 ≠ 0 ∨ 0x11000 ≤ r.addr then refused .badaddr s else
  let t := s.act (snapPage r.session (r.addr / 0x1000))
  ⟨t, .ok, 0, [(sessOf t.blk r.session).snapCnt.find (r.addr / 0x1000) 0]⟩

/-- The operation of an accepted request. -/
def graOperation (r : GraReq) (s : State) : Done := match r.op with
  | 1 => graRead r s
  | 4 => graSnap r s
  | _ => graWrite r s

/-- HELLO (R108, R111): the present counter, the host's nonce, and the highest accepted sequence. DESIGN CHOICE: 0 before the session
has accepted any (notes/assumptions/113.md). -/
def helloPayload (r : GraReq) (s : Sess) : List Nat :=
  [s.ctr % 2 ^ 32, s.ctr / 2 ^ 32 % 2 ^ 32, (r.payload[0]?).getD 0, (r.payload[1]?).getD 0, s.high.getD 0]

/-! ### A received request (R112) -/

/-- Step 5: the cached response goes out again, on the port of the copy (R114, R116). -/
def graAgain (port : Nat) (f : EthF) (c : CacheE) (e : Env) (b : Blk) : Blk := graSend e port f c.resp b

/-- Step 9: accepted, executed, answered and cached; its hold time counts from its first sending (R114). What STAGING cannot take now is answered BUSY instead: it is not executed,
not cached, and its sequence is not seen (R112, R116). -/
def graAccept (port : Nat) (f : EthF) (key : List Byte) (r : GraReq) (s : State) : State :=
  let ctr := (sessOf s.blk r.session).ctr
  let s1 := s.act (fun e b => svcTouch r.session e (modSess r.session (fun (x : Sess) =>
    { seqMark r.seq x with outs := insSet x.outs r.tag }) (finish .ok b)))
  let d := graOperation r s1
  if d.status = .busy then s.act (fun e b => (plainReply e port f key r .busy b).bump SYS_GRA_STAT_BUSY) else
  let resp := graResponse key ctr r d.status d.index d.payload d.st.blk
  d.st.act (fun e b =>
    let hold := ms (e.get SYS_GRA_CACHE_TIME_TIME)
    graSend e port f resp (modSess r.session (fun (x : Sess) =>
    { x with
      outs := x.outs.filter (fun t => t != r.tag)
      cache := liveCache e x ++ [⟨r.seq, r.tag, r.mac, resp, e.now + hold, hold, false⟩] }) b))

/-- Steps 5 to 9, for a request whose MAC is right. -/
def graHandle (port : Nat) (f : EthF) (key : List Byte) (r : GraReq) (s : State) : State :=
  let x := sessOf s.blk r.session
  let live := liveCache s.env x
  match live.find? (fun c => c.seq == r.seq && c.tag == r.tag) with
  | some c =>
    if c.mac = r.mac then s.act (graAgain port f c)
    else s.act (fun e b => plainReply e port f key r .conflict b)
  | none =>
    if ¬ seqNew x r.seq then s.act (fun e b =>
      raise e SRC_GRA_REPLAY 0 0 0 (authfailReply port f key r e (finish .authfail (b.bump SYS_GRA_STAT_REPLAY))))
    else if x.outs.contains r.tag then s.act (fun e b => plainReply e port f key r .conflict b)
    else if 16 ≤ x.outs.length ∨ 2048 ≤ live.length then
      s.act (fun e b => (plainReply e port f key r .busy b).bump SYS_GRA_STAT_BUSY)
    else graAccept port f key r s

/-- Steps 2 to 4: key, MAC, HELLO. -/
def graCheck (port : Nat) (f : EthF) (r : GraReq) (s : State) : State :=
  match keyOf s.blk (r.session + 1) with
  | none => s
  | some key =>
    let x := sessOf s.blk r.session
    if r.mac ≠ graMac key r.text (if r.op = 5 then 0 else x.ctr) then s.act (fun e b =>
      raise e SRC_GRA_AUTHFAIL 0 0 0 (authfailReply port f key r e (finish .authfail (b.bump SYS_GRA_STAT_AUTHFAIL))))
    else if r.op = 5 then s.act (fun e b =>
      graSend e port f (graResponse key x.ctr r .ok 0 (helloPayload r x) b) (finish .ok b))
    else graHandle port f key r s

/-- Requests are answered in service: not in a boot, not in HOLDUP, whose PHYs are off (R80, R472), and not before the boot's new
session counters are committed (R111). -/
def graServes (port : Nat) (b : Blk) : Bool :=
  b.running && !b.holdup && !b.keep.ctrWait && decide (port < 2) && b.get (PORT_LINK_UP port) == 1

/-- A frame that a port receives, taken as a GRA request of operation `op` (R106, R112, R395). A request of another operation
belongs to that operation's command. -/
def graFrame (op port : Nat) (frame : List Byte) (s : State) : State :=
  if ¬ graServes port s.blk then s else
  match ethParse frame with
  | none => s.act (fun _ b => b.bump (PORT_RX_ERR_HIGH port))
  | some f =>
    if f.etype ≠ 0x88B5 ∨ f.dst ≠ portMac s.blk port ∨ f.body.take 1 ≠ [1#8] then s.act (fun _ b => b.bump (PORT_RX_OTHER_HIGH port))
    else
      let got := s.act (fun _ b => b.bump (PORT_RX_CLASS_LOW port))
      match graParse f.body with
      | none => got.act (fun _ b => b.bump SYS_GRA_STAT_DISCARDED)
      | some r => if r.op = op then graCheck port f r got else s

/-- When the first entry of a session's cache ends. -/
def cacheTimer (session : Nat) (b : Blk) : Option Nat :=
  (sessOf b session).cache.foldl (fun (m : Option Nat) c => some (min c.until_ (m.getD c.until_))) none

/-- R114: cached responses are dropped at the end of their hold time. -/
def cacheExpiry (session : Nat) (e : Env) (b : Blk) : Blk :=
  modSess session (fun (x : Sess) => { x with cache := x.cache.filter (fun c => decide (e.now < c.until_)) }) b

/-! ### Event push (R359) -/

/-- A push message before its MAC. -/
def pushText (e : Env) (b : Blk) (rs : List Rec) : List Byte :=
  [3#8, 1#8] ++ leBytes 1 (e.get FAULT_PUSH_CFG_SESSION) ++ [0#8] ++ leBytes 4 (b.watch.pushSeq + 1) ++
    leBytes 1 rs.length ++ leBytes 1 (station b) ++ leBytes 2 (b.get SYS_STATE_EPOCH) ++ leBytes 2 b.watch.dropped ++
    [0#8, 0#8] ++ rs.flatMap Rec.bytes

/-- A push frame's port, from a port. -/
def pushSend (e : Env) (msg : List Byte) (port : Nat) (b : Blk) : Blk :=
  ethSend e port ⟨leBytes 4 (e.get FAULT_PUSH_DST_LO) ++ leBytes 2 (e.get FAULT_PUSH_DST_HI), portMac b port,
    some (e.get FAULT_PUSH_CFG_PCP, 0), 0x88B5, msg⟩ b

/-- Up to eight waiting records leave in one push on both ports, at most one push in a millisecond. -/
def eventPush (e : Env) (b : Blk) : Blk :=
  let s := e.get FAULT_PUSH_CFG_SESSION
  match keyOf b (s + 1) with
  | none => b
  | some key =>
    let soon : Bool := (b.watch.pushAt.map (fun t => decide (e.now < t + ms 1))).getD false
    if ¬ b.running ∨ b.holdup ∨ e.get FAULT_PUSH_CFG_EN = 0 ∨ b.watch.push.isEmpty ∨ soon then b else
    let text := pushText e b (b.watch.push.take 8)
    let msg := text ++ graMac key text (sessOf b s).ctr
    (pushSend e msg 1 (pushSend e msg 0 (modWatch (fun w => { w with
      push := w.push.drop 8, pushSeq := (w.pushSeq + 1) % 2 ^ 32, pushAt := some e.now }) b))).bump FAULT_PUSH_CNT_FRAMES

/-! ### The inspection port (R471) -/

/-- The port's answer: a status byte, and 32 data bits for a read. -/
def ipAnswer (st : Status) (data : List Nat) (b : Blk) : Blk :=
  data.foldl (fun (x : Blk) w => x.emit (.ip w)) ((finish st b).emit (.ip st.code))

/-- An access of the port: refused with DENIED outside the states that permit it, with BUSY in a warm boot. `f` answers with the
state, the status and the data. -/
def ipAccess (states : List Nat) (read : Bool) (f : State → State × Status × Nat) (s : State) : State :=
  if s.blk.get KEEP_STA_IP_EN = 0 ∨ s.blk.phase = .off then s
  else
    let none_ := if read then [0] else []
    if s.blk.phase = .warmBoot then { s with blk := ipAnswer .busy none_ s.blk }
    else if ¬ s.blk.running ∨ ¬ states.contains (ipState s.blk) then { s with blk := ipAnswer .denied none_ s.blk }
    else
      let (t, st, w) := f s
      { t with blk := ipAnswer st (if read then [if st = .ok then w else 0] else []) t.blk }

/-- Command 0x01: a register or window word. -/
def ipRead (a : Nat) (s : State) : State :=
  ipAccess [1, 2] true (fun s => if spanOk a 1 then (s, .ok, readWord s.env s.blk 4 a) else (s, .badaddr, 0)) s

/-- Command 0x02: a register write, judged as for a SOLO session. -/
def ipWrite (a v : Nat) (s : State) : State :=
  ipAccess [2] false (fun s =>
    if ¬ spanOk a 1 then (s, .badaddr, 0)
    else
      let t := writeOne 4 0 a v s
      (t, t.blk.lastStatus, 0)) s

/-- The trace: the records of the write cache, then those of the ingest slots (R354), word by word. -/
def traceWord (b : Blk) (n : Nat) : Nat :=
  let recs := b.watch.cache.map Prod.snd ++ ingFresh b.watch.ingest
  (((recs[n / 8]?).map Rec.words).bind (fun l => l[n % 8]?)).getD 0

/-- Command 0x03: a word of the trace. -/
def traceRead (n : Nat) (s : State) : State := ipAccess [1, 2] true (fun s => (s, .ok, traceWord s.blk n)) s

end Sys2Proof.Machine
end

