-- ==== Sys2Proof/Machine/AccessCommands.lean ====
section
/-! DEFINITION. Register access over GRA and the inspection port (files 04, 16). The meaning of each command. -/

namespace Sys2Proof.Machine

/-- GRA_READ (R108). -/
def execGraRead (dt : Nat) (port : Nat) (frame : List Byte) (s : State) : Host.Outcome State Fault Refusal :=
  cmd dt (graFrame 1 port frame) s

/-- GRA_WRITE (R101). -/
def execGraWrite (dt : Nat) (port : Nat) (frame : List Byte) (s : State) : Host.Outcome State Fault Refusal :=
  cmd dt (graFrame 2 port frame) s

/-- GRA_RMW (R108). -/
def execGraRmw (dt : Nat) (port : Nat) (frame : List Byte) (s : State) : Host.Outcome State Fault Refusal :=
  cmd dt (graFrame 3 port frame) s

/-- GRA_SNAP (R104). -/
def execGraSnap (dt : Nat) (port : Nat) (frame : List Byte) (s : State) : Host.Outcome State Fault Refusal :=
  cmd dt (graFrame 4 port frame) s

/-- GRA_HELLO (R111). -/
def execGraHello (dt : Nat) (port : Nat) (frame : List Byte) (s : State) : Host.Outcome State Fault Refusal :=
  cmd dt (graFrame 5 port frame) s

/-- GRA_CACHE_EXPIRY (R114). -/
def execGraCacheExpiry (dt : Nat) (session : Nat) (s : State) : Host.Outcome State Fault Refusal :=
  expire dt (cacheTimer session) (cacheExpiry session) s

/-- CTL_SNAP (R104). -/
def execCtlSnap (dt : Nat) (who : Nat) (page : Nat) (s : State) : Host.Outcome State Fault Refusal :=
  cmd dt (hostMasked who (0x1000 * page + 8) 2 2) s

/-- PAGE_LOCK (R100). -/
def execPageLock (dt : Nat) (who : Nat) (page : Nat) (key : Nat) (s : State) : Host.Outcome State Fault Refusal :=
  cmd dt (hostWrite who (0x1000 * page + 0x18) key) s

/-- REGISTER_WRITE (R101). -/
def execRegisterWrite (dt : Nat) (who : Nat) (addr : Nat) (value : Nat) (s : State) : Host.Outcome State Fault Refusal :=
  cmd dt (hostWrite who addr value) s

/-- STAGING_WRITE (R457). -/
def execStagingWrite (dt : Nat) (off : Nat) (ws : List Nat) (s : State) : Host.Outcome State Fault Refusal :=
  eng dt (stagingWrite off ws) s

/-- IP_READ (R471). -/
def execIpRead (dt : Nat) (addr : Nat) (s : State) : Host.Outcome State Fault Refusal :=
  cmd dt (ipRead addr) s

/-- IP_WRITE (R471). -/
def execIpWrite (dt : Nat) (addr : Nat) (value : Nat) (s : State) : Host.Outcome State Fault Refusal :=
  cmd dt (ipWrite addr value) s

/-- TRACE_READ (R471). -/
def execTraceRead (dt : Nat) (n : Nat) (s : State) : Host.Outcome State Fault Refusal :=
  cmd dt (traceRead n) s

/-- SCAN_ACCESS (R471). -/
def execScanAccess (dt : Nat) (s : State) : Host.Outcome State Fault Refusal :=
  pin dt scanAccess s

/-- IP_ENABLE (R471). -/
def execIpEnable (dt : Nat) (s : State) : Host.Outcome State Fault Refusal :=
  pin dt ipEnable s

/-- IP_RELEASE (R470). -/
def execIpRelease (dt : Nat) (s : State) : Host.Outcome State Fault Refusal :=
  pin dt ipRelease s

end Sys2Proof.Machine
end

