-- ==== Sys2Proof/Machine/ChainCommands.lean ====
section
/-! DEFINITION. Sweeps, the cell chain and its diagnosis (files 01, 06, 07). The meaning of each command. -/

namespace Sys2Proof.Machine

/-- SAMPLE_INSTANT (R153). -/
def execSampleInstant (dt : Nat) (nv : Int) (uv : Int) (v : List Int) (dqS : Int) (dqH : Int) (s : State) :
    Host.Outcome State Fault Refusal :=
  eng dt (sampleInstant nv uv v dqS dqH) s

/-- AUTO_INSTANT (R33). -/
def execAutoInstant (dt : Nat) (s : State) : Host.Outcome State Fault Refusal :=
  eng dt (mirrored autoInstant) s

/-- PORT_SILENT (R198). -/
def execPortSilent (dt : Nat) (port : Nat) (s : State) : Host.Outcome State Fault Refusal :=
  eng dt (portSilent port) s

/-- BREAK_NOTICE (R198). -/
def execBreakNotice (dt : Nat) (ring : Nat) (idx : Nat) (sideA : Bool) (s : State) : Host.Outcome State Fault Refusal :=
  eng dt (breakNotice ring idx sideA) s

/-- TONE_RECEIVED (R219). -/
def execToneReceived (dt : Nat) (p : Nat) (flags : Nat) (s : State) : Host.Outcome State Fault Refusal :=
  eng dt (toneReceived p flags) s

/-- ENUMERATE (R202). -/
def execEnumerate (dt : Nat) (s : State) : Host.Outcome State Fault Refusal :=
  eng dt enumerate s

/-- ENUM_COMPLETE (R201). -/
def execEnumComplete (dt : Nat) (found : List (Nat × Nat × Nat × Nat × Nat × Nat)) (thru : Option (List Nat)) (late : Bool) (s : State) :
    Host.Outcome State Fault Refusal :=
  eng dt (enumComplete found thru late) s

/-- ECHO_RECHECK (R204). -/
def execEchoRecheck (dt : Nat) (l : List (Nat × Nat × Nat × Nat)) (s : State) : Host.Outcome State Fault Refusal :=
  eng dt (echoRecheck l) s

/-- BEACON (R205). -/
def execBeacon (dt : Nat) (s : State) : Host.Outcome State Fault Refusal :=
  eng dt beacon s

/-- SYNC_EDGE (R207). -/
def execSyncEdge (dt : Nat) (s : State) : Host.Outcome State Fault Refusal :=
  eng dt syncEdge s

/-- SYNC_LOSS (R207). -/
def execSyncLoss (dt : Nat) (s : State) : Host.Outcome State Fault Refusal :=
  expire dt syncTimer syncLoss s

/-- SAMPLE_AT (R209). -/
def execSampleAt (dt : Nat) (s : State) : Host.Outcome State Fault Refusal :=
  eng dt (mirrored sampleAt) s

/-- SWEEP_DATA (R212). -/
def execSweepData (dt : Nat) (endB : Bool) (p : Nat) (isup : Option (Nat × Int)) (frame : List Byte) (s : State) :
    Host.Outcome State Fault Refusal :=
  eng dt (sweepDataTwin endB p isup frame) s

/-- COPY_OVERDUE (R212). -/
def execCopyOverdue (dt : Nat) (endB : Bool) (p : Nat) (s : State) : Host.Outcome State Fault Refusal :=
  eng dt (copyOverdue endB p) s

/-- RETRY_EXHAUSTED (R212). -/
def execRetryExhausted (dt : Nat) (p : Nat) (s : State) : Host.Outcome State Fault Refusal :=
  eng dt (retryExhausted p) s

/-- SWEEP_CLOSE (R213). -/
def execSweepClose (dt : Nat) (s : State) : Host.Outcome State Fault Refusal :=
  eng dt sweepCloseTwin s

/-- RAW_RECEIVE (R214). -/
def execRawReceive (dt : Nat) (frame : TwHdr × List Byte) (s : State) : Host.Outcome State Fault Refusal :=
  eng dt (rawReceive frame) s

/-- RING_REPAIR (R217). -/
def execRingRepair (dt : Nat) (ring : Nat) (found : List (Nat × Nat × Nat × Nat × Nat)) (s : State) :
    Host.Outcome State Fault Refusal :=
  eng dt (ringRepair ring found) s

/-- OPEN_WIRE_SLOT (R221). -/
def execOpenWireSlot (dt : Nat) (t : Nat) (s : State) : Host.Outcome State Fault Refusal :=
  eng dt (openWireSlot t) s

/-- OW_DEFERRED (R221). -/
def execOwDeferred (dt : Nat) (s : State) : Host.Outcome State Fault Refusal :=
  eng dt owDeferred s

/-- OPEN_WIRE_RESULT (R222). -/
def execOpenWireResult (dt : Nat) (rs : List (Nat × List (Nat × Nat) × Nat)) (s : State) : Host.Outcome State Fault Refusal :=
  eng dt (openWireResult rs) s

/-- AUTH_RESPONSE (R225). -/
def execAuthResponse (dt : Nat) (p : Nat) (serial : Nat) (mac : List Byte) (s : State) : Host.Outcome State Fault Refusal :=
  eng dt (authResponse p serial mac) s

/-- AUTH_TIMEOUT (R224). -/
def execAuthTimeout (dt : Nat) (p : Nat) (s : State) : Host.Outcome State Fault Refusal :=
  expire dt (authTimer p) (authTimeout p) s

/-- CONFIRM (R226). -/
def execConfirm (dt : Nat) (p : Nat) (s16 : Nat) (s : State) : Host.Outcome State Fault Refusal :=
  eng dt (confirmSerial p s16) s

/-- RETIRE (R227). -/
def execRetire (dt : Nat) (who : Nat) (p : Nat) (s : State) : Host.Outcome State Fault Refusal :=
  cmd dt (hostWrite who 0x609C (2 ^ 31 + p % 64)) s

/-- BURST (R228). -/
def execBurst (dt : Nat) (poss : List Nat) (t : Nat) (s : State) : Host.Outcome State Fault Refusal :=
  eng dt (burst poss t) s

/-- BURST_DATA (R241). -/
def execBurstData (dt : Nat) (p : Nat) (cells : List (Nat × List Nat)) (cur : List Int) (s : State) :
    Host.Outcome State Fault Refusal :=
  eng dt (burstData p cells cur) s

/-- PORT_CHIRP_RESTORED (R198). -/
def execPortChirpRestored (dt : Nat) (port : Nat) (s : State) : Host.Outcome State Fault Refusal :=
  eng dt (portRestored port) s

end Sys2Proof.Machine
end

