-- ==== Sys2Proof/Machine/IslandCommands.lean ====
section
/-! DEFINITION. The HV island: measurement, limits, insulation and the click path (file 06). The meaning of each command. -/

namespace Sys2Proof.Machine

/-- ISLAND_LINK_LOSS (R150). -/
def execIslandLinkLoss (dt : Nat) (s : State) : Host.Outcome State Fault Refusal :=
  eng dt islandLinkLoss s

/-- ISLAND_LINK_RESTORED (R150). -/
def execIslandLinkRestored (dt : Nat) (s : State) : Host.Outcome State Fault Refusal :=
  eng dt islandLinkRestored s

/-- ISLAND_LIMIT_LATCH (R151). -/
def execIslandLimitLatch (dt : Nat) (k : Nat) (x : Meas) (d : Nat) (s : State) : Host.Outcome State Fault Refusal :=
  pin dt (islandLimitLatch k x.v x.sat d) s

/-- OPEN_PATH_ZERO (R156). -/
def execOpenPathZero (dt : Nat) (res : Int × Int) (held : Nat) (s : State) : Host.Outcome State Fault Refusal :=
  eng dt (openPathZero res.1 res.2 held) s

/-- SHUNT_FAULT (R158). -/
def execShuntFault (dt : Nat) (uv : Int) (d : Nat) (still : Nat) (s : State) : Host.Outcome State Fault Refusal :=
  eng dt (shuntFault uv d still) s

/-- HALL_FAULT (R158). -/
def execHallFault (dt : Nat) (ma : Nat) (uv : Int) (d : Nat) (s : State) : Host.Outcome State Fault Refusal :=
  eng dt (hallFault ma uv d) s

/-- SHUNT_HALL_MISMATCH (R161). -/
def execShuntHallMismatch (dt : Nat) (shunt : Int) (hall : Int) (d : Nat) (s : State) : Host.Outcome State Fault Refusal :=
  eng dt (shuntHallMismatch shunt hall d) s

/-- SHUNT_HALL_MATCH_RESTORED (R161). -/
def execShuntHallMatchRestored (dt : Nat) (shunt : Int) (hall : Int) (d : Nat) (s : State) : Host.Outcome State Fault Refusal :=
  eng dt (shuntHallMatch shunt hall d) s

/-- MID_MISMATCH (R163). -/
def execMidMismatch (dt : Nat) (v : List Int) (d : Nat) (s : State) : Host.Outcome State Fault Refusal :=
  eng dt (midMismatch v d) s

/-- OVERCURRENT (R165). -/
def execOvercurrent (dt : Nat) (i : Int) (d : Nat) (s : State) : Host.Outcome State Fault Refusal :=
  eng dt (overcurrent i d) s

/-- DIDT (R165). -/
def execDidt (dt : Nat) (x : Int) (d : Nat) (s : State) : Host.Outcome State Fault Refusal :=
  eng dt (limitJudge SRC_DIDT 5 true x false d) s

/-- STRING_OV (R165). -/
def execStringOv (dt : Nat) (v : Meas) (d : Nat) (s : State) : Host.Outcome State Fault Refusal :=
  eng dt (limitJudge SRC_STRING_OV 2 true v.v v.sat d) s

/-- STRING_UV (R165). -/
def execStringUv (dt : Nat) (v : Meas) (d : Nat) (s : State) : Host.Outcome State Fault Refusal :=
  eng dt (limitJudge SRC_STRING_UV 3 false v.v v.sat d) s

/-- BUS_OV (R165). -/
def execBusOv (dt : Nat) (v : Meas) (d : Nat) (s : State) : Host.Outcome State Fault Refusal :=
  eng dt (limitJudge SRC_BUS_OV 4 true v.v v.sat d) s

/-- IMD_LISTEN_END (R169). -/
def execImdListenEnd (dt : Nat) (jump : Nat) (s : State) : Host.Outcome State Fault Refusal :=
  eng dt (imdListenEnd jump) s

/-- IMD_CYCLE_COMPLETE (R170). -/
def execImdCycleComplete (dt : Nat) (vp : Int) (vm : Int) (ip : Int) (im : Int) (capp : Nat) (capm : Nat) (s : State) :
    Host.Outcome State Fault Refusal :=
  eng dt (imdCycle vp vm ip im capp capm) s

/-- NTC_READ (R171). -/
def execNtcRead (dt : Nat) (a : Int) (c : Int) (s : State) : Host.Outcome State Fault Refusal :=
  eng dt (ntcRead a c) s

/-- LATCH_SET (R173). -/
def execLatchSet (dt : Nat) (lane : Nat) (sub : Nat) (s : State) : Host.Outcome State Fault Refusal :=
  pin dt (latchSet lane sub) s

/-- LANE_TEST (R177). -/
def execLaneTest (dt : Nat) (resp : Option Nat) (held : Bool) (meas : Int) (other : Bool) (s : State) :
    Host.Outcome State Fault Refusal :=
  eng dt (laneTest resp held meas other) s

/-- TRIP_CLK_LOSS (R180). -/
def execTripClkLoss (dt : Nat) (during : Option Nat) (s : State) : Host.Outcome State Fault Refusal :=
  eng dt (tripClkLoss during) s

/-- BK_FB_MISMATCH (R183). -/
def execBkFbMismatch (dt : Nat) (k : Nat) (fell : Bool) (d : Nat) (s : State) : Host.Outcome State Fault Refusal :=
  eng dt (bkFbMismatch k fell d) s

/-- CAPTURE_MANUAL (R187). -/
def execCaptureManual (dt : Nat) (s : State) : Host.Outcome State Fault Refusal :=
  eng dt captureManual s

/-- CAPTURE_FREEZE (R360). -/
def execCaptureFreeze (dt : Nat) (s : State) : Host.Outcome State Fault Refusal :=
  expire dt freezeTimer captureFreeze s

/-- CAPTURE_STORED (R360). -/
def execCaptureStored (dt : Nat) (s : State) : Host.Outcome State Fault Refusal :=
  eng dt captureStored s

/-- SAMP_CLK_LOSS (R91). -/
def execSampClkLoss (dt : Nat) (s : State) : Host.Outcome State Fault Refusal :=
  eng dt sampClkLoss s

/-- TRIP_CLK_RESTORED (R491). -/
def execTripClkRestored (dt : Nat) (s : State) : Host.Outcome State Fault Refusal :=
  eng dt tripClkRestored s

/-- CURRENT_INPUT_RESTORED (R158). -/
def execCurrentInputRestored (dt : Nat) (k : Nat) (s : State) : Host.Outcome State Fault Refusal :=
  eng dt (inputRestored k) s

end Sys2Proof.Machine
end

