-- ==== Sys2Proof/Machine/KeepCommands.lean ====
section
/-! DEFINITION. The image store, updates, keys and security (file 16). The meaning of each command. -/

namespace Sys2Proof.Machine

/-- STREAM_BEGIN (R457). -/
def execStreamBegin (dt : Nat) (s : State) : Host.Outcome State Fault Refusal :=
  eng dt streamBegin s

/-- STREAM_ABORT (R457). -/
def execStreamAbort (dt : Nat) (s : State) : Host.Outcome State Fault Refusal :=
  eng dt streamAbort s

/-- ACTIVATE (R460). -/
def execActivate (dt : Nat) (same : Bool) (handover : Bool) (cold : Bool) (s : State) : Host.Outcome State Fault Refusal :=
  eng dt (activate same handover cold) s

/-- ACTIVATION_TIMEOUT (R460). -/
def execActivationTimeout (dt : Nat) (s : State) : Host.Outcome State Fault Refusal :=
  expire dt activateTimer activationTimeout s

/-- PARAM_ADOPT (R454). -/
def execParamAdopt (dt : Nat) (s : State) : Host.Outcome State Fault Refusal :=
  eng dt paramAdopt s

/-- SEAL (R469). -/
def execSeal (dt : Nat) (s : State) : Host.Outcome State Fault Refusal :=
  eng dt sealCmd s

/-- SVC_REQUEST (R469). -/
def execSvcRequest (dt : Nat) (who : Nat) (s : State) : Host.Outcome State Fault Refusal :=
  eng dt (svcRequest who) s

/-- SVC_RESP (R469). -/
def execSvcResp (dt : Nat) (who : Nat) (ws : List Nat) (s : State) : Host.Outcome State Fault Refusal :=
  eng dt (svcResp who ws) s

/-- SVC_RESPONSE_TIMEOUT (R469). -/
def execSvcResponseTimeout (dt : Nat) (s : State) : Host.Outcome State Fault Refusal :=
  expire dt svcRespTimer svcResponseTimeout s

/-- SVC_BLOCK_END (R469). -/
def execSvcBlockEnd (dt : Nat) (s : State) : Host.Outcome State Fault Refusal :=
  expire dt svcBlockTimer svcBlockEnd s

/-- SVC_END (R470). -/
def execSvcEnd (dt : Nat) (who : Nat) (s : State) : Host.Outcome State Fault Refusal :=
  eng dt (svcEnd who) s

/-- SVC_TIMEOUT (R470). -/
def execSvcTimeout (dt : Nat) (s : State) : Host.Outcome State Fault Refusal :=
  expire dt svcTimer serviceEnd s

/-- KEY_WRITE (R467). -/
def execKeyWrite (dt : Nat) (who : Nat) (s : State) : Host.Outcome State Fault Refusal :=
  eng dt (keyWrite who) s

/-- KEY_ERASE (R467). -/
def execKeyErase (dt : Nat) (who : Nat) (s : State) : Host.Outcome State Fault Refusal :=
  eng dt (keyErase who) s

/-- RAISE_MIN_VERSION (R448). -/
def execRaiseMinVersion (dt : Nat) (s : State) : Host.Outcome State Fault Refusal :=
  eng dt raiseMinVersion s

/-- NV_SCRUB (R445). -/
def execNvScrub (dt : Nat) (line : Nat) (res : Nat) (s : State) : Host.Outcome State Fault Refusal :=
  eng dt (nvScrub line res) s

/-- PARAM_COMMIT_TIMER (R451). -/
def execParamCommitTimer (dt : Nat) (s : State) : Host.Outcome State Fault Refusal :=
  expire dt paramTimer paramCommitTimer s

end Sys2Proof.Machine
end

