-- ==== Sys2Proof/Machine/LedgerCommands.lean ====
section
/-! DEFINITION. The charge ledger and the charge shuttle (files 08, 09). The meaning of each command. -/

namespace Sys2Proof.Machine

/-- LIMIT_EXCEEDED (R254). -/
def execLimitExceeded (dt : Nat) (i : Int) (held : Nat) (s : State) : Host.Outcome State Fault Refusal :=
  eng dt (limitExceeded i held) s

/-- JOURNAL_PERIOD (R261). -/
def execJournalPeriod (dt : Nat) (s : State) : Host.Outcome State Fault Refusal :=
  expire dt (fun b => b.ledger.jrnAt) journalPeriod s

/-- CELL_CAP_WRITE (R259). -/
def execCellCapWrite (dt : Nat) (who : Nat) (n : Nat) (cap : Nat) (s : State) : Host.Outcome State Fault Refusal :=
  cmd dt (hostWrite who (0x100000 + 128 * n + 0x30) cap) s

/-- PLAN_CYCLE (R272). -/
def execPlanCycle (dt : Nat) (s : State) : Host.Outcome State Fault Refusal :=
  eng dt planCycleTwin s

/-- SH_ACK (R279). -/
def execShAck (dt : Nat) (ring : Nat) (endB : Bool) (p : Nat) (f : List Byte) (s : State) : Host.Outcome State Fault Refusal :=
  eng dt (shAckIn ring endB p f) s

/-- SH_STOPPED (R276). -/
def execShStopped (dt : Nat) (endB : Bool) (p : Nat) (f : List Byte) (s : State) : Host.Outcome State Fault Refusal :=
  eng dt (shStoppedIn endB p f) s

/-- SH_REPORT (R276). -/
def execShReport (dt : Nat) (endB : Bool) (p : Nat) (f : List Byte) (s : State) : Host.Outcome State Fault Refusal :=
  eng dt (shReportIn endB p f) s

/-- SH_REPORT_READ (R276). -/
def execShReportRead (dt : Nat) (p : Nat) (s : State) : Host.Outcome State Fault Refusal :=
  eng dt (shReportRead p) s

/-- ORDER_ACK_TIMEOUT (R279). -/
def execOrderAckTimeout (dt : Nat) (tid : Nat) (s : State) : Host.Outcome State Fault Refusal :=
  eng dt (orderAckTimeout tid) s

/-- SHUTTLE_DISABLE (R280). -/
def execShuttleDisable (dt : Nat) (who : Nat) (s : State) : Host.Outcome State Fault Refusal :=
  cmd dt (hostField who SHUTTLE_CTL_EN 0) s

/-- SPREAD_HIGH (R283). -/
def execSpreadHigh (dt : Nat) (s : State) : Host.Outcome State Fault Refusal :=
  eng dt spreadHigh s

end Sys2Proof.Machine
end

