-- ==== Sys2Proof/Machine/PortCommands.lean ====
section
/-! DEFINITION. The plant ports (file 14). The meaning of each command. -/

namespace Sys2Proof.Machine

/-- LINK_UP (R394). -/
def execLinkUp (dt : Nat) (p : Nat) (g25 : Bool) (g1 : Bool) (mdix : Bool) (pause : Bool) (snr : Nat) (cable : Nat) (s : State) :
    Host.Outcome State Fault Refusal :=
  eng dt (linkUp p g25 g1 mdix pause snr cable) s

/-- LINK_LOSS (R398). -/
def execLinkLoss (dt : Nat) (p : Nat) (s : State) : Host.Outcome State Fault Refusal :=
  eng dt (linkLoss p) s

/-- LINK_GRACE_END (R398). -/
def execLinkGraceEnd (dt : Nat) (p : Nat) (s : State) : Host.Outcome State Fault Refusal :=
  expire dt (graceTimer p) (linkGraceEnd p) s

/-- PORT_RESTART (R398). -/
def execPortRestart (dt : Nat) (p : Nat) (s : State) : Host.Outcome State Fault Refusal :=
  eng dt (portRestart p) s

/-- PAUSE_RX (R396). -/
def execPauseRx (dt : Nat) (p : Nat) (quanta : Nat) (s : State) : Host.Outcome State Fault Refusal :=
  eng dt (pauseRx p quanta) s

/-- PAUSE_REPEAT (R396). -/
def execPauseRepeat (dt : Nat) (p : Nat) (fill : Nat) (s : State) : Host.Outcome State Fault Refusal :=
  eng dt (pauseRepeat p fill) s

/-- FRAME_DISCARD (R395). -/
def execFrameDiscard (dt : Nat) (p : Nat) (frame : List Byte) (fcsOk : Bool) (fill : Nat) (s : State) :
    Host.Outcome State Fault Refusal :=
  eng dt (frameDiscard p frame fcsOk fill) s

/-- DESC_SCRUB (R399). -/
def execDescScrub (dt : Nat) (p : Nat) (bad : List (Option Nat)) (s : State) : Host.Outcome State Fault Refusal :=
  eng dt (descScrub p bad) s

end Sys2Proof.Machine
end

