-- ==== Sys2Proof/Machine/PowerCommands.lean ====
section
/-! DEFINITION. Supply, boot, hold-up, NV commits and clocks (files 03, 05, 16). The meaning of each command. -/

namespace Sys2Proof.Machine

/-- COLD_BOOT (R88). -/
def execColdBoot (dt : Nat) (pins : BootPins) (s : State) : Host.Outcome State Fault Refusal :=
  cmd dt (coldBoot pins) s

/-- BOOT_RESTART (R456). -/
def execBootRestart (dt : Nat) (bad : List Nat) (s : State) : Host.Outcome State Fault Refusal :=
  cmd dt (bootRestart bad) s

/-- BOOT_END (R89). -/
def execBootEnd (dt : Nat) (hold : Nat) (s : State) : Host.Outcome State Fault Refusal :=
  pin dt (bootEnd hold) s

/-- CAP_MEASURE_START (R74). -/
def execCapMeasureStart (dt : Nat) (s : State) : Host.Outcome State Fault Refusal :=
  pin dt capMeasureStart s

/-- CAP_MEASURE_COMPLETE (R74). -/
def execCapMeasureComplete (dt : Nat) (s : State) : Host.Outcome State Fault Refusal :=
  pin dt capMeasureComplete s

/-- CAP_REMEASURE (R77). -/
def execCapRemeasure (dt : Nat) (s : State) : Host.Outcome State Fault Refusal :=
  eng dt capRemeasure s

/-- HOLD_CHARGE_FAIL (R75). -/
def execHoldChargeFail (dt : Nat) (hold : Nat) (held : Nat) (s : State) : Host.Outcome State Fault Refusal :=
  pin dt (holdChargeFail hold held) s

/-- UNDERVOLTAGE_DETECTION (R80). -/
def execUndervoltageDetection (dt : Nat) (vin : Nat) (s : State) : Host.Outcome State Fault Refusal :=
  cmd dt (undervoltageDetection vin) s

/-- UNDERVOLTAGE_RELEASE (R82). -/
def execUndervoltageRelease (dt : Nat) (vin : Nat) (s : State) : Host.Outcome State Fault Refusal :=
  pin dt (undervoltageRelease vin) s

/-- RIDE_THROUGH_EXPIRY (R81). -/
def execRideThroughExpiry (dt : Nat) (s : State) : Host.Outcome State Fault Refusal :=
  expire dt rideTimer rideExpiry s

/-- OFF_ENTRY (R81). -/
def execOffEntry (dt : Nat) (s : State) : Host.Outcome State Fault Refusal :=
  cmd dt offEntry s

/-- HOLD_EXHAUSTION (R81). -/
def execHoldExhaustion (dt : Nat) (s : State) : Host.Outcome State Fault Refusal :=
  cmd dt holdExhaustion s

/-- POWER_CYCLE (R86). -/
def execPowerCycle (dt : Nat) (s : State) : Host.Outcome State Fault Refusal :=
  cmd dt powerCycle s

/-- VIN_HIGH (R94). -/
def execVinHigh (dt : Nat) (vin : Nat) (held : Nat) (s : State) : Host.Outcome State Fault Refusal :=
  pin dt (vinHigh vin held) s

/-- VCOIL_LOSS (R70). -/
def execVcoilLoss (dt : Nat) (v : Nat) (s : State) : Host.Outcome State Fault Refusal :=
  pin dt (vcoilLoss v) s

/-- RAIL_FAULT (R94). -/
def execRailFault (dt : Nat) (s : State) : Host.Outcome State Fault Refusal :=
  pin dt railFault s

/-- NV_COMMIT_START (R78). -/
def execNvCommitStart (dt : Nat) (hold : Nat) (s : State) : Host.Outcome State Fault Refusal :=
  eng dt (nvStart hold) s

/-- NV_COMMIT_COMPLETE (R79). -/
def execNvCommitComplete (dt : Nat) (fails : Bool) (s : State) : Host.Outcome State Fault Refusal :=
  eng dt (nvComplete fails) s

/-- COMMIT_ABANDONED (R79). -/
def execCommitAbandoned (dt : Nat) (hold : Nat) (s : State) : Host.Outcome State Fault Refusal :=
  eng dt (commitAbandoned hold) s

/-- REF_LOSS (R91). -/
def execRefLoss (dt : Nat) (s : State) : Host.Outcome State Fault Refusal :=
  pin dt refLoss s

/-- PLLC_UNLOCK (R91). -/
def execPllcUnlock (dt : Nat) (s : State) : Host.Outcome State Fault Refusal :=
  pin dt pllcUnlock s

/-- PLLN_UNLOCK (R91). -/
def execPllnUnlock (dt : Nat) (s : State) : Host.Outcome State Fault Refusal :=
  pin dt pllnUnlock s

/-- REF_COMP_UPDATE (R93). -/
def execRefCompUpdate (dt : Nat) (reading : Option Int) (s : State) : Host.Outcome State Fault Refusal :=
  eng dt (refComp reading) s

/-- WARM_BOOT (R462). -/
def execWarmBoot (dt : Nat) (s : State) : Host.Outcome State Fault Refusal :=
  eng dt warmBoot s

/-- RESUME (R145). -/
def execResume (dt : Nat) (sound : Bool) (s : State) : Host.Outcome State Fault Refusal :=
  cmd dt (resume sound) s

/-- VCOIL_RESTORED (R70). -/
def execVcoilRestored (dt : Nat) (v : Nat) (s : State) : Host.Outcome State Fault Refusal :=
  pin dt (vcoilRestored v) s

/-- HOLD_RECHARGED (R75). -/
def execHoldRecharged (dt : Nat) (s : State) : Host.Outcome State Fault Refusal :=
  pin dt holdRecharged s

end Sys2Proof.Machine
end

