-- ==== Sys2Proof/Machine/RackCommands.lean ====
section
/-! DEFINITION. The rack bus (file 15). The meaning of each command. -/

namespace Sys2Proof.Machine

/-- POLL_DUE (R430). -/
def execPollDue (dt : Nat) (n : Nat) (s : State) : Host.Outcome State Fault Refusal :=
  expire dt (dueTimer n) (pollDue n) s

/-- RACK_TRANSACTION_END (R432). -/
def execRackTransactionEnd (dt : Nat) (nack : Nat) (bytes : List Byte) (s : State) : Host.Outcome State Fault Refusal :=
  eng dt (rackEnd nack bytes) s

/-- ARBITRATION_LOSS (R435). -/
def execArbitrationLoss (dt : Nat) (s : State) : Host.Outcome State Fault Refusal :=
  eng dt arbitrationLoss s

/-- BACKOFF_END (R435). -/
def execBackoffEnd (dt : Nat) (s : State) : Host.Outcome State Fault Refusal :=
  expire dt backoffTimer backoffEnd s

/-- ALERT_SERVICE (R437). -/
def execAlertService (dt : Nat) (losses : Nat) (resp : Option (List Byte)) (still : Bool) (s : State) :
    Host.Outcome State Fault Refusal :=
  eng dt (alertService losses resp still) s

/-- ALERT_PAUSE_END (R437). -/
def execAlertPauseEnd (dt : Nat) (highMs : Nat) (s : State) : Host.Outcome State Fault Refusal :=
  expire dt alertTimer (alertPauseEnd highMs) s

/-- SCL_TIMEOUT (R438). -/
def execSclTimeout (dt : Nat) (s : State) : Host.Outcome State Fault Refusal :=
  eng dt sclTimeout s

/-- BUS_RECOVERY (R439). -/
def execBusRecovery (dt : Nat) (sdaLow : Bool) (released : Bool) (s : State) : Host.Outcome State Fault Refusal :=
  eng dt (busRecovery sdaLow released) s

/-- RECOVERY_HOLD_END (R439). -/
def execRecoveryHoldEnd (dt : Nat) (released : Bool) (s : State) : Host.Outcome State Fault Refusal :=
  expire dt holdLowTimer (recoveryHoldEnd released) s

/-- BUS_RETRY (R439). -/
def execBusRetry (dt : Nat) (released : Bool) (s : State) : Host.Outcome State Fault Refusal :=
  expire dt busRetryTimer (busRetry released) s

/-- RACK_DISABLE (R441). -/
def execRackDisable (dt : Nat) (who : Nat) (s : State) : Host.Outcome State Fault Refusal :=
  cmd dt (hostField who RACK_CTL_EN 0) s

/-- RACK_BUS_IDLE (R429). -/
def execRackBusIdle (dt : Nat) (s : State) : Host.Outcome State Fault Refusal :=
  eng dt busIdle s

end Sys2Proof.Machine
end

