-- ==== Sys2Proof/Machine/SafeCommands.lean ====
section
/-! DEFINITION. Safety inputs, outputs, coil checks and PSF (file 11). The meaning of each command. -/

namespace Sys2Proof.Machine

/-- SI_LEVEL_CHANGE (R302). -/
def execSiLevelChange (dt : Nat) (chs : List (Nat × Bool × Nat)) (s : State) : Host.Outcome State Fault Refusal :=
  eng dt (siLevelChange chs) s

/-- TPS_WINDOW_END (R304). -/
def execTpsWindowEnd (dt : Nat) (src : Nat) (rs : List TpsRead) (s : State) : Host.Outcome State Fault Refusal :=
  expire dt (tpsTimer src) (tpsWindowEnd src rs) s

/-- SI_DISCREPANCY (R308). -/
def execSiDiscrepancy (dt : Nat) (n : Nat) (s : State) : Host.Outcome State Fault Refusal :=
  expire dt (discTimer n) (siDiscrepancy n) s

/-- SI_FIRST_EVALUATION (R306). -/
def execSiFirstEvaluation (dt : Nat) (s : State) : Host.Outcome State Fault Refusal :=
  expire dt (fun b => b.safe.evalBy) siFirstEvaluation s

/-- EDGE_RESET (R312). -/
def execEdgeReset (dt : Nat) (s : State) : Host.Outcome State Fault Refusal :=
  eng dt edgeResetLocal s

/-- SRST_BLOCK (R310). -/
def execSrstBlock (dt : Nat) (s : State) : Host.Outcome State Fault Refusal :=
  eng dt srstBlock s

/-- SRST_FAULT (R310). -/
def execSrstFault (dt : Nat) (s : State) : Host.Outcome State Fault Refusal :=
  eng dt srstFault s

/-- SO_TEST_PULSE (R314). -/
def execSoTestPulse (dt : Nat) (n : Nat) (s : State) : Host.Outcome State Fault Refusal :=
  eng dt (soTestPulse n) s

/-- SO_READBACK_VIOLATION (R315). -/
def execSoReadbackViolation (dt : Nat) (n : Nat) (place : Nat) (run : Nat) (v : Nat) (s : State) :
    Host.Outcome State Fault Refusal :=
  eng dt (soReadback n place run v) s

/-- SO_TEST_NOW (R314). -/
def execSoTestNow (dt : Nat) (s : State) : Host.Outcome State Fault Refusal :=
  eng dt soTestNow s

/-- COIL_LS_TEST (R317). -/
def execCoilLsTest (dt : Nat) (k : Nat) (high : Bool) (low : Bool) (s : State) : Host.Outcome State Fault Refusal :=
  eng dt (coilLsTest k high low) s

/-- TPS_FAULT (R338). -/
def execTpsFault (dt : Nat) (src : Nat) (bad : Bool) (held : Nat) (s : State) : Host.Outcome State Fault Refusal :=
  eng dt (tpsFault src bad held) s

/-- PSF_STATUS_LAUNCH (R325). -/
def execPsfStatusLaunch (dt : Nat) (t : Nat) (s : State) : Host.Outcome State Fault Refusal :=
  eng dt (psfStatusLaunch t) s

/-- PSF_COMMAND (R326). -/
def execPsfCommand (dt : Nat) (port : Nat) (frame : List Byte) (s : State) : Host.Outcome State Fault Refusal :=
  eng dt (psfCommand port frame) s

/-- SKEW_WINDOW_CLOSE (R326). -/
def execSkewWindowClose (dt : Nat) (s : State) : Host.Outcome State Fault Refusal :=
  expire dt skewTimer skewMissing s

/-- PSF_WATCHDOG_EXPIRY (R328). -/
def execPsfWatchdogExpiry (dt : Nat) (s : State) : Host.Outcome State Fault Refusal :=
  expire dt wdTimer psfWatchdogExpiry s

/-- WATCHDOG_START (R330). -/
def execWatchdogStart (dt : Nat) (s : State) : Host.Outcome State Fault Refusal :=
  expire dt wdStartTimer watchdogStart s

/-- PSF_SINGLE_NET (R327). -/
def execPsfSingleNet (dt : Nat) (port : Nat) (s : State) : Host.Outcome State Fault Refusal :=
  eng dt (psfSingleNet port) s

/-- PSF_SINGLE_EXPIRED (R327). -/
def execPsfSingleExpired (dt : Nat) (s : State) : Host.Outcome State Fault Refusal :=
  expire dt (singleTimer s.env) psfSingleExpired s

/-- NET_RESTORED (R327). -/
def execNetRestored (dt : Nat) (s : State) : Host.Outcome State Fault Refusal :=
  eng dt netRestored s

/-- PCV_CONFIRM (R333). -/
def execPcvConfirm (dt : Nat) (v : Nat) (s : State) : Host.Outcome State Fault Refusal :=
  eng dt (pcvConfirm v) s

/-- PCV_RECOMPUTE (R332). -/
def execPcvRecompute (dt : Nat) (s : State) : Host.Outcome State Fault Refusal :=
  expire dt pcvTimer pcvForward s

/-- COIL_PWM_PERIOD (R317). -/
def execCoilPwmPeriod (dt : Nat) (k : Nat) (low : Bool) (high : Bool) (s : State) : Host.Outcome State Fault Refusal :=
  eng dt (coilPwmPeriod k low high) s

end Sys2Proof.Machine
end

