-- ==== Sys2Proof/Machine/SequenceCommands.lean ====
section
/-! DEFINITION. Modes, connect, disconnect, weld and coil tests (file 05). The meaning of each command. -/

namespace Sys2Proof.Machine

/-- CONNECT (R125). -/
def execConnect (dt : Nat) (s : State) : Host.Outcome State Fault Refusal :=
  eng dt connectDo s

/-- DISCONNECT (R135). -/
def execDisconnect (dt : Nat) (s : State) : Host.Outcome State Fault Refusal :=
  eng dt disconnectDo s

/-- ENTER_MAINT (R122). -/
def execEnterMaint (dt : Nat) (s : State) : Host.Outcome State Fault Refusal :=
  eng dt enterMaintDo s

/-- EXIT_MAINT (R122). -/
def execExitMaint (dt : Nat) (s : State) : Host.Outcome State Fault Refusal :=
  eng dt exitMaintDo s

/-- COMMISSION (R122). -/
def execCommission (dt : Nat) (s : State) : Host.Outcome State Fault Refusal :=
  eng dt commissionDo s

/-- WELD_TEST (R134). -/
def execWeldTest (dt : Nat) (s : State) : Host.Outcome State Fault Refusal :=
  eng dt weldTestDo s

/-- COIL_TEST (R120). -/
def execCoilTest (dt : Nat) (arg : Nat) (s : State) : Host.Outcome State Fault Refusal :=
  eng dt (coilTestDo arg) s

/-- COIL_TEST_END (R120). -/
def execCoilTestEnd (dt : Nat) (s : State) : Host.Outcome State Fault Refusal :=
  expire dt (fun b => b.seq.coilTestBy) coilTestEnd s

/-- ACK_INSPECT (R137). -/
def execAckInspect (dt : Nat) (arg : Nat) (s : State) : Host.Outcome State Fault Refusal :=
  eng dt (ackInspectDo arg) s

/-- FEEDBACK_CLOSED (R125). -/
def execFeedbackClosed (dt : Nat) (kp : Bool) (kn : Bool) (kc : Bool) (s : State) : Host.Outcome State Fault Refusal :=
  eng dt (feedbackClosed kp kn kc) s

/-- FEEDBACK_CLOSE_TIMEOUT (R129). -/
def execFeedbackCloseTimeout (dt : Nat) (s : State) : Host.Outcome State Fault Refusal :=
  expire dt (fun b => b.seq.fbBy) feedbackCloseTimeout s

/-- FEEDBACK_OPENED (R135). -/
def execFeedbackOpened (dt : Nat) (kp : Bool) (kn : Bool) (kc : Bool) (s : State) : Host.Outcome State Fault Refusal :=
  eng dt (feedbackOpened kp kn kc) s

/-- FEEDBACK_OPEN_TIMEOUT (R135). -/
def execFeedbackOpenTimeout (dt : Nat) (s : State) : Host.Outcome State Fault Refusal :=
  expire dt (fun b => b.seq.fbBy) feedbackOpenTimeout s

/-- FEEDBACK_LOST (R147). -/
def execFeedbackLost (dt : Nat) (kp : Bool) (kn : Bool) (kc : Bool) (s : State) : Host.Outcome State Fault Refusal :=
  eng dt (feedbackLost kp kn kc) s

/-- SSB_TEST_END (R130). -/
def execSsbTestEnd (dt : Nat) (bk : Bool) (maxI : Nat) (midp : Int) (hvp : Int) (midn : Int) (hvn : Int) (s : State) :
    Host.Outcome State Fault Refusal :=
  expire dt (fun b => b.seq.ssbTest) (ssbTestEnd bk maxI midp hvp midn hvn) s

/-- STAGGER_END (R125). -/
def execStaggerEnd (dt : Nat) (s : State) : Host.Outcome State Fault Refusal :=
  expire dt (fun b => b.seq.stagger.map Prod.fst) staggerEnd s

/-- PRECHARGE_HOLD_COMPLETE (R125). -/
def execPrechargeHoldComplete (dt : Nat) (dv : Int) (held : Nat) (peak : Nat) (s : State) : Host.Outcome State Fault Refusal :=
  eng dt (prechargeHold dv held peak) s

/-- PC_TIMEOUT (R129). -/
def execPcTimeout (dt : Nat) (peak : Nat) (s : State) : Host.Outcome State Fault Refusal :=
  expire dt (fun b => b.seq.pcBy) (pcTimeout peak) s

/-- PC_OVERCURRENT (R126). -/
def execPcOvercurrent (dt : Nat) (cur : Int) (dv : Int) (n : Nat) (peak : Nat) (s : State) : Host.Outcome State Fault Refusal :=
  eng dt (pcOvercurrent cur dv n peak) s

/-- PC_COOL_END (R127). -/
def execPcCoolEnd (dt : Nat) (s : State) : Host.Outcome State Fault Refusal :=
  expire dt (fun b => b.seq.coolBy) pcCoolEnd s

/-- PICK_END (R140). -/
def execPickEnd (dt : Nat) (k : Nat) (i : Nat) (s : State) : Host.Outcome State Fault Refusal :=
  expire dt (pickTimer k) (pickEnd k i) s

/-- HOLD_CURRENT_FAULT (R295). -/
def execHoldCurrentFault (dt : Nat) (k : Nat) (i : Nat) (held : Nat) (s : State) : Host.Outcome State Fault Refusal :=
  eng dt (holdCurrent k i held) s

/-- ZERO_CURRENT_CONFIRMED (R135). -/
def execZeroCurrentConfirmed (dt : Nat) (bk1 : Bool) (bk2 : Bool) (maxI : Nat) (n : Nat) (s : State) :
    Host.Outcome State Fault Refusal :=
  eng dt (zeroConfirmed bk1 bk2 maxI n) s

/-- DISCONNECT_CONFIRM_TIMEOUT (R137). -/
def execDisconnectConfirmTimeout (dt : Nat) (bk1 : Bool) (bk2 : Bool) (i : Int) (s : State) :
    Host.Outcome State Fault Refusal :=
  expire dt (fun b => b.seq.confirmBy) (disTimeout bk1 bk2 i) s

/-- WELD_PULSE_END (R132). -/
def execWeldPulseEnd (dt : Nat) (d : Int) (ee : Int) (midD : Int) (midE : Int) (bk : Bool) (kp : Bool) (kn : Bool) (kc : Bool) (s : State) :
    Host.Outcome State Fault Refusal :=
  expire dt (fun b => b.seq.pulseBy) (weldPulseEnd d ee midD midE bk kp kn kc) s

/-- WELD_RETRY (R134). -/
def execWeldRetry (dt : Nat) (s : State) : Host.Outcome State Fault Refusal :=
  expire dt (fun b => b.seq.weld.bind Weld.retryBy) weldRetry s

/-- WELD_WINDOW_END (R134). -/
def execWeldWindowEnd (dt : Nat) (s : State) : Host.Outcome State Fault Refusal :=
  expire dt (fun b => b.seq.weld.bind Weld.windowBy) weldWindowEnd s

/-- T_CTRL_EXPIRY (R343). -/
def execTCtrlExpiry (dt : Nat) (s : State) : Host.Outcome State Fault Refusal :=
  expire dt (fun b => b.seq.tctrl) tctrlExpiry s

/-- ZERO_CURRENT_REACHED (R136). -/
def execZeroCurrentReached (dt : Nat) (i : Int) (s : State) : Host.Outcome State Fault Refusal :=
  eng dt (zeroReached i) s

/-- PARTNER_RIDE_EXPIRY (R139). -/
def execPartnerRideExpiry (dt : Nat) (s : State) : Host.Outcome State Fault Refusal :=
  expire dt (fun b => b.seq.partnerRideBy) partnerRideExpiry s

end Sys2Proof.Machine
end

