-- ==== Sys2Proof/Machine/ThermCommands.lean ====
section
/-! DEFINITION. The thermal manager (file 10). The meaning of each command. -/

namespace Sys2Proof.Machine

/-- THERM_GROUP_EVAL (R286). -/
def execThermGroupEval (dt : Nat) (s : State) : Host.Outcome State Fault Refusal :=
  eng dt thermGroups s

/-- THERM_MODULE_EVAL (R295). -/
def execThermModuleEval (dt : Nat) (ts : List (Option Int)) (s : State) : Host.Outcome State Fault Refusal :=
  eng dt (moduleEval ts) s

/-- COIL_R_UPDATE (R296). -/
def execCoilRUpdate (dt : Nat) (k : Nat) (i : Nat) (s : State) : Host.Outcome State Fault Refusal :=
  eng dt (coilUpdate k i) s

/-- AON_THERMAL_CHECK (R294). -/
def execAonThermalCheck (dt : Nat) (s0 : Int) (s4 : Int) (s : State) : Host.Outcome State Fault Refusal :=
  pin dt (aonCheck s0 s4) s

end Sys2Proof.Machine
end

