-- ==== Sys2Proof/Machine/TimeCommands.lean ====
section
/-! DEFINITION. Time bases, launch queues, pulses and captures (file 13). The meaning of each command. -/

namespace Sys2Proof.Machine

/-- TB0_ADDEND_WRITE (R368). -/
def execTb0AddendWrite (dt : Nat) (who : Nat) (v : Nat) (s : State) : Host.Outcome State Fault Refusal :=
  cmd dt (hostWrite who 0x3060 v) s

/-- TB1_ADDEND_WRITE (R368). -/
def execTb1AddendWrite (dt : Nat) (who : Nat) (v : Nat) (s : State) : Host.Outcome State Fault Refusal :=
  cmd dt (hostWrite who 0x3064 v) s

/-- TB0_STEP (R370). -/
def execTb0Step (dt : Nat) (who : Nat) (v : Nat) (s : State) : Host.Outcome State Fault Refusal :=
  cmd dt (hostWrite who 0x3068 v) s

/-- TB0_WRAP (R366). -/
def execTb0Wrap (dt : Nat) (s : State) : Host.Outcome State Fault Refusal :=
  cmd dt tb0Wrap s

/-- PTP_RX (R375). -/
def execPtpRx (dt : Nat) (p : Nat) (frame : List Byte) (ns : Nat) (frac : Nat) (s : State) : Host.Outcome State Fault Refusal :=
  eng dt (ptpRx p frame ns frac) s

/-- PTPRX_POP (R375). -/
def execPtprxPop (dt : Nat) (p : Nat) (s : State) : Host.Outcome State Fault Refusal :=
  eng dt (ptpPop p) s

/-- LQ_PUSH (R378). -/
def execLqPush (dt : Nat) (who : Nat) (p : Nat) (w : Nat) (s : State) : Host.Outcome State Fault Refusal :=
  eng dt (lqPushDo who p w) s

/-- LQ_CANCEL (R384). -/
def execLqCancel (dt : Nat) (p : Nat) (tag : Nat) (s : State) : Host.Outcome State Fault Refusal :=
  eng dt (lqCancel p tag) s

/-- TXTS_POP (R383). -/
def execTxtsPop (dt : Nat) (p : Nat) (s : State) : Host.Outcome State Fault Refusal :=
  eng dt (txtsPop p) s

/-- LAUNCH_ARM (R380). -/
def execLaunchArm (dt : Nat) (p : Nat) (s : State) : Host.Outcome State Fault Refusal :=
  eng dt (launchArm p) s

/-- ENTRY_LAUNCH (R380). -/
def execEntryLaunch (dt : Nat) (p : Nat) (ns : Nat) (frac : Nat) (s : State) : Host.Outcome State Fault Refusal :=
  eng dt (entryLaunch p ns frac) s

/-- LAUNCH_MISSED (R381). -/
def execLaunchMissed (dt : Nat) (p : Nat) (s : State) : Host.Outcome State Fault Refusal :=
  eng dt (launchMissed p) s

/-- TP_GO (R386). -/
def execTpGo (dt : Nat) (who : Nat) (g : Nat) (s : State) : Host.Outcome State Fault Refusal :=
  cmd dt (hostMasked who (0x30D0 + 16 * g) 1 1) s

/-- TP_STOP (R386). -/
def execTpStop (dt : Nat) (who : Nat) (g : Nat) (s : State) : Host.Outcome State Fault Refusal :=
  cmd dt (hostMasked who (0x30D0 + 16 * g) 2 2) s

/-- TP_EDGE (R386). -/
def execTpEdge (dt : Nat) (g : Nat) (s : State) : Host.Outcome State Fault Refusal :=
  expire dt (tpTimer g) (tpEdge g) s

/-- TIN_EDGE (R389). -/
def execTinEdge (dt : Nat) (falling : Bool) (width : Nat) (s : State) : Host.Outcome State Fault Refusal :=
  eng dt (tinEdge falling width) s

/-- TIN_POP (R389). -/
def execTinPop (dt : Nat) (s : State) : Host.Outcome State Fault Refusal :=
  eng dt tinPop s

end Sys2Proof.Machine
end

