-- ==== Sys2Proof/Machine/TwinCommands.lean ====
section
/-! DEFINITION. The Twin Link, authority and fail-over (file 14). The meaning of each command. -/

namespace Sys2Proof.Machine

/-- REPLAY (R404). -/
def execReplay (dt : Nat) (k : Nat) (s : State) : Host.Outcome State Fault Refusal :=
  eng dt (replay k) s

/-- TWIN_LANE_FAIL (R404). -/
def execTwinLaneFail (dt : Nat) (k : Nat) (lockLost : Bool) (s : State) : Host.Outcome State Fault Refusal :=
  eng dt (twinLaneFail k lockLost) s

/-- LANE_RETRAIN (R404). -/
def execLaneRetrain (dt : Nat) (k : Nat) (lock : Bool) (s : State) : Host.Outcome State Fault Refusal :=
  eng dt (laneRetrain k lock) s

/-- LANE_RESTORE (R404). -/
def execLaneRestore (dt : Nat) (k : Nat) (s : State) : Host.Outcome State Fault Refusal :=
  expire dt (laneTimer k) (laneRestore k) s

/-- HEARTBEAT_SEND (R406). -/
def execHeartbeatSend (dt : Nat) (s : State) : Host.Outcome State Fault Refusal :=
  eng dt heartbeatSend s

/-- HEARTBEAT (R406). -/
def execHeartbeat (dt : Nat) (hdr : TwHdr) (bytes : List Byte) (s : State) : Host.Outcome State Fault Refusal :=
  eng dt (heartbeat hdr bytes) s

/-- FIREFLY_SEND (R407). -/
def execFireflySend (dt : Nat) (s : State) : Host.Outcome State Fault Refusal :=
  eng dt fireflySend s

/-- FIREFLY_CODE (R407). -/
def execFireflyCode (dt : Nat) (code : Nat) (pulse : Nat) (s : State) : Host.Outcome State Fault Refusal :=
  eng dt (fireflyCode code pulse) s

/-- PATH_LOST (R408). -/
def execPathLost (dt : Nat) (path : Nat) (s : State) : Host.Outcome State Fault Refusal :=
  eng dt (pathLost path) s

/-- PARTNER_SEEN_EXPIRY (R410). -/
def execPartnerSeenExpiry (dt : Nat) (s : State) : Host.Outcome State Fault Refusal :=
  expire dt seenTimer partnerSeenExpiry s

/-- WARM_BOOT_SUSPEND_END (R408). -/
def execWarmBootSuspendEnd (dt : Nat) (s : State) : Host.Outcome State Fault Refusal :=
  expire dt suspendTimer warmSuspendEnd s

/-- MIRROR (R412). -/
def execMirror (dt : Nat) (hdr : TwHdr) (m : Mirror) (s : State) : Host.Outcome State Fault Refusal :=
  eng dt (mirrorIn hdr m) s

/-- REG_RECEIVE (R415). -/
def execRegReceive (dt : Nat) (hdr : TwHdr) (r : RegPkt) (s : State) : Host.Outcome State Fault Refusal :=
  cmd dt (regIn hdr r) s

/-- BOOT_LISTEN_END (R416). -/
def execBootListenEnd (dt : Nat) (s : State) : Host.Outcome State Fault Refusal :=
  expire dt listenTimer bootListenEnd s

/-- TAKEOVER (R418). -/
def execTakeover (dt : Nat) (s : State) : Host.Outcome State Fault Refusal :=
  eng dt takeover s

/-- TAKEOVER_HOLD_END (R421). -/
def execTakeoverHoldEnd (dt : Nat) (s : State) : Host.Outcome State Fault Refusal :=
  expire dt holdEndTimer takeoverHoldEnd s

/-- ORPHAN_YIELD (R419). -/
def execOrphanYield (dt : Nat) (s : State) : Host.Outcome State Fault Refusal :=
  expire dt yieldTimer orphanYield s

/-- ORPHAN_RESUME (R419). -/
def execOrphanResume (dt : Nat) (s : State) : Host.Outcome State Fault Refusal :=
  expire dt resumeTimer orphanResume s

/-- HANDOVER (R423). -/
def execHandover (dt : Nat) (s : State) : Host.Outcome State Fault Refusal :=
  eng dt handover s

/-- HANDOVER_ABORT (R423). -/
def execHandoverAbort (dt : Nat) (s : State) : Host.Outcome State Fault Refusal :=
  eng dt handoverAbort s

/-- HANDOVER_REQUEST (R465). -/
def execHandoverRequest (dt : Nat) (s : State) : Host.Outcome State Fault Refusal :=
  expire dt handReqTimer handoverRequest s

/-- PARTNER_TB0_ADDEND (R411). -/
def execPartnerTb0Addend (dt : Nat) (who : Nat) (v : Nat) (s : State) : Host.Outcome State Fault Refusal :=
  cmd dt (hostWrite who 0xE070 v) s

/-- PARTNER_TB0_STEP (R411). -/
def execPartnerTb0Step (dt : Nat) (who : Nat) (v : Nat) (s : State) : Host.Outcome State Fault Refusal :=
  cmd dt (hostWrite who 0xE074 v) s

/-- PARTNER_BEACON (R410). -/
def execPartnerBeacon (dt : Nat) (port : Nat) (s : State) : Host.Outcome State Fault Refusal :=
  eng dt (partnerBeacon port) s

end Sys2Proof.Machine
end

