-- ==== Sys2Proof/Machine/WatchCommands.lean ====
section
/-! DEFINITION. Fault collection and the event recorder (file 12). The meaning of each command. -/

namespace Sys2Proof.Machine

/-- EVENT_HOLD_EXPIRY (R340). -/
def execEventHoldExpiry (dt : Nat) (src : Nat) (s : State) : Host.Outcome State Fault Refusal :=
  expire dt (holdTimer src) (eventHoldExpiry src) s

/-- ERR_RELEASE (R346). -/
def execErrRelease (dt : Nat) (s : State) : Host.Outcome State Fault Refusal :=
  eng dt errRelease s

/-- ERR_N_RELEASE (R346). -/
def execErrNRelease (dt : Nat) (s : State) : Host.Outcome State Fault Refusal :=
  eng dt errNRelease s

/-- FF_ACK (R350). -/
def execFfAck (dt : Nat) (v : Nat) (s : State) : Host.Outcome State Fault Refusal :=
  eng dt (ffAck v) s

/-- HOST_RAISE (R365). -/
def execHostRaise (dt : Nat) (src : Nat) (code : Nat) (d0 : Nat) (s : State) : Host.Outcome State Fault Refusal :=
  eng dt (hostRaise src code d0) s

/-- REACT_WRITE (R342). -/
def execReactWrite (dt : Nat) (who : Nat) (n : Nat) (high : Bool) (v : Nat) (s : State) : Host.Outcome State Fault Refusal :=
  cmd dt (hostWrite who (0xB800 + 8 * n + (if high then 4 else 0)) v) s

/-- LOG_COMMIT (R356). -/
def execLogCommit (dt : Nat) (s : State) : Host.Outcome State Fault Refusal :=
  expire dt (fun b => b.watch.logAt) logCommit s

/-- LOG_LOOKUP (R357). -/
def execLogLookup (dt : Nat) (who : Nat) (v : Nat) (s : State) : Host.Outcome State Fault Refusal :=
  eng dt (logLookup who v) s

/-- ANCHOR_TB0 (R358). -/
def execAnchorTb0 (dt : Nat) (v : Nat) (s : State) : Host.Outcome State Fault Refusal :=
  eng dt (anchorTb0 v) s

/-- EVENT_PUSH (R359). -/
def execEventPush (dt : Nat) (s : State) : Host.Outcome State Fault Refusal :=
  eng dt eventPush s

end Sys2Proof.Machine
end

