-- ==== Sys2Proof/Machine/Dispatch.lean ====
section
/-! DEFINITION. The command's meaning, one arm per constructor. -/

namespace Sys2Proof.Machine

def exec (i : Instr) (s : State) : Host.Outcome State Fault Refusal :=
  match i with
  | .coldBoot dt pins => Sys2Proof.Machine.execColdBoot dt pins s
  | .bootRestart dt bad => Sys2Proof.Machine.execBootRestart dt bad s
  | .bootEnd dt hold => Sys2Proof.Machine.execBootEnd dt hold s
  | .capMeasureStart dt => Sys2Proof.Machine.execCapMeasureStart dt s
  | .capMeasureComplete dt => Sys2Proof.Machine.execCapMeasureComplete dt s
  | .capRemeasure dt => Sys2Proof.Machine.execCapRemeasure dt s
  | .holdChargeFail dt hold held => Sys2Proof.Machine.execHoldChargeFail dt hold held s
  | .undervoltageDetection dt vin => Sys2Proof.Machine.execUndervoltageDetection dt vin s
  | .undervoltageRelease dt vin => Sys2Proof.Machine.execUndervoltageRelease dt vin s
  | .rideThroughExpiry dt => Sys2Proof.Machine.execRideThroughExpiry dt s
  | .offEntry dt => Sys2Proof.Machine.execOffEntry dt s
  | .holdExhaustion dt => Sys2Proof.Machine.execHoldExhaustion dt s
  | .powerCycle dt => Sys2Proof.Machine.execPowerCycle dt s
  | .vinHigh dt vin held => Sys2Proof.Machine.execVinHigh dt vin held s
  | .vcoilLoss dt v => Sys2Proof.Machine.execVcoilLoss dt v s
  | .railFault dt => Sys2Proof.Machine.execRailFault dt s
  | .nvCommitStart dt hold => Sys2Proof.Machine.execNvCommitStart dt hold s
  | .nvCommitComplete dt fails => Sys2Proof.Machine.execNvCommitComplete dt fails s
  | .commitAbandoned dt hold => Sys2Proof.Machine.execCommitAbandoned dt hold s
  | .refLoss dt => Sys2Proof.Machine.execRefLoss dt s
  | .pllcUnlock dt => Sys2Proof.Machine.execPllcUnlock dt s
  | .pllnUnlock dt => Sys2Proof.Machine.execPllnUnlock dt s
  | .refCompUpdate dt reading => Sys2Proof.Machine.execRefCompUpdate dt reading s
  | .warmBoot dt => Sys2Proof.Machine.execWarmBoot dt s
  | .resume dt sound => Sys2Proof.Machine.execResume dt sound s
  | .graRead dt port frame => Sys2Proof.Machine.execGraRead dt port frame s
  | .graWrite dt port frame => Sys2Proof.Machine.execGraWrite dt port frame s
  | .graRmw dt port frame => Sys2Proof.Machine.execGraRmw dt port frame s
  | .graSnap dt port frame => Sys2Proof.Machine.execGraSnap dt port frame s
  | .graHello dt port frame => Sys2Proof.Machine.execGraHello dt port frame s
  | .graCacheExpiry dt session => Sys2Proof.Machine.execGraCacheExpiry dt session s
  | .ctlSnap dt who page => Sys2Proof.Machine.execCtlSnap dt who page s
  | .pageLock dt who page key => Sys2Proof.Machine.execPageLock dt who page key s
  | .registerWrite dt who addr value => Sys2Proof.Machine.execRegisterWrite dt who addr value s
  | .stagingWrite dt off ws => Sys2Proof.Machine.execStagingWrite dt off ws s
  | .connect dt => Sys2Proof.Machine.execConnect dt s
  | .disconnect dt => Sys2Proof.Machine.execDisconnect dt s
  | .enterMaint dt => Sys2Proof.Machine.execEnterMaint dt s
  | .exitMaint dt => Sys2Proof.Machine.execExitMaint dt s
  | .commission dt => Sys2Proof.Machine.execCommission dt s
  | .weldTest dt => Sys2Proof.Machine.execWeldTest dt s
  | .coilTest dt arg => Sys2Proof.Machine.execCoilTest dt arg s
  | .coilTestEnd dt => Sys2Proof.Machine.execCoilTestEnd dt s
  | .ackInspect dt arg => Sys2Proof.Machine.execAckInspect dt arg s
  | .feedbackClosed dt kp kn kc => Sys2Proof.Machine.execFeedbackClosed dt kp kn kc s
  | .feedbackCloseTimeout dt => Sys2Proof.Machine.execFeedbackCloseTimeout dt s
  | .feedbackOpened dt kp kn kc => Sys2Proof.Machine.execFeedbackOpened dt kp kn kc s
  | .feedbackOpenTimeout dt => Sys2Proof.Machine.execFeedbackOpenTimeout dt s
  | .feedbackLost dt kp kn kc => Sys2Proof.Machine.execFeedbackLost dt kp kn kc s
  | .ssbTestEnd dt bk maxI midp hvp midn hvn => Sys2Proof.Machine.execSsbTestEnd dt bk maxI midp hvp midn hvn s
  | .staggerEnd dt => Sys2Proof.Machine.execStaggerEnd dt s
  | .prechargeHoldComplete dt dv held peak => Sys2Proof.Machine.execPrechargeHoldComplete dt dv held peak s
  | .pcTimeout dt peak => Sys2Proof.Machine.execPcTimeout dt peak s
  | .pcOvercurrent dt cur dv n peak => Sys2Proof.Machine.execPcOvercurrent dt cur dv n peak s
  | .pcCoolEnd dt => Sys2Proof.Machine.execPcCoolEnd dt s
  | .pickEnd dt k cur => Sys2Proof.Machine.execPickEnd dt k cur s
  | .holdCurrentFault dt k cur held => Sys2Proof.Machine.execHoldCurrentFault dt k cur held s
  | .zeroCurrentConfirmed dt bk1 bk2 maxI n => Sys2Proof.Machine.execZeroCurrentConfirmed dt bk1 bk2 maxI n s
  | .disconnectConfirmTimeout dt bk1 bk2 cur => Sys2Proof.Machine.execDisconnectConfirmTimeout dt bk1 bk2 cur s
  | .weldPulseEnd dt d ee midD midE bk kp kn kc => Sys2Proof.Machine.execWeldPulseEnd dt d ee midD midE bk kp kn kc s
  | .weldRetry dt => Sys2Proof.Machine.execWeldRetry dt s
  | .weldWindowEnd dt => Sys2Proof.Machine.execWeldWindowEnd dt s
  | .tCtrlExpiry dt => Sys2Proof.Machine.execTCtrlExpiry dt s
  | .zeroCurrentReached dt cur => Sys2Proof.Machine.execZeroCurrentReached dt cur s
  | .partnerRideExpiry dt => Sys2Proof.Machine.execPartnerRideExpiry dt s
  | .sampleInstant dt nv uv v dqS dqH => Sys2Proof.Machine.execSampleInstant dt nv uv v dqS dqH s
  | .autoInstant dt => Sys2Proof.Machine.execAutoInstant dt s
  | .islandLinkLoss dt => Sys2Proof.Machine.execIslandLinkLoss dt s
  | .islandLinkRestored dt => Sys2Proof.Machine.execIslandLinkRestored dt s
  | .islandLimitLatch dt k x d => Sys2Proof.Machine.execIslandLimitLatch dt k x d s
  | .openPathZero dt res held => Sys2Proof.Machine.execOpenPathZero dt res held s
  | .shuntFault dt uv d still => Sys2Proof.Machine.execShuntFault dt uv d still s
  | .hallFault dt ma uv d => Sys2Proof.Machine.execHallFault dt ma uv d s
  | .shuntHallMismatch dt shunt hall d => Sys2Proof.Machine.execShuntHallMismatch dt shunt hall d s
  | .shuntHallMatchRestored dt shunt hall d => Sys2Proof.Machine.execShuntHallMatchRestored dt shunt hall d s
  | .midMismatch dt v d => Sys2Proof.Machine.execMidMismatch dt v d s
  | .overcurrent dt cur d => Sys2Proof.Machine.execOvercurrent dt cur d s
  | .didt dt x d => Sys2Proof.Machine.execDidt dt x d s
  | .stringOv dt v d => Sys2Proof.Machine.execStringOv dt v d s
  | .stringUv dt v d => Sys2Proof.Machine.execStringUv dt v d s
  | .busOv dt v d => Sys2Proof.Machine.execBusOv dt v d s
  | .imdListenEnd dt jump => Sys2Proof.Machine.execImdListenEnd dt jump s
  | .imdCycleComplete dt vp vm ip im capp capm => Sys2Proof.Machine.execImdCycleComplete dt vp vm ip im capp capm s
  | .ntcRead dt a c => Sys2Proof.Machine.execNtcRead dt a c s
  | .latchSet dt lane sub => Sys2Proof.Machine.execLatchSet dt lane sub s
  | .laneTest dt resp held meas other => Sys2Proof.Machine.execLaneTest dt resp held meas other s
  | .tripClkLoss dt during => Sys2Proof.Machine.execTripClkLoss dt during s
  | .bkFbMismatch dt k fell d => Sys2Proof.Machine.execBkFbMismatch dt k fell d s
  | .captureManual dt => Sys2Proof.Machine.execCaptureManual dt s
  | .captureFreeze dt => Sys2Proof.Machine.execCaptureFreeze dt s
  | .captureStored dt => Sys2Proof.Machine.execCaptureStored dt s
  | .portSilent dt port => Sys2Proof.Machine.execPortSilent dt port s
  | .breakNotice dt ring idx sideA => Sys2Proof.Machine.execBreakNotice dt ring idx sideA s
  | .toneReceived dt p flags => Sys2Proof.Machine.execToneReceived dt p flags s
  | .enumerate dt => Sys2Proof.Machine.execEnumerate dt s
  | .enumComplete dt found thru late => Sys2Proof.Machine.execEnumComplete dt found thru late s
  | .echoRecheck dt l => Sys2Proof.Machine.execEchoRecheck dt l s
  | .beacon dt => Sys2Proof.Machine.execBeacon dt s
  | .syncEdge dt => Sys2Proof.Machine.execSyncEdge dt s
  | .syncLoss dt => Sys2Proof.Machine.execSyncLoss dt s
  | .sampleAt dt => Sys2Proof.Machine.execSampleAt dt s
  | .sweepData dt endB p isup frame => Sys2Proof.Machine.execSweepData dt endB p isup frame s
  | .copyOverdue dt endB p => Sys2Proof.Machine.execCopyOverdue dt endB p s
  | .retryExhausted dt p => Sys2Proof.Machine.execRetryExhausted dt p s
  | .sweepClose dt => Sys2Proof.Machine.execSweepClose dt s
  | .rawReceive dt frame => Sys2Proof.Machine.execRawReceive dt frame s
  | .ringRepair dt ring found => Sys2Proof.Machine.execRingRepair dt ring found s
  | .openWireSlot dt t => Sys2Proof.Machine.execOpenWireSlot dt t s
  | .owDeferred dt => Sys2Proof.Machine.execOwDeferred dt s
  | .openWireResult dt rs => Sys2Proof.Machine.execOpenWireResult dt rs s
  | .authResponse dt p serial mac => Sys2Proof.Machine.execAuthResponse dt p serial mac s
  | .authTimeout dt p => Sys2Proof.Machine.execAuthTimeout dt p s
  | .confirm dt p s16 => Sys2Proof.Machine.execConfirm dt p s16 s
  | .retire dt who p => Sys2Proof.Machine.execRetire dt who p s
  | .burst dt poss t => Sys2Proof.Machine.execBurst dt poss t s
  | .burstData dt p cells cur => Sys2Proof.Machine.execBurstData dt p cells cur s
  | .limitExceeded dt cur held => Sys2Proof.Machine.execLimitExceeded dt cur held s
  | .journalPeriod dt => Sys2Proof.Machine.execJournalPeriod dt s
  | .cellCapWrite dt who n cap => Sys2Proof.Machine.execCellCapWrite dt who n cap s
  | .planCycle dt => Sys2Proof.Machine.execPlanCycle dt s
  | .shAck dt ring endB p f => Sys2Proof.Machine.execShAck dt ring endB p f s
  | .shStopped dt endB p f => Sys2Proof.Machine.execShStopped dt endB p f s
  | .shReport dt endB p f => Sys2Proof.Machine.execShReport dt endB p f s
  | .shReportRead dt p => Sys2Proof.Machine.execShReportRead dt p s
  | .orderAckTimeout dt tid => Sys2Proof.Machine.execOrderAckTimeout dt tid s
  | .shuttleDisable dt who => Sys2Proof.Machine.execShuttleDisable dt who s
  | .spreadHigh dt => Sys2Proof.Machine.execSpreadHigh dt s
  | .thermGroupEval dt => Sys2Proof.Machine.execThermGroupEval dt s
  | .thermModuleEval dt ts => Sys2Proof.Machine.execThermModuleEval dt ts s
  | .coilRUpdate dt k cur => Sys2Proof.Machine.execCoilRUpdate dt k cur s
  | .aonThermalCheck dt s0 s4 => Sys2Proof.Machine.execAonThermalCheck dt s0 s4 s
  | .siLevelChange dt chs => Sys2Proof.Machine.execSiLevelChange dt chs s
  | .tpsWindowEnd dt src rs => Sys2Proof.Machine.execTpsWindowEnd dt src rs s
  | .siDiscrepancy dt n => Sys2Proof.Machine.execSiDiscrepancy dt n s
  | .siFirstEvaluation dt => Sys2Proof.Machine.execSiFirstEvaluation dt s
  | .edgeReset dt => Sys2Proof.Machine.execEdgeReset dt s
  | .srstBlock dt => Sys2Proof.Machine.execSrstBlock dt s
  | .srstFault dt => Sys2Proof.Machine.execSrstFault dt s
  | .soTestPulse dt n => Sys2Proof.Machine.execSoTestPulse dt n s
  | .soReadbackViolation dt n place run v => Sys2Proof.Machine.execSoReadbackViolation dt n place run v s
  | .soTestNow dt => Sys2Proof.Machine.execSoTestNow dt s
  | .coilLsTest dt k high low => Sys2Proof.Machine.execCoilLsTest dt k high low s
  | .tpsFault dt src bad held => Sys2Proof.Machine.execTpsFault dt src bad held s
  | .psfStatusLaunch dt t => Sys2Proof.Machine.execPsfStatusLaunch dt t s
  | .psfCommand dt port frame => Sys2Proof.Machine.execPsfCommand dt port frame s
  | .skewWindowClose dt => Sys2Proof.Machine.execSkewWindowClose dt s
  | .psfWatchdogExpiry dt => Sys2Proof.Machine.execPsfWatchdogExpiry dt s
  | .watchdogStart dt => Sys2Proof.Machine.execWatchdogStart dt s
  | .psfSingleNet dt port => Sys2Proof.Machine.execPsfSingleNet dt port s
  | .psfSingleExpired dt => Sys2Proof.Machine.execPsfSingleExpired dt s
  | .netRestored dt => Sys2Proof.Machine.execNetRestored dt s
  | .pcvConfirm dt v => Sys2Proof.Machine.execPcvConfirm dt v s
  | .pcvRecompute dt => Sys2Proof.Machine.execPcvRecompute dt s
  | .eventHoldExpiry dt src => Sys2Proof.Machine.execEventHoldExpiry dt src s
  | .errRelease dt => Sys2Proof.Machine.execErrRelease dt s
  | .errNRelease dt => Sys2Proof.Machine.execErrNRelease dt s
  | .ffAck dt v => Sys2Proof.Machine.execFfAck dt v s
  | .hostRaise dt src code d0 => Sys2Proof.Machine.execHostRaise dt src code d0 s
  | .reactWrite dt who n high v => Sys2Proof.Machine.execReactWrite dt who n high v s
  | .logCommit dt => Sys2Proof.Machine.execLogCommit dt s
  | .logLookup dt who v => Sys2Proof.Machine.execLogLookup dt who v s
  | .anchorTb0 dt v => Sys2Proof.Machine.execAnchorTb0 dt v s
  | .eventPush dt => Sys2Proof.Machine.execEventPush dt s
  | .tb0AddendWrite dt who v => Sys2Proof.Machine.execTb0AddendWrite dt who v s
  | .tb1AddendWrite dt who v => Sys2Proof.Machine.execTb1AddendWrite dt who v s
  | .tb0Step dt who v => Sys2Proof.Machine.execTb0Step dt who v s
  | .tb0Wrap dt => Sys2Proof.Machine.execTb0Wrap dt s
  | .ptpRx dt p frame ns frac => Sys2Proof.Machine.execPtpRx dt p frame ns frac s
  | .ptprxPop dt p => Sys2Proof.Machine.execPtprxPop dt p s
  | .lqPush dt who p w => Sys2Proof.Machine.execLqPush dt who p w s
  | .lqCancel dt p tag => Sys2Proof.Machine.execLqCancel dt p tag s
  | .txtsPop dt p => Sys2Proof.Machine.execTxtsPop dt p s
  | .launchArm dt p => Sys2Proof.Machine.execLaunchArm dt p s
  | .entryLaunch dt p ns frac => Sys2Proof.Machine.execEntryLaunch dt p ns frac s
  | .launchMissed dt p => Sys2Proof.Machine.execLaunchMissed dt p s
  | .tpGo dt who g => Sys2Proof.Machine.execTpGo dt who g s
  | .tpStop dt who g => Sys2Proof.Machine.execTpStop dt who g s
  | .tpEdge dt g => Sys2Proof.Machine.execTpEdge dt g s
  | .tinEdge dt falling width => Sys2Proof.Machine.execTinEdge dt falling width s
  | .tinPop dt => Sys2Proof.Machine.execTinPop dt s
  | .linkUp dt p g25 g1 mdix pause snr cable => Sys2Proof.Machine.execLinkUp dt p g25 g1 mdix pause snr cable s
  | .linkLoss dt p => Sys2Proof.Machine.execLinkLoss dt p s
  | .linkGraceEnd dt p => Sys2Proof.Machine.execLinkGraceEnd dt p s
  | .portRestart dt p => Sys2Proof.Machine.execPortRestart dt p s
  | .pauseRx dt p quanta => Sys2Proof.Machine.execPauseRx dt p quanta s
  | .pauseRepeat dt p fill => Sys2Proof.Machine.execPauseRepeat dt p fill s
  | .frameDiscard dt p frame fcsOk fill => Sys2Proof.Machine.execFrameDiscard dt p frame fcsOk fill s
  | .descScrub dt p bad => Sys2Proof.Machine.execDescScrub dt p bad s
  | .replay dt k => Sys2Proof.Machine.execReplay dt k s
  | .twinLaneFail dt k lockLost => Sys2Proof.Machine.execTwinLaneFail dt k lockLost s
  | .laneRetrain dt k lock => Sys2Proof.Machine.execLaneRetrain dt k lock s
  | .laneRestore dt k => Sys2Proof.Machine.execLaneRestore dt k s
  | .heartbeatSend dt => Sys2Proof.Machine.execHeartbeatSend dt s
  | .heartbeat dt hdr bytes => Sys2Proof.Machine.execHeartbeat dt hdr bytes s
  | .fireflySend dt => Sys2Proof.Machine.execFireflySend dt s
  | .fireflyCode dt code pulse => Sys2Proof.Machine.execFireflyCode dt code pulse s
  | .pathLost dt path => Sys2Proof.Machine.execPathLost dt path s
  | .partnerSeenExpiry dt => Sys2Proof.Machine.execPartnerSeenExpiry dt s
  | .warmBootSuspendEnd dt => Sys2Proof.Machine.execWarmBootSuspendEnd dt s
  | .mirror dt hdr m => Sys2Proof.Machine.execMirror dt hdr m s
  | .regReceive dt hdr r => Sys2Proof.Machine.execRegReceive dt hdr r s
  | .bootListenEnd dt => Sys2Proof.Machine.execBootListenEnd dt s
  | .takeover dt => Sys2Proof.Machine.execTakeover dt s
  | .takeoverHoldEnd dt => Sys2Proof.Machine.execTakeoverHoldEnd dt s
  | .orphanYield dt => Sys2Proof.Machine.execOrphanYield dt s
  | .orphanResume dt => Sys2Proof.Machine.execOrphanResume dt s
  | .handover dt => Sys2Proof.Machine.execHandover dt s
  | .handoverAbort dt => Sys2Proof.Machine.execHandoverAbort dt s
  | .handoverRequest dt => Sys2Proof.Machine.execHandoverRequest dt s
  | .partnerTb0Addend dt who v => Sys2Proof.Machine.execPartnerTb0Addend dt who v s
  | .partnerTb0Step dt who v => Sys2Proof.Machine.execPartnerTb0Step dt who v s
  | .pollDue dt n => Sys2Proof.Machine.execPollDue dt n s
  | .rackTransactionEnd dt nack bytes => Sys2Proof.Machine.execRackTransactionEnd dt nack bytes s
  | .arbitrationLoss dt => Sys2Proof.Machine.execArbitrationLoss dt s
  | .backoffEnd dt => Sys2Proof.Machine.execBackoffEnd dt s
  | .alertService dt losses resp still => Sys2Proof.Machine.execAlertService dt losses resp still s
  | .alertPauseEnd dt highMs => Sys2Proof.Machine.execAlertPauseEnd dt highMs s
  | .sclTimeout dt => Sys2Proof.Machine.execSclTimeout dt s
  | .busRecovery dt sdaLow released => Sys2Proof.Machine.execBusRecovery dt sdaLow released s
  | .recoveryHoldEnd dt released => Sys2Proof.Machine.execRecoveryHoldEnd dt released s
  | .busRetry dt released => Sys2Proof.Machine.execBusRetry dt released s
  | .rackDisable dt who => Sys2Proof.Machine.execRackDisable dt who s
  | .streamBegin dt => Sys2Proof.Machine.execStreamBegin dt s
  | .streamAbort dt => Sys2Proof.Machine.execStreamAbort dt s
  | .activate dt same handover cold => Sys2Proof.Machine.execActivate dt same handover cold s
  | .activationTimeout dt => Sys2Proof.Machine.execActivationTimeout dt s
  | .paramAdopt dt => Sys2Proof.Machine.execParamAdopt dt s
  | .seal dt => Sys2Proof.Machine.execSeal dt s
  | .svcRequest dt who => Sys2Proof.Machine.execSvcRequest dt who s
  | .svcResp dt who ws => Sys2Proof.Machine.execSvcResp dt who ws s
  | .svcResponseTimeout dt => Sys2Proof.Machine.execSvcResponseTimeout dt s
  | .svcBlockEnd dt => Sys2Proof.Machine.execSvcBlockEnd dt s
  | .svcEnd dt who => Sys2Proof.Machine.execSvcEnd dt who s
  | .svcTimeout dt => Sys2Proof.Machine.execSvcTimeout dt s
  | .ipRelease dt => Sys2Proof.Machine.execIpRelease dt s
  | .keyWrite dt who => Sys2Proof.Machine.execKeyWrite dt who s
  | .keyErase dt who => Sys2Proof.Machine.execKeyErase dt who s
  | .raiseMinVersion dt => Sys2Proof.Machine.execRaiseMinVersion dt s
  | .ipRead dt addr => Sys2Proof.Machine.execIpRead dt addr s
  | .ipWrite dt addr value => Sys2Proof.Machine.execIpWrite dt addr value s
  | .traceRead dt n => Sys2Proof.Machine.execTraceRead dt n s
  | .scanAccess dt => Sys2Proof.Machine.execScanAccess dt s
  | .nvScrub dt line res => Sys2Proof.Machine.execNvScrub dt line res s
  | .paramCommitTimer dt => Sys2Proof.Machine.execParamCommitTimer dt s
  | .vcoilRestored dt v => Sys2Proof.Machine.execVcoilRestored dt v s
  | .holdRecharged dt => Sys2Proof.Machine.execHoldRecharged dt s
  | .sampClkLoss dt => Sys2Proof.Machine.execSampClkLoss dt s
  | .tripClkRestored dt => Sys2Proof.Machine.execTripClkRestored dt s
  | .currentInputRestored dt k => Sys2Proof.Machine.execCurrentInputRestored dt k s
  | .portChirpRestored dt port => Sys2Proof.Machine.execPortChirpRestored dt port s
  | .partnerBeacon dt port => Sys2Proof.Machine.execPartnerBeacon dt port s
  | .coilPwmPeriod dt k low high => Sys2Proof.Machine.execCoilPwmPeriod dt k low high s
  | .ipEnable dt => Sys2Proof.Machine.execIpEnable dt s
  | .rackBusIdle dt => Sys2Proof.Machine.execRackBusIdle dt s

end Sys2Proof.Machine
end

