-- ==== Sys2Proof/Safety.lean ====
section
/-! DEFINITION. What counts as a sound state of the module, which commands may change its settings, and how a write is judged, in
the terms the statements use. -/

namespace Sys2Proof.Machine

/-- The time bases stay within their counters (R366): 32 bits of nanoseconds and 24 bits of fraction, and the wrap tally
within 32 bits. -/
def Clock.Sound (c : Clock) : Prop := c.tb0 < 2 ^ 56 ∧ c.tb1 < 2 ^ 56 ∧ c.tb2 < 2 ^ 56 ∧ c.wrap < 2 ^ 32

/-- The counters lie in their widths and the settings have their one canonical form. -/
def State.Sound (s : State) : Prop := s.clk.Sound ∧ s.par.wf

/-- The commands that may change settings: the boots and what ends in OFF, the writes of the host and of the inspection port, and
the packets that an ACTIVE forwards (R101, R411, R415, R451 to R453). -/
def setsSettings : Instr → Bool
  | .coldBoot .. | .bootRestart .. | .undervoltageDetection .. | .offEntry .. | .holdExhaustion .. | .powerCycle .. => true
  | .resume .. | .graWrite .. | .graRmw .. | .registerWrite .. | .ipWrite .. | .regReceive .. => true
  | .ctlSnap .. | .pageLock .. | .retire .. | .cellCapWrite .. | .shuttleDisable .. | .rackDisable .. | .reactWrite .. => true
  | .tb0AddendWrite .. | .tb1AddendWrite .. | .tb0Step .. | .tpGo .. | .tpStop .. | .partnerTb0Addend .. => true
  | .partnerTb0Step .. => true
  | _ => false

/-- How the words of an operation are judged (R101, R102): none where all pass, else the place and the status of the first that
fails. Every word is judged on the state as it stands. -/
def State.judged (who epoch : Nat) (ws : List WWord) (s : State) : Option (Nat × Status) :=
  firstFail (judgeWord who epoch s.env { s.env with par := parWords s.env s.blk ws } s.blk
    ((ws.filter (fun w => inPage w.addr)).foldl (fun (x : Blk) w => staWord s.env x w) s.blk)) 0 ws

/-- The word of a whole write. -/
def WWord.whole (a v : Nat) : WWord := ⟨a, 0xFFFFFFFF, v⟩

/-- The registers whose refused write shows the refusal (R120): SAFE.SEQ_CMD, TWIN.CMD and KEEP.CMD. -/
def showsRefusal (a : Nat) : Bool := a == 0xA200 || a == 0xE040 || a == 0x10040

/-- A queue of NV requests in the order of R79. -/
def nvOrdered (l : List NvJob) : Prop := l.Pairwise (fun j k => j.prio ≤ k.prio)

end Sys2Proof.Machine
end

