-- ==== Sys2Proof/Certificates/Slice0/Obligations.lean ====
section
/-! DEFINITION. The statements about the model, for the provers. -/

open Sys2Proof Sys2Proof.Machine

/-- The block takes its commands first in, first out: with a command at the front of the queue, a step is that command's
effect on the state with the queue's rest. -/
def Obligations.StepRunsTheFrontCommand : Prop :=
  ∀ (s : State) (i : Instr) (rest : List Instr),
    step { s with pending := i :: rest } = exec i { s with pending := rest }

/-- With no command waiting, one CORE period of 5 ns passes: the three time bases move by their effective addends (R366),
TB0's passes through zero are counted in the wrap tally, and nothing else changes but the state that a new CORE cycle
starts from (R104). In OFF the time bases stand still (R367) and only the count of VIN absence goes on (R86). That an
empty queue is a tick is the model's choice (notes/assumptions/2.md). -/
def Obligations.IdleStepsLetTimePass : Prop :=
  (∀ (s : State),
    s.pending = [] →
    s.blk.phase ≠ .off →
    ∃ t, step s = .next t ∧ t.clk = ⟨s.clk.now + 1, (s.clk.tb0 + effAddend s.par s.blk 0) % 2 ^ 56, (s.clk.tb1 + effAddend s.par s.blk 1) % 2 ^ 56,
       (s.clk.tb2 + effAddend s.par s.blk 2) % 2 ^ 56, (s.clk.wrap + (s.clk.tb0 + effAddend s.par s.blk 0) / 2 ^ 56) % 2 ^ 32, s.clk.away⟩ ∧
       t.par = s.par ∧ t.blk = s.blk ∧ t.pending = [] ∧ t.start = (t.clk, s.blk)) ∧
  (∀ (s : State),
    s.pending = [] →
    s.blk.phase = .off →
    ∃ t, step s = .next t ∧ t.clk = { s.clk with away := s.clk.away + 1 } ∧ t.par = s.par ∧ t.blk = s.blk ∧ t.pending = [] ∧ t.start = (t.clk, s.blk))

/-- The spec gives every command an effect, a refusal with a status, or none; so every command answers a next state, on
every state. What a command's own refusal leaves is said in the statements about that command. -/
def Obligations.EveryCommandCompletes : Prop :=
  ∀ (s : State) (i : Instr), ∃ t, exec i s = .next t

/-- Commands come from outside only: carrying one out adds no command to the queue and removes none. This is a choice of
the model's interface, in which the queue belongs to the senders. -/
def Obligations.CommandsLeaveTheQueue : Prop :=
  ∀ (s t : State) (i : Instr),
    exec i s = .next t →
    t.pending = s.pending

/-- Whatever command is carried out, boots and OFF included, the count of CORE periods by which the model times its
deadlines does not fall; outside OFF a command's own time passes in full. The count is the model's own
(notes/assumptions/1.md). -/
def Obligations.TimeNeverGoesBack : Prop :=
  ∀ (s t : State),
    step s = .next t →
    s.clk.now ≤ t.clk.now

/-- The RW and RWL settings of the register map are changed only by the writes of a host or of the inspection port (R101),
by the boots and by what ends in OFF (R451 to R453, R462), and on a STANDBY by what the ACTIVE forwards (R411, R415).
Every other command leaves every setting as it was. -/
def Obligations.SettingsChangeOnlyByWritesBootsAndForwarding : Prop :=
  ∀ (s t : State) (i : Instr),
    setsSettings i = false →
    exec i s = .next t →
    t.par = s.par

/-- An invariant of every step: TB0, TB1 and TB2 stay 56-bit counters and the wrap tally a u32 (R366), and the settings
stay listed once each, in rising order, so that equal settings are equal data. It is kept from every state that has
it, through boots, writes, time steps, packets and OFF. -/
def Obligations.SettingsAndClocksStaySound : Prop :=
  ∀ (s t : State),
    s.Sound →
    step s = .next t →
    t.Sound

/-- At reset the module has no supply: it is in OFF, with no setting listed, so that each has its reset value; the
counters and the tally are 0; every page is locked; no key is stored and the security state is OPEN (R468); no command
waits. The factory content of the model's State.reset is its own choice where the spec gives none (NOTES.md,
Assumptions). -/
def Obligations.ResetIsSound : Prop :=
  
    State.reset.Sound ∧ State.reset.pending = [] ∧ State.reset.blk.phase = .off ∧ State.reset.par = [] ∧ State.reset.clk = ⟨0, 0, 0, 0, 0, 0⟩ ∧ State.reset.blk.unlocked = [] ∧ State.reset.blk.keep.sec = .opened ∧
       State.reset.blk.keep.keys = [] ∧ State.reset.env.get TIME_TB0_ADDEND = 0x05000000 ∧ State.reset.env.get FAULT_T_CTRL = 2000 ∧ State.reset.env.get SYS_GRA_CACHE_TIME_TIME = 400

/-- TB1 and TB2 are never stepped (R366, R371): every command leaves each of them where the passing of some whole number
of CORE periods brings it, or, at a cold boot and in OFF, at 0 (R367). -/
def Obligations.TimeBasesOneAndTwoAreNeverStepped : Prop :=
  ∀ (s t : State) (i : Instr),
    s.clk.Sound →
    exec i s = .next t →
    (∃ n, t.clk.tb1 = (s.elapse n).clk.tb1 ∧ t.clk.tb2 = (s.elapse n).clk.tb2) ∨ (t.clk.tb1 = 0 ∧ t.clk.tb2 = 0)

/-- R368 whole: a host write of TB0_ADDEND or TB1_ADDEND is taken in every mode and state in which GRA is answered,
whether or not the page is locked; from the next CORE tick on the base moves by the written value, plus its trim
(R369); a changed value outside 0x04FF5C29 to 0x0500A3D7 is refused with CONFLICT and changes nothing. A STANDBY takes
no write of them (R117, R411), so the statement is about the other modules. Commands that it says complete:
tb0AddendWrite, tb1AddendWrite. -/
def Obligations.AddendsAreWritableInEveryMode : Prop :=
  (∀ (s : State) (dt who v : Nat),
    s.blk.running = true →
    s.blk.holdup = false →
    s.blk.role ≠ .standby →
    0x04FF5C29 ≤ v →
    v ≤ 0x0500A3D7 →
    ∃ t u, exec (.tb0AddendWrite dt who v) s = .next t ∧ exec (.tb1AddendWrite dt who v) s = .next u ∧ t.blk.lastStatus = .ok ∧ u.blk.lastStatus = .ok ∧
       t.env.get TIME_TB0_ADDEND = v ∧ u.env.get TIME_TB1_ADDEND = v ∧
       (t.elapse 1).clk.tb0 = (t.clk.tb0 + ((v : Int) + (TIME_TB_TRIM 0).val (t.blk.get (TIME_TB_TRIM 0))).toNat) % 2 ^ 56 ∧
       (u.elapse 1).clk.tb1 = (u.clk.tb1 + ((v : Int) + (TIME_TB_TRIM 1).val (u.blk.get (TIME_TB_TRIM 1))).toNat) % 2 ^ 56) ∧
  (∀ (s : State) (dt who v : Nat),
    s.blk.running = true →
    s.blk.holdup = false →
    s.blk.role ≠ .standby →
    (v < 0x04FF5C29 ∨ 0x0500A3D7 < v) →
    v < 2 ^ 32 →
    (v ≠ s.env.get TIME_TB0_ADDEND → exec (.tb0AddendWrite dt who v) s = .next ((s.begin dt).act fun _ b => finish .conflict b)) ∧
       (v ≠ s.env.get TIME_TB1_ADDEND → exec (.tb1AddendWrite dt who v) s = .next ((s.begin dt).act fun _ b => finish .conflict b)))

/-- R102: where a word of a WRITE or RMW fails, no word of the operation is written; the answer (its bytes 18 and 19)
carries the status of the first failing word and, as INDEX, the word's place from 0. Where every word passes, all of
them take effect in the one transition, judged on the state it starts from. A refused word of SAFE.SEQ_CMD, TWIN.CMD
or KEEP.CMD shows its refusal in its own registers (R120), and nothing else changes then either; the STAGING window,
which takes its words as one stream, is apart (R457). -/
def Obligations.WritesTakeEffectInFullOrNotAtAll : Prop :=
  (∀ (s : State) (r : GraReq) (n : Nat) (st : Status),
    spanOk r.addr r.count = true →
    ¬ (0x800000 ≤ r.addr ∧ r.addr < 0x900000) →
    s.judged r.session r.epoch (graWWords r) = some (n, st) →
    (graWrite r s).status = st ∧ st ≠ .ok ∧ (graWrite r s).index = n ∧ (graWrite r s).st.par = s.par ∧ (graWrite r s).st.clk = s.clk ∧
       ((graWWords r).any (fun w => showsRefusal w.addr) = false → (graWrite r s).st = { s with blk := finish st s.blk })) ∧
  (∀ (s : State) (r : GraReq),
    spanOk r.addr r.count = true →
    ¬ (0x800000 ≤ r.addr ∧ r.addr < 0x900000) →
    s.judged r.session r.epoch (graWWords r) = none →
    (graWrite r s).st = applyWords r.session (graWWords r) s ∧ (graWrite r s).st.par = parWords s.env s.blk (graWWords r) ∧ (graWrite r s).index = 0 ∧
       ((graWWords r).any (fun w => w.addr == 0x3068) = false → (graWrite r s).status = .ok)) ∧
  (∀ (r : GraReq) (st : Status) (index : Nat) (payload : List Nat) (b : Blk),
    st ≠ .ok →
    (graText r st index payload b).length = 24 ∧ (graText r st index payload b)[18]? = some (BitVec.ofNat 8 st.code) ∧ (graText r st index payload b)[19]? = some (BitVec.ofNat 8 index))

/-- The rules of R101, in their order, for a host's write of one whole word: an undecoded address (R95) gives BADADDR; an
RWL field on a locked page LOCKED; a STANDBY DENIED outside the registers of R117; an RWL field in a mode that does
not permit it DENIED; a value against a range or a rule between settings CONFLICT. In each case nothing but the status
changes. A write of MU_OWN or TPx_CTL in the cycle of entry to CONNECTING is DENIED (R388). A write to a reserved
offset of a page (R15, R97) is ignored with OK. Commands that it says complete: registerWrite. -/
def Obligations.RefusedRegisterWritesChangeNothing : Prop :=
  (∀ (s : State) (dt who a v n : Nat) (st : Status),
    s.blk.running = true →
    s.blk.holdup = false →
    a % 4 = 0 →
    showsRefusal a = false →
    (s.begin dt).judged who 0 [WWord.whole a v] = some (n, st) →
    exec (.registerWrite dt who a v) s = .next ((s.begin dt).act fun _ b => finish st b)) ∧
  (∀ (s : State) (dt who a v : Nat),
    s.blk.running = true →
    s.blk.holdup = false →
    (a % 4 ≠ 0 ∨ (0x11000 ≤ a ∧ a < 0x100000) ∨ (0x112000 ≤ a ∧ a < 0x140000) ∨ (0x142800 ≤ a ∧ a < 0x200000) ∨ (0x600000 ≤ a ∧ a < 0x800000) ∨ 0x900000 ≤ a) →
    exec (.registerWrite dt who a v) s = .next ((s.begin dt).act fun _ b => finish .badaddr b)) ∧
  (∀ (s : State) (dt who a v : Nat),
    s.blk.running = true →
    s.blk.holdup = false →
    a % 4 = 0 →
    a < 0x11000 →
    showsRefusal a = false →
    (wordFlds a).any (fun f => (WWord.whole a v).covers f && f.locked) = true →
    s.blk.unlocked.contains (a / 0x1000) = false →
    (s.begin dt).start.2.mode = s.blk.mode →
    exec (.registerWrite dt who a v) s = .next ((s.begin dt).act fun _ b => finish .locked b)) ∧
  (∀ (s : State) (dt who a v : Nat),
    s.blk.running = true →
    s.blk.holdup = false →
    s.blk.role = .standby →
    who < 4 →
    a % 4 = 0 →
    a < 0x11000 →
    showsRefusal a = false →
    standbyMay a = false →
    (wordFlds a).any (fun f => (WWord.whole a v).covers f && f.locked) = false →
    exec (.registerWrite dt who a v) s = .next ((s.begin dt).act fun _ b => finish .denied b)) ∧
  (∀ (s : State) (dt who a v : Nat),
    s.blk.running = true →
    s.blk.holdup = false →
    a % 4 = 0 →
    a < 0x11000 →
    showsRefusal a = false →
    (wordFlds a).any (fun f => (WWord.whole a v).covers f && f.locked) = true →
    s.blk.unlocked.contains (a / 0x1000) = true →
    modeMay s.blk.mode a = false →
    exec (.registerWrite dt who a v) s = .next ((s.begin dt).act fun _ b => finish .denied b)) ∧
  (∀ (s : State) (who a v : Nat),
    s.blk.running = true →
    s.blk.holdup = false →
    (a = 0x30C0 ∨ a = 0x30D0 ∨ a = 0x30E0) →
    s.blk.mode = .connecting →
    s.start.2.mode ≠ .connecting →
    s.start.2.unlocked.contains 3 = true →
    exec (.registerWrite 0 who a v) s = .next ((s.begin 0).act fun _ b => finish .denied b))

/-- Offsets 0x020 to 0x03F are reserved in every page (R97), so they read as 0 and a write of any value to them is ignored
with OK (R14, R15, R101), on a module that is neither STANDBY nor, for the TWIN page, outside TWIN. The settings and
the clock stay. Commands that it says complete: registerWrite. -/
def Obligations.ReservedOffsetsReadZeroAndIgnoreWrites : Prop :=
  (∀ (e : Env) (b : Blk) (who page k : Nat),
    page ≤ 16 →
    k < 8 →
    readWord e b who (0x1000 * page + 0x20 + 4 * k) = 0) ∧
  (∀ (s : State) (dt who page k v : Nat),
    s.blk.running = true →
    s.blk.holdup = false →
    s.blk.role ≠ .standby →
    page ≤ 16 →
    k < 8 →
    ∃ t, exec (.registerWrite dt who (0x1000 * page + 0x20 + 4 * k) v) s = .next t ∧ t.blk.lastStatus = .ok ∧ t.par = s.par ∧ t.clk = (s.begin dt).clk ∧ t.blk.sta = s.blk.sta ∧ t.blk.mode = s.blk.mode)

/-- Locks (R100): a change of SYS.MODE locks every page; LOCK takes a write in every mode, role and lock state, and its
key unlocks unless the mode changed in that cycle (R103); a word that covers no RWL field of its page is never refused
with LOCKED. Commands that it says complete: pageLock, registerWrite. -/
def Obligations.LocksGovernOnlyLockedFields : Prop :=
  (∀ (e : Env) (m : Mode) (b : Blk),
    b.mode ≠ m →
    (setMode e m b).mode = m ∧ (setMode e m b).prev = b.mode ∧ (setMode e m b).unlocked = []) ∧
  (∀ (s : State) (dt who page : Nat),
    s.blk.running = true →
    s.blk.holdup = false →
    page ≤ 16 →
    ∃ t, exec (.pageLock dt who page 0x4C4B) s = .next t ∧ t.blk.lastStatus = .ok ∧ ((s.begin dt).start.2.mode = s.blk.mode → t.blk.unlocked.contains page = true)) ∧
  (∀ (s : State) (dt who a v : Nat),
    s.blk.running = true →
    s.blk.holdup = false →
    a % 4 = 0 →
    a < 0x11000 →
    showsRefusal a = false →
    (wordFlds a).any (fun f => (WWord.whole a v).covers f && f.locked) = false →
    actionWord who (WWord.whole a v) = none →
    ∃ t, exec (.registerWrite dt who a v) s = .next t ∧ t.blk.lastStatus ≠ .locked)

/-- R105 whole: after a SNAP of the LEDGER page the issuing session reads, at each wide word of each of the 576 CELL
records, the value it had at the start of the SNAP's CORE cycle (R104); after a SNAP of any other page, what a session
has latched of the windows is as before. Commands that it says complete: ctlSnap. -/
def Obligations.SnapsLatchTheirPageForTheirSession : Prop :=
  (∀ (s : State) (dt who n off x : Nat),
    s.blk.running = true →
    s.blk.holdup = false →
    s.blk.role ≠ .standby →
    who < 4 →
    who < s.blk.sess.length →
    n < 576 →
    cellWide (s.begin dt).start.2 n off = some x →
    x < 2 ^ 32 →
    ∃ t, exec (.ctlSnap dt who 7) s = .next t ∧ t.blk.lastStatus = .ok ∧ (sessOf t.blk who).snaps.find (0x100000 + 128 * n + off) 0 = x ∧ readWord t.env t.blk who (0x100000 + 128 * n + off) = x) ∧
  (∀ (s : State) (dt who page a k : Nat),
    s.blk.running = true →
    s.blk.holdup = false →
    s.blk.role ≠ .standby →
    page ≤ 16 →
    page ≠ 7 →
    (page ≠ 14 ∨ s.blk.twin = true) →
    0x100000 ≤ a →
    ∃ t, exec (.ctlSnap dt who page) s = .next t ∧ t.blk.lastStatus = .ok ∧ (sessOf t.blk k).snaps.find a 0 = (sessOf s.blk k).snaps.find a 0)

/-- R113: of a session that has accepted the sequences of a list, whatever their order, a number is new exactly when none
has been accepted, when it is above all of them, or when it lies among the 63 numbers just below the highest and is
not one of them. Numbers compare without wrap. -/
def Obligations.SequencesAreAcceptedOnce : Prop :=
  ∀ (l : List Nat) (n : Nat),
    seqNew (l.foldl (fun (x : Sess) k => seqMark k x) Sess.empty) n = true ↔ l = [] ∨ (∀ k ∈ l, k < n) ∨ ((∀ k ∈ l, k ≤ n + 63) ∧ n ∉ l)

/-- R384: a cancel removes exactly the unarmed host entries of the port that carry its tag, and the blocks shown as free
are those of what remains; an armed entry stays and launches at its time, and so does one that is armed in the cycle
of the cancel (R390). The module's own PSF entries carry the tag 0xFFFF; a push or a cancel that names it completes
with CONFLICT and changes nothing. Commands that it says complete: lqCancel, entryLaunch, lqPush. -/
def Obligations.CancelsRemoveUnarmedEntriesOfTheirTag : Prop :=
  (∀ (s : State) (dt p tag : Nat),
    s.blk.running = true →
    s.blk.holdup = false →
    s.blk.role ≠ .standby →
    p < 2 →
    tag ≠ 0xFFFF →
    ∃ t, exec (.lqCancel dt p tag) s = .next t ∧ t.blk.lastStatus = .ok ∧ (∀ x, x ∈ (portQ t.blk p).lq ↔ x ∈ (portQ s.blk p).lq ∧ ¬ (x.tag = tag ∧ x.psf = false ∧ x.unit = none ∧ armsNow p (s.begin dt).env (s.begin dt).blk x = false)) ∧
       t.blk.get (TIME_LQ_STA_FREE_BLOCKS p) = freeBlocks (portQ t.blk p) ∧ (portQ t.blk (1 - p)).lq = (portQ s.blk (1 - p)).lq ∧ t.par = s.par) ∧
  (∀ (s : State) (dt p ns frac k : Nat) (x : LqE),
    s.blk.running = true →
    p < 2 →
    wayEnd s.blk p ≤ (s.begin dt).clk.now →
    firstEntry (s.begin dt).env (fun x => x.unit.isSome && decide (lqAhead (s.begin dt).env x ≤ 0)) (portQ s.blk p) = some (k, x) →
    s.blk.get (PORT_LINK_UP p) = 1 →
    x.imm = false →
    x.telem = false →
    -(lqAhead (s.begin dt).env x) ≤ 1000 * s.env.get TIME_LQ_CFG_SLIP →
    ∃ t l, exec (.entryLaunch dt p ns frac) s = .next t ∧ t.blk.tx = .eth p (psfFill (s.begin dt).env (s.begin dt).blk p x).bytes :: l ∧ (portTxq s.blk p = [] → l = []) ∧ (portQ t.blk p).lq = (portQ s.blk p).lq.take k ++ (portQ s.blk p).lq.drop (k + 1)) ∧
  (∀ (time : Nat) (bytes : List Byte) (q : PortQ) (x : LqE),
    x ∈ (placePsf time bytes q).lq →
    x ∉ q.lq →
    x.tag = 0xFFFF ∧ x.psf = true ∧ x.time = time) ∧
  (∀ (s : State) (dt who p w : Nat),
    s.blk.running = true →
    s.blk.holdup = false →
    s.blk.role ≠ .standby →
    (pushC w).tag = 0xFFFF →
    exec (.lqPush dt who p w) s = .next ((s.begin dt).act fun _ b => finish .conflict b) ∧ exec (.lqCancel dt p 0xFFFF) s = .next ((s.begin dt).act fun _ b => finish .conflict b))

/-- R383: an entry with TS_REQ that launches leaves its tag and transmit timestamp in the port's queue of 16 records; in a
full queue the oldest is overwritten and TXTS_LOST is set; the host reads the head record's tag, nanoseconds and
fraction, and LQx_TXTS_POP removes it. Commands that it says complete: entryLaunch, txtsPop. -/
def Obligations.TransmitTimestampsAreQueued : Prop :=
  (∀ (s : State) (dt p ns frac k : Nat) (x : LqE),
    s.blk.running = true →
    p < 2 →
    wayEnd s.blk p ≤ (s.begin dt).clk.now →
    launchNext (s.begin dt).env (s.begin dt).blk p = some (k, x) →
    s.blk.get (PORT_LINK_UP p) = 1 →
    x.telem = false →
    x.tsReq = true →
    (x.imm = true → portTxq s.blk p = []) →
    (x.imm = true ∨ -(lqAhead (s.begin dt).env x) ≤ 1000 * s.env.get TIME_LQ_CFG_SLIP) →
    (portQ s.blk p).txts.length ≤ 16 →
    ∃ t r, exec (.entryLaunch dt p ns frac) s = .next t ∧ r.tag = x.tag ∧ r.ns = ns ∧ r.frac = frac ∧ (portQ t.blk p).txts = (portQ s.blk p).txts.drop ((portQ s.blk p).txts.length / 16) ++ [r] ∧
       ((portQ s.blk p).txts.length = 16 → t.blk.get (TIME_LQ_STA_TXTS_LOST p) = 1)) ∧
  (∀ (e : Env) (b : Blk) (who p : Nat) (r : Txts) (l : List Txts),
    p < 2 →
    (portQ b p).txts = r :: l →
    r.tag < 2 ^ 16 →
    r.ns < 2 ^ 32 →
    r.frac < 2 ^ 24 →
    readWord e b who (0x3120 + 0x40 * p) % 2 ^ 16 = r.tag ∧ readWord e b who (0x3124 + 0x40 * p) = r.ns ∧ readWord e b who (0x3128 + 0x40 * p) % 2 ^ 24 = r.frac) ∧
  (∀ (s : State) (dt p : Nat) (r : Txts) (l : List Txts),
    s.blk.running = true →
    s.blk.holdup = false →
    s.blk.role ≠ .standby →
    (portQ s.blk p).txts = r :: l →
    ∃ t, exec (.txtsPop dt p) s = .next t ∧ t.blk.lastStatus = .ok ∧ (portQ t.blk p).txts = l)

/-- R324: the payload holds FLAGS, u16, of which bit 0 is CONNECT_PERMIT and bit 1 RESET, and two bytes of 0. A telegram
with any other bit set is discarded and counted, and nothing else changes. One that passes the steps of R326 as the
first after a boot is accepted with its flags, and CONNECT_PERMIT is the permit. -/
def Obligations.CommandTelegramsHoldTwoFlags : Prop :=
  (∀ (e : Env) (b : Blk) (port : Nat) (m : List Byte),
    (4 ≤ leVal (slice m 20 2) ∨ leVal (slice m 22 2) ≠ 0) →
    psfMessage port m e b = b.bump SAFE_PSF_CNT_DISCARDED) ∧
  (∀ (e : Env) (b : Blk) (port flags : Nat) (m : List Byte),
    28 ≤ m.length →
    m.take 4 = [2#8, 1#8, 2#8, 0#8] →
    leVal (slice m 18 2) = 4 →
    leVal (slice m 20 2) = flags →
    flags < 4 →
    leVal (slice m 22 2) = 0 →
    e.get SAFE_PSF_CID_CMD ≠ 0 →
    leVal (slice m 4 4) = e.get SAFE_PSF_CID_CMD →
    leVal (slice m 24 4) = scrc (e.get SAFE_PSF_CID_CMD) (m.take 24) →
    b.psf.rxSeq = none →
    psfMessage port m e b = psfAccept port (m.take 28) (leVal (slice m 8 4)) flags e b ∧ (flags = 1 → b.psf.skewBy = none → (psfMessage port m e b).get SAFE_STA_PERMIT = 1 ∧ (psfMessage port m e b).get SAFE_PSF_RX_FLAGS = 1))

/-- The NV queue (R39, R41, R79): a request enters in priority order behind those of its own priority; with eight queued
it waits outside, in the same order; a request never displaces one; a journal or parameter request merges into one of
its kind that already waits. -/
def Obligations.CommitRequestsKeepTheirOrder : Prop :=
  (∀ (j : NvJob) (b : Blk),
    nvOrdered b.pwr.queued →
    nvOrdered b.pwr.waiting →
    b.pwr.queued.length ≤ 8 →
    nvOrdered (nvRequest j b).pwr.queued ∧ nvOrdered (nvRequest j b).pwr.waiting ∧ (nvRequest j b).pwr.queued.length ≤ 8 ∧
       (∀ k ∈ b.pwr.queued, ∃ m ∈ (nvRequest j b).pwr.queued, m = k ∨ nvMerge k j = some m) ∧ (∀ k ∈ b.pwr.waiting, ∃ m ∈ (nvRequest j b).pwr.waiting, m = k ∨ nvMerge k j = some m)) ∧
  (∀ (j : NvJob) (b : Blk),
    ∃ k ∈ (nvRequest j b).pwr.queued ++ (nvRequest j b).pwr.waiting, k = j ∨ ∃ i ∈ b.pwr.queued ++ b.pwr.waiting, nvMerge i j = some k)

/-- Raises (R97, R339, R356, R363): a raise of a source whose EVT_EN bit is 0 sets its event flag (which the model keeps
with its cycle, R103) and does nothing else: it is not counted, recorded or reacted to, and its source is not active.
In a cold boot a raise is held with its own time, to be ingested when the boot ends, and nothing else changes. In OFF
nothing is raised. -/
def Obligations.RaisesNeedTheirEnableAndAService : Prop :=
  (∀ (e : Env) (b : Blk) (src code d0 d1 : Nat),
    b.phase = .run →
    evtEnabled e src = false →
    raise e src code d0 d1 b = { b with watch := { b.watch with
       evt := insSet b.watch.evt src, evtNew := (e.now, insSet (evtOfCycle e b.watch) src) } }) ∧
  (∀ (e : Env) (b : Blk) (src code d0 d1 : Nat),
    b.phase = .coldBoot →
    raise e src code d0 d1 b = { b with watch := { b.watch with held := b.watch.held ++ [⟨src, code, d0, d1, false, some e.at0⟩] } }) ∧
  (∀ (e : Env) (b : Blk) (src code d0 d1 : Nat),
    b.phase = .off →
    raise e src code d0 d1 b = b)

/-- Reactions (R343, R344, R347): in CONNECTED an L3 reaction asks for zero current for T_ctrl, and one at L4 starts the
disconnect at once; at L5 the thermal latch is set as well; in CONNECTING the connect is aborted; with a disconnect
running the fault is noted in it; in COMMISSIONING, ISOLATED and MAINTENANCE the module goes to TRIPPED; in TRIPPED
nothing more happens below L5. -/
def Obligations.ReactionsFollowTheMode : Prop :=
  (∀ (e : Env) (b : Blk) (src : Nat),
    b.mode = .connected →
    b.seq.dis = none →
    b.seq.tctrl = none →
    react e 3 src b = (modSeq (fun q => { q with tctrl := some (e.now + ms (e.get FAULT_T_CTRL)) }) b).put SAFE_STA_ZERO_REQUEST 1) ∧
  (∀ (e : Env) (b : Blk) (src : Nat),
    b.mode = .connected →
    b.seq.dis = none →
    react e 4 src b = startDis e ⟨false, true, false, src, false⟩ b) ∧
  (∀ (e : Env) (b : Blk) (src : Nat),
    b.mode = .connected →
    b.seq.dis = none →
    react e 5 src b = startDis e ⟨false, true, false, src, false⟩ { b with pwr := { b.pwr with latch := true } }) ∧
  (∀ (e : Env) (b : Blk) (src lvl : Nat),
    b.mode = .connecting →
    b.seq.dis = none →
    (lvl = 3 ∨ lvl = 4) →
    react e lvl src b = startDis e ⟨true, true, false, src, false⟩ b) ∧
  (∀ (e : Env) (b : Blk) (src lvl : Nat),
    (b.mode = .commissioning ∨ b.mode = .isolated ∨ b.mode = .maintenance) →
    (lvl = 3 ∨ lvl = 4) →
    react e lvl src b = tripIdle e b) ∧
  (∀ (e : Env) (b : Blk) (src lvl : Nat),
    b.mode = .tripped →
    (lvl = 3 ∨ lvl = 4) →
    react e lvl src b = b)

/-- The supply inputs (R70, R73 to R76, R80, R82, R94). VIN above 77 V for 10 ms begins the excursion of VIN_HIGH with VIN
as its data; a loss of VCOIL releases all three coils, shows every contactor open, begins VCOIL_LOSS and ends a
connect that runs (R129); its return ends that excursion; HOLD below 85 V for 100 ms, once charged, begins
HOLD_CHARGE_FAIL and, HOLD_READY lost, aborts a connect that runs, and HOLD at 90 V ends it; VIN below 33 V in service
enters HOLDUP, and VIN at 35 V or above ends it (R71); a rail fault marks the cold boot that follows and raises
RAIL_FAULT. Commands that it says complete: vinHigh, vcoilLoss, vcoilRestored, holdChargeFail, holdRecharged,
undervoltageDetection, undervoltageRelease, railFault. -/
def Obligations.SupplyInputsAct : Prop :=
  (∀ (s : State) (dt vin held : Nat),
    s.blk.powered = true →
    7700 < vin →
    10 ≤ held →
    exec (.vinHigh dt vin held) s = .next ((s.begin dt).act fun e b =>
     beginExc e SRC_VIN_HIGH 0 0 vin 7700 (b.put PWR_SUPPLY_VIN (min 65535 vin)))) ∧
  (∀ (s : State) (dt v : Nat),
    s.blk.powered = true →
    s.blk.get PWR_STA_VCOIL_OK = 1 →
    v < 1800 →
    exec (.vcoilLoss dt v) s = .next ((s.begin dt).act fun e b =>
     precondLost e SRC_VCOIL_LOSS (beginExc e SRC_VCOIL_LOSS 0 0 v 1800 (setFb false false false (releaseAll
       ((b.put PWR_STA_VCOIL_OK 0).put PWR_SUPPLY_VCOIL (min 65535 v))))))) ∧
  (∀ (s : State) (dt v : Nat),
    s.blk.powered = true →
    1800 ≤ v →
    exec (.vcoilRestored dt v) s = .next ((s.begin dt).act fun e b =>
     endExc e SRC_VCOIL_LOSS 0 ((b.put PWR_STA_VCOIL_OK 1).put PWR_SUPPLY_VCOIL (min 65535 v)))) ∧
  (∀ (s : State) (dt v held : Nat),
    s.blk.powered = true →
    s.blk.holdup = false →
    s.blk.pwr.chargeBy = none →
    s.blk.pwr.holdSup = true →
    v < 8500 →
    100 ≤ held →
    exec (.holdChargeFail dt v held) s = .next ((s.begin dt).act fun e b =>
     holdLost e SRC_HOLD_CHARGE_FAIL (beginExc e SRC_HOLD_CHARGE_FAIL 0 0 v 8500 (holdRead v e b)))) ∧
  (∀ (s : State) (dt : Nat),
    s.blk.powered = true →
    s.blk.holdup = false →
    exec (.holdRecharged dt) s = .next ((s.begin dt).act fun e b =>
     endExc e SRC_HOLD_CHARGE_FAIL 0 (holdShow e (modPwr (fun p => { p with holdSup := true, chargeBy := none })
       (setHold (max 9000 (b.get PWR_HOLD_V_HOLD)) b))))) ∧
  (∀ (s : State) (dt vin : Nat),
    s.blk.phase = .run →
    s.blk.keep.scanned = false →
    s.blk.holdup = false →
    vin < 3300 →
    exec (.undervoltageDetection dt vin) s = .next ((s.begin dt).act fun e b =>
     holdupWork e (raise e SRC_SUPPLY_LOSS 0 0 0 (holdupPins e (b.put PWR_SUPPLY_VIN (min 65535 vin)))))) ∧
  (∀ (s : State) (dt vin : Nat),
    s.blk.powered = true →
    s.blk.holdup = true →
    3500 ≤ vin →
    exec (.undervoltageRelease dt vin) s = .next ((s.begin dt).act fun e b =>
     powerNormal e (b.put PWR_SUPPLY_VIN (min 65535 vin)))) ∧
  (∀ (s : State) (dt : Nat),
    (s.blk.phase = .run ∨ s.blk.phase = .warmBoot) →
    s.blk.keep.scanned = false →
    exec (.railFault dt) s = .next ((s.begin dt).act fun e b =>
     raise e SRC_RAIL_FAULT 0 0 0 (modPwr (fun p => { p with rail := true }) b)))

/-- The way from HOLDUP to OFF (R81, R85, R86). The expiry of the ride-through time sets RIDE_EXPIRED and, with no
disconnect to run, asks for the final journal and log commits; once these are done OFF_ENTRY leaves the module in OFF
with every setting at its reset value and the three time bases at 0; HOLD below 40 V in HOLDUP does the same at once
and completes a power cycle, as a second without VIN does in OFF: the wrap tally and the kept shutdown latch clear.
RESTARTING after a measurement and the write of REMEASURE (R74, R77) act on the boost and the discharge. Commands that
it says complete: rideThroughExpiry, offEntry, holdExhaustion, powerCycle, capMeasureStart, capMeasureComplete,
capRemeasure. -/
def Obligations.HoldUpEndsInOff : Prop :=
  (∀ (s : State) (dt d : Nat),
    s.blk.running = true →
    s.blk.pwr.rideBy = some d →
    s.blk.mode = .isolated →
    s.blk.seq.dis = none →
    exec (.rideThroughExpiry dt) s = .next (((s.begin dt).reach d).act fun _ b =>
     finalCommits ((modPwr (fun p => { p with rideBy := none }) b).put PWR_STA_RIDE_EXPIRED 1))) ∧
  (∀ (s : State) (dt : Nat),
    s.blk.running = true →
    s.blk.holdup = true →
    s.blk.pwr.holdupAt + ms 100 ≤ s.clk.now →
    ∃ t, exec (.offEntry dt) s = .next t ∧ t.blk.phase = .off ∧ t.par = [] ∧ t.clk.tb0 = 0 ∧ t.clk.tb1 = 0 ∧ t.clk.tb2 = 0 ∧ t.clk.wrap = (s.begin dt).clk.wrap ∧
       t.clk.away = (s.begin dt).clk.now - s.blk.pwr.holdupAt ∧ (s.blk.pwr.running = none → t.blk.pwr.latch = s.blk.pwr.latch) ∧ t.pending = s.pending) ∧
  (∀ (s : State) (dt : Nat),
    s.blk.powered = true →
    s.blk.holdup = true →
    ∃ t, exec (.holdExhaustion dt) s = .next t ∧ t.blk.phase = .off ∧ t.par = [] ∧ t.clk.tb0 = 0 ∧ t.clk.tb1 = 0 ∧ t.clk.tb2 = 0 ∧ t.clk.wrap = 0 ∧ t.blk.pwr.latch = false ∧ t.blk.pwr.exhausted = true ∧ t.pending = s.pending) ∧
  (∀ (s : State) (dt : Nat),
    s.blk.phase = .off →
    ∃ t, exec (.powerCycle dt) s = .next t ∧ t.par = s.par ∧ t.clk = { s.clk with wrap := 0, away := max (s.clk.away + dt) (sec 1) } ∧ t.pending = s.pending ∧
       t.blk = ({ s.blk with tx := [], lastStatus := .ok, pwr := { s.blk.pwr with
         latch := false, latchGroups := 0, cycled := true, restarts := 0, stopped := false } }).put PWR_STA_DISCHARGE_ON 1) ∧
  (∀ (s : State) (dt : Nat),
    s.blk.phase = .coldBoot →
    exec (.capMeasureStart dt) s = .next ((s.begin dt).act fun e b => holdShow e (((modPwr (fun p => { p with
       capAt := some e.now, chargeBy := some (p.chargeBy.getD (e.now + sec 10))
       boostBy := some (p.boostBy.getD (e.now + sec 10)) }) (setHold 5000 b)).put PWR_STA_DISCHARGE_ON 0).put PWR_STA_BOOST_ON 1))) ∧
  (∀ (s : State) (dt t : Nat),
    s.blk.powered = true →
    s.blk.holdup = false →
    s.blk.pwr.capAt = some t →
    exec (.capMeasureComplete dt) s = .next ((s.begin dt).act fun e b => capJudge e (holdShow e (modPwr (fun p => { p with
       capAt := none, chargeBy := none, remeasure := false, holdSup := true })
       ((((setHold 9000 b).put PWR_CAP_CAP_UF (min 65535 ((e.now - t) * 3 / 400000))).put PWR_STA_CAP_VALID 1).put PWR_CAP_REMEASURE 0))))) ∧
  (∀ (s : State) (dt : Nat),
    s.blk.running = true →
    s.blk.holdup = false →
    s.blk.role ≠ .standby →
    s.blk.mode = .isolated →
    s.blk.pwr.remeasure = false →
    exec (.capRemeasure dt) s = .next ((s.begin dt).act fun e b => finish .ok (holdShow e (((((modPwr (fun p => { p with
       remeasure := true, capAt := none, chargeBy := none, holdSup := false }) b).put PWR_STA_CAP_VALID 0).put
       PWR_CAP_REMEASURE 1).put PWR_STA_DISCHARGE_ON 1).put PWR_STA_BOOST_ON 0))))

/-- NV commits (R78, R79, R446), cold boots (R72, R88, R89, R456) and warm boots (R84, R462 to R465). A commit starts only
when HOLD stands at or above V_COMMIT_EFF; it completes with its effect and its place goes to the first waiting
request; below V_COMMIT_EFF in HOLDUP every commit that has not started is abandoned, counted and raised. An
undervoltage release in OFF boots the module; BOOT ends with HOLD at 95 V: the module is in service, a TWIN module as
STANDBY, and its input pairs are first evaluated 10 ms later (R306). A warm boot stops the engines once its commits
are done and no sweep is in flight; its end puts the module in service again. Which image file, slots and records a
boot meets are State's; the STANDBY start of a TWIN module while it listens is notes/assumptions/20.md. Commands that
it says complete: coldBoot, bootRestart, bootEnd, nvCommitStart, nvCommitComplete, commitAbandoned, warmBoot, resume. -/
def Obligations.CommitsAndBoots : Prop :=
  (∀ (s : State) (dt : Nat) (pins : BootPins),
    s.blk.phase = .off →
    s.blk.pwr.stopped = false →
    3500 ≤ pins.vin →
    exec (.coldBoot dt pins) s = .next (bootFrom (coldCause s.blk.pwr) pins (s.begin dt))) ∧
  (∀ (s : State) (dt : Nat) (bad : List Nat),
    s.blk.phase = .coldBoot →
    exec (.bootRestart dt bad) s = .next (bootFrom 2
       ⟨s.blk.get SYS_STRAPS_ADDR, s.blk.get SYS_STRAPS_TWIN_ID, s.blk.twin, s.blk.get PWR_SUPPLY_VIN,
         s.blk.get PWR_SUPPLY_VCOIL, s.blk.get PWR_HOLD_V_HOLD, bad⟩
       { goOff (s.begin dt) with
         blk := modPwr (fun q => { q with restarts := s.blk.pwr.restarts + 1 }) (goOff (s.begin dt)).blk })) ∧
  (∀ (s : State) (dt hold : Nat),
    s.blk.phase = .coldBoot →
    9500 ≤ hold →
    ∃ t, exec (.bootEnd dt hold) s = .next t ∧ t.blk.phase = .run ∧ t.blk.role = (if t.blk.twin then .standby else .solo) ∧ t.blk.safe.evalBy = some (t.clk.now + ms 10) ∧ t.par = s.par ∧ t.pending = s.pending) ∧
  (∀ (s : State) (dt hold : Nat) (j : NvJob) (q : List NvJob),
    s.blk.keep.scanned = false →
    s.blk.powered = true →
    (holdLost (s.begin dt).env 0 (holdRead hold (s.begin dt).env (s.begin dt).blk)).pwr.running = none →
    (holdLost (s.begin dt).env 0 (holdRead hold (s.begin dt).env (s.begin dt).blk)).pwr.queued = j :: q →
    commitVolts (s.begin dt).env (holdLost (s.begin dt).env 0 (holdRead hold (s.begin dt).env (s.begin dt).blk)) ≤ hold →
    exec (.nvCommitStart dt hold) s = .next ((s.begin dt).act fun e b =>
       commitBegin e j (modPwr (fun p => nvAdmit { p with running := some j, queued := q }) (holdLost e 0 (holdRead hold e b))))) ∧
  (∀ (s : State) (dt : Nat) (j : NvJob),
    s.blk.keep.scanned = false →
    s.blk.powered = true →
    s.blk.pwr.running = some j →
    exec (.nvCommitComplete dt false) s = .next ((s.begin dt).act fun e b =>
       nvEffect e j (modPwr (fun p => nvAdmit { p with running := none }) b))) ∧
  (∀ (s : State) (dt hold : Nat) (j : NvJob),
    s.blk.keep.scanned = false →
    s.blk.powered = true →
    (holdLost (s.begin dt).env 0 (holdRead hold (s.begin dt).env (s.begin dt).blk)).holdup = true →
    (holdLost (s.begin dt).env 0 (holdRead hold (s.begin dt).env (s.begin dt).blk)).pwr.queued = [j] →
    (holdLost (s.begin dt).env 0 (holdRead hold (s.begin dt).env (s.begin dt).blk)).pwr.waiting = [] →
    jobFails j (holdLost (s.begin dt).env 0 (holdRead hold (s.begin dt).env (s.begin dt).blk)) = false →
    hold < commitVolts (s.begin dt).env (holdLost (s.begin dt).env 0 (holdRead hold (s.begin dt).env (s.begin dt).blk)) →
    exec (.commitAbandoned dt hold) s = .next ((s.begin dt).act fun e b =>
       raise e SRC_COMMIT_ABANDONED 0 0 0 (modWatch (fun w => { w with ceilAsked := false }) (capturesCut [j]
         ((modPwr (fun p => { p with queued := [], waiting := [] }) (holdLost e 0 (holdRead hold e b))).bump PWR_HOLDUP_LOG_ABANDONED 1))))) ∧
  (∀ (s : State) (dt : Nat) (a : Activate),
    s.blk.running = true →
    s.blk.keep.act = some a →
    1 ≤ a.stage →
    activateReady s.blk = true →
    warmCommitted s.blk = true →
    s.blk.chain.flight = [] →
    exec (.warmBoot dt) s = .next ((s.begin dt).act fun e b => enginesStop e b)) ∧
  (∀ (s : State) (dt : Nat) (sound : Bool) (a : Activate),
    s.blk.phase = .warmBoot →
    s.blk.keep.act = some a →
    ∃ t, exec (.resume dt sound) s = .next t ∧ t.blk.phase = .run ∧ t.blk.keep.act = none ∧ t.blk.unlocked = [] ∧ t.pending = s.pending)

/-- The clocks (R91 to R94, R373). With REF lost, CORE runs on its second fallback source; with PLL-C out of lock on the
first; PLL-N out of lock stops NET, TWIN and CHAIN. Each loss is counted, begins its excursion and ends a connect that
runs (R129); the first two also flag every time base invalid and begin TIME_INVALID. A reading beside the TCXO gives
the offset of R93 from the 16 points and, inside −45 to 105 °C, sets the trims; one outside begins REF_COMP_RANGE, and
none clears COMP_VALID. Commands that it says complete: refLoss, pllcUnlock, pllnUnlock, refCompUpdate. -/
def Obligations.ClocksAndReference : Prop :=
  (∀ (s : State) (dt : Nat),
    s.blk.powered = true →
    s.blk.get CLK_STA_REF_OK = 1 →
    exec (.refLoss dt) s = .next ((s.begin dt).act fun e b =>
       precondLost e SRC_REF_LOSS (judgeAll e (⟨true, SRC_REF_LOSS, 0, 0, 0, 0⟩ :: ⟨true, SRC_TIME_INVALID, 0, 0, 0, 0⟩ :: netConds b)
         (timeInvalid ((netStop e (((b.put CLK_STA_REF_OK 0).put CLK_STA_PLLC_LOCK 0).put CLK_STA_CORE_SRC 2)).bump CLK_UNLOCK_CNT_REF_LOSS))))) ∧
  (∀ (s : State) (dt : Nat),
    s.blk.powered = true →
    s.blk.get CLK_STA_PLLC_LOCK = 1 →
    exec (.pllcUnlock dt) s = .next ((s.begin dt).act fun e b =>
       precondLost e SRC_PLLC_UNLOCK (judgeAll e [⟨true, SRC_PLLC_UNLOCK, 0, 0, 0, 0⟩, ⟨true, SRC_TIME_INVALID, 0, 0, 0, 0⟩]
         (timeInvalid (((b.put CLK_STA_PLLC_LOCK 0).put CLK_STA_CORE_SRC 1).bump CLK_UNLOCK_CNT_PLLC))))) ∧
  (∀ (s : State) (dt : Nat),
    s.blk.powered = true →
    s.blk.get CLK_STA_PLLN_LOCK = 1 →
    exec (.pllnUnlock dt) s = .next ((s.begin dt).act fun e b =>
       precondLost e SRC_PLLN_UNLOCK (judgeAll e (⟨true, SRC_PLLN_UNLOCK, 0, 0, 0, 0⟩ :: netConds b) ((netStop e b).bump CLK_UNLOCK_CNT_PLLN)))) ∧
  (∀ (s : State) (dt : Nat) (t : Int),
    s.blk.keep.scanned = false →
    s.blk.powered = true →
    -450 ≤ t →
    t ≤ 1050 →
    exec (.refCompUpdate dt (some t)) s = .next ((s.begin dt).act fun e b => endExc e SRC_REF_COMP_RANGE 0 (tpRerate e (setTrims (trimOf (refPpb b t)) e
       (((b.putInt CLK_REF_TEMP_TEMP t).putInt CLK_REF_PPB_PPB (refPpb b t)).put CLK_STA_COMP_VALID 1))))) ∧
  (∀ (s : State) (dt : Nat) (t : Int),
    s.blk.keep.scanned = false →
    s.blk.powered = true →
    (t < -450 ∨ 1050 < t) →
    exec (.refCompUpdate dt (some t)) s = .next ((s.begin dt).act fun e b => beginExc e SRC_REF_COMP_RANGE 0 0 (dataWord t) (dataWord (if t < -450 then -450 else 1050))
       (((b.putInt CLK_REF_TEMP_TEMP t).putInt CLK_REF_PPB_PPB (refPpb b t)).put CLK_STA_COMP_VALID 0))) ∧
  (∀ (s : State) (dt : Nat),
    s.blk.keep.scanned = false →
    s.blk.powered = true →
    exec (.refCompUpdate dt none) s = .next ((s.begin dt).act fun e b => beginExc e SRC_REF_COMP_RANGE 0 0 0 0 (b.put CLK_STA_COMP_VALID 0)))

/-- Requests over the plant ports (R106 to R114, R117). A port serves requests in service, outside HOLDUP, with its link
up, once the boot's session counters are committed. A frame to the port's address that holds a request of good form,
of a session with a key, is counted. A request with a wrong MAC is counted and raises GRA_AUTHFAIL. HELLO is answered
with the session's counter, the host's nonce and the highest accepted sequence. A request whose sequence, tag and MAC
are those of a cached one sends the cached answer again and runs nothing. A new sequence with a free tag and room is
accepted: it is marked seen, run, answered and cached. A READ of a span leaves the settings as they are and answers
the words a reader sees, at once where no received PAUSE stops the port (R396) and no pending entry is near (R380); a
SNAP counts the page's snapshot. Cached answers leave at the end of their hold time. Commands that it says complete:
graRead, graWrite, graRmw, graSnap, graHello, graCacheExpiry. -/
def Obligations.RequestsAreCheckedAndAnswered : Prop :=
  (∀ (s : State) (dt port : Nat) (frame key : List Byte) (f : EthF) (r : GraReq),
    graServes port s.blk = true →
    ethParse frame = some f →
    f.etype = 0x88B5 →
    f.dst = portMac s.blk port →
    f.body.take 1 = [1#8] →
    graParse f.body = some r →
    r.op = 1 →
    keyOf s.blk (r.session + 1) = some key →
    r.mac = graMac key r.text (sessOf s.blk r.session).ctr →
    (liveCache (s.begin dt).env (sessOf s.blk r.session)).find? (fun c => c.seq == r.seq && c.tag == r.tag) = none →
    seqNew (sessOf s.blk r.session) r.seq = true →
    (sessOf s.blk r.session).outs = [] →
    (liveCache (s.begin dt).env (sessOf s.blk r.session)).length < 2048 →
    spanOk r.addr r.count = true →
    s.blk.keep.sec ≠ .service →
    r.session < s.blk.sess.length →
    pauseEnd s.blk port ≤ (s.begin dt).clk.now →
    portTxq s.blk port = [] →
    gapFor (s.begin dt).env s.blk port (5 * (wireEnd s.blk port - (s.begin dt).clk.now) + wireNs s.blk port 314) = true →
    ∃ t, exec (.graRead dt port frame) s = .next t ∧ t.par = s.par ∧ t.clk = (s.begin dt).clk ∧ t.blk.watch = s.blk.watch ∧ t.blk.mode = s.blk.mode ∧ t.blk.lastStatus = .ok ∧
       (sessOf t.blk r.session).high = some (max r.seq ((sessOf s.blk r.session).high.getD r.seq)) ∧
       t.blk.tx = [.eth port (EthF.bytes ⟨f.src, portMac s.blk port, f.tag, 0x88B5, graResponse key (sessOf s.blk r.session).ctr r .ok 0
         (readSpan t.env { (s.begin dt).blk.bump (PORT_RX_CLASS_LOW port) with
           sess := modAt s.blk.sess r.session (fun x => { seqMark r.seq x with outs := insSet x.outs r.tag }) } r.session r.addr r.count) s.blk⟩)]) ∧
  (∀ (s : State) (dt port : Nat) (frame key : List Byte) (f : EthF) (r : GraReq),
    graServes port s.blk = true →
    ethParse frame = some f →
    f.etype = 0x88B5 →
    f.dst = portMac s.blk port →
    f.body.take 1 = [1#8] →
    graParse f.body = some r →
    r.op = 2 →
    keyOf s.blk (r.session + 1) = some key →
    r.mac = graMac key r.text (sessOf s.blk r.session).ctr →
    (liveCache (s.begin dt).env (sessOf s.blk r.session)).find? (fun c => c.seq == r.seq && c.tag == r.tag) = none →
    seqNew (sessOf s.blk r.session) r.seq = true →
    (sessOf s.blk r.session).outs = [] →
    (liveCache (s.begin dt).env (sessOf s.blk r.session)).length < 2048 →
    exec (.graWrite dt port frame) s = .next (graAccept port f key r ((s.begin dt).act (fun _ b => b.bump (PORT_RX_CLASS_LOW port))))) ∧
  (∀ (s : State) (dt port : Nat) (frame key : List Byte) (f : EthF) (r : GraReq),
    graServes port s.blk = true →
    ethParse frame = some f →
    f.etype = 0x88B5 →
    f.dst = portMac s.blk port →
    f.body.take 1 = [1#8] →
    graParse f.body = some r →
    r.op = 3 →
    keyOf s.blk (r.session + 1) = some key →
    r.mac = graMac key r.text (sessOf s.blk r.session).ctr →
    (liveCache (s.begin dt).env (sessOf s.blk r.session)).find? (fun c => c.seq == r.seq && c.tag == r.tag) = none →
    seqNew (sessOf s.blk r.session) r.seq = true →
    (sessOf s.blk r.session).outs = [] →
    (liveCache (s.begin dt).env (sessOf s.blk r.session)).length < 2048 →
    exec (.graRmw dt port frame) s = .next (graAccept port f key r ((s.begin dt).act (fun _ b => b.bump (PORT_RX_CLASS_LOW port))))) ∧
  (∀ (s : State) (dt port page : Nat) (frame key : List Byte) (f : EthF) (r : GraReq),
    graServes port s.blk = true →
    ethParse frame = some f →
    f.etype = 0x88B5 →
    f.dst = portMac s.blk port →
    f.body.take 1 = [1#8] →
    graParse f.body = some r →
    r.op = 4 →
    keyOf s.blk (r.session + 1) = some key →
    r.mac = graMac key r.text (sessOf s.blk r.session).ctr →
    (liveCache (s.begin dt).env (sessOf s.blk r.session)).find? (fun c => c.seq == r.seq && c.tag == r.tag) = none →
    seqNew (sessOf s.blk r.session) r.seq = true →
    (sessOf s.blk r.session).outs = [] →
    (liveCache (s.begin dt).env (sessOf s.blk r.session)).length < 2048 →
    page ≤ 16 →
    r.addr = 0x1000 * page →
    r.session < s.blk.sess.length →
    ∃ t, exec (.graSnap dt port frame) s = .next t ∧ t.par = s.par ∧ t.blk.watch = s.blk.watch ∧ t.blk.mode = s.blk.mode ∧ t.blk.lastStatus = .ok ∧
       (sessOf t.blk r.session).snapCnt.find page 0 = ((sessOf s.blk r.session).snapCnt.find page 0 + 1) % 2 ^ 32) ∧
  (∀ (s : State) (dt port : Nat) (frame key : List Byte) (f : EthF) (r : GraReq),
    graServes port s.blk = true →
    ethParse frame = some f →
    f.etype = 0x88B5 →
    f.dst = portMac s.blk port →
    f.body.take 1 = [1#8] →
    graParse f.body = some r →
    r.op = 5 →
    keyOf s.blk (r.session + 1) = some key →
    r.mac = graMac key r.text 0 →
    exec (.graHello dt port frame) s = .next ((s.begin dt).act fun e b =>
       let b1 := b.bump (PORT_RX_CLASS_LOW port)
       graSend e port f (graResponse key (sessOf b r.session).ctr r .ok 0 (helloPayload r (sessOf b r.session)) b1) (finish .ok b1))) ∧
  (∀ (s : State) (dt port : Nat) (frame key : List Byte) (f : EthF) (r : GraReq),
    graServes port s.blk = true →
    ethParse frame = some f →
    f.etype = 0x88B5 →
    f.dst = portMac s.blk port →
    f.body.take 1 = [1#8] →
    graParse f.body = some r →
    r.op = 1 →
    keyOf s.blk (r.session + 1) = some key →
    r.mac ≠ graMac key r.text (sessOf s.blk r.session).ctr →
    exec (.graRead dt port frame) s = .next ((s.begin dt).act fun e b => raise e SRC_GRA_AUTHFAIL 0 0 0 (authfailReply port f key r e
       (finish .authfail ((b.bump (PORT_RX_CLASS_LOW port)).bump SYS_GRA_STAT_AUTHFAIL))))) ∧
  (∀ (s : State) (dt port : Nat) (frame key : List Byte) (f : EthF) (r : GraReq) (x : CacheE),
    graServes port s.blk = true →
    ethParse frame = some f →
    f.etype = 0x88B5 →
    f.dst = portMac s.blk port →
    f.body.take 1 = [1#8] →
    graParse f.body = some r →
    r.op = 2 →
    keyOf s.blk (r.session + 1) = some key →
    r.mac = graMac key r.text (sessOf s.blk r.session).ctr →
    (liveCache (s.begin dt).env (sessOf s.blk r.session)).find? (fun c => c.seq == r.seq && c.tag == r.tag) = some x →
    x.mac = r.mac →
    exec (.graWrite dt port frame) s = .next ((s.begin dt).act fun e b => graAgain port f x e (b.bump (PORT_RX_CLASS_LOW port)))) ∧
  (∀ (s : State) (dt n d : Nat),
    s.blk.keep.scanned = false →
    cacheTimer n s.blk = some d →
    exec (.graCacheExpiry dt n) s = .next (((s.begin dt).reach d).act fun e b => { b with sess := modAt b.sess n (fun x => { x with
       cache := x.cache.filter (fun c => decide (e.now < c.until_)) }) }))

/-- The inspection port and the STAGING window (R457, R470, R471, R473). The port answers a status byte and, to a read, 32
data bits. In OBSERVE and FULL it reads words and the trace; a write needs FULL, and is DENIED in OBSERVE. Scan access
is given in FULL while COMMISSIONING and stops the engines; otherwise it is DENIED. IP_EN_N opens the port, and its
release closes it and ends SERVICE and a running challenge. A write to STAGING without a stream is DENIED and one at
another offset than the stream's position is a CONFLICT; one at the position goes on with the stream. Commands that it
says complete: ipRead, ipWrite, traceRead, scanAccess, ipEnable, ipRelease, stagingWrite. -/
def Obligations.InspectionPortAndStaging : Prop :=
  (∀ (s : State) (dt a : Nat),
    s.blk.running = true →
    (ipState s.blk = 1 ∨ ipState s.blk = 2) →
    spanOk a 1 = true →
    exec (.ipRead dt a) s = .next ((s.begin dt).act fun e b => (finish .ok b).emit (.ip 0) |>.emit (.ip (readWord e b 4 a)))) ∧
  (∀ (s : State) (dt v : Nat),
    s.blk.running = true →
    ipState s.blk = 2 →
    v < 2 ^ 32 →
    ∃ t, exec (.ipWrite dt 0xC060 v) s = .next t ∧ t.env.get LOG_ANCHOR_ABS_LO = v ∧ t.blk.tx = [.ip 0] ∧ t.blk.lastStatus = .ok ∧ t.clk = (s.begin dt).clk ∧ t.blk.mode = s.blk.mode) ∧
  (∀ (s : State) (dt a v : Nat),
    s.blk.running = true →
    ipState s.blk = 1 →
    exec (.ipWrite dt a v) s = .next ((s.begin dt).act fun _ b => (finish .denied b).emit (.ip Status.denied.code))) ∧
  (∀ (s : State) (dt n : Nat),
    s.blk.running = true →
    (ipState s.blk = 1 ∨ ipState s.blk = 2) →
    exec (.traceRead dt n) s = .next ((s.begin dt).act fun _ b => (finish .ok b).emit (.ip 0) |>.emit (.ip (traceWord b n)))) ∧
  (∀ (s : State) (dt : Nat),
    s.blk.running = true →
    ipState s.blk = 2 →
    s.blk.mode = .commissioning →
    exec (.scanAccess dt) s = .next ((s.begin dt).act fun _ b => { b with keep := { b.keep with scanned := true } })) ∧
  (∀ (s : State) (dt : Nat),
    s.blk.mode ≠ .commissioning →
    exec (.scanAccess dt) s = .next ((s.begin dt).act fun _ b => finish .denied b)) ∧
  (∀ (s : State) (dt : Nat),
    s.blk.powered = true →
    exec (.ipEnable dt) s = .next ((s.begin dt).act fun _ b => b.put KEEP_STA_IP_EN 1)) ∧
  (∀ (s : State) (dt : Nat),
    s.blk.powered = true →
    s.blk.keep.sec = .service →
    exec (.ipRelease dt) s = .next ((s.begin dt).act fun e b => recordRaise e ⟨SRC_SECURITY_CHANGE, 3, 0, 0, false, none⟩
       (modKeep (fun k => { k with sec := .isSealed, svcBy := none, nonce := none, svcResp := [] }) (b.put KEEP_STA_IP_EN 0)))) ∧
  (∀ (s : State) (dt off : Nat) (ws : List Nat) (x : Stream),
    s.blk.running = true →
    s.blk.holdup = false →
    s.blk.keep.stream = some x →
    off = s.blk.get KEEP_STREAM_POS % 0x100000 →
    x.pend.length + 4 * ws.length ≤ bankSize →
    exec (.stagingWrite dt off ws) s = .next ((s.begin dt).act fun e b => finish .ok (streamGo e
       ((modKeep (fun k => { k with stream := some { x with pend := x.pend ++ ws.flatMap (leBytes 4) } }) b).put KEEP_STREAM_POS
         (b.get KEEP_STREAM_POS + 4 * ws.length))))) ∧
  (∀ (s : State) (dt off : Nat) (ws : List Nat),
    s.blk.running = true →
    s.blk.holdup = false →
    s.blk.keep.stream = none →
    exec (.stagingWrite dt off ws) s = .next ((s.begin dt).act fun _ b => finish .denied b))

/-- Writes of the host (R100 to R105, R342, R368, R370, R385 to R387, R411). SNAP counts the session's snapshot of the
page. LOCK with the key 0x4C4B unlocks a page and any other value locks it. A word that holds one RW field takes the
value written, and every other setting stays. A reaction's word changes that source's levels, or its window, whose
count starts anew. TB0's addend takes a value in range and marks TB0 as set; one out of range is a CONFLICT. A step
moves TB0 and its wraps by its signed value, and no setting. GO starts a generator that has two units at its START,
and STOP leaves it stopped with its pin low. The partner's addend and step leave this module's own clock as it is, and
are DENIED in SOLO. Commands that it says complete: ctlSnap, registerWrite, tb0AddendWrite, tb0Step, tpGo, lqPush,
pageLock, reactWrite, tb1AddendWrite, tpStop, partnerTb0Addend, partnerTb0Step. -/
def Obligations.HostWritesTakeEffect : Prop :=
  (∀ (s : State) (dt who page : Nat),
    s.blk.running = true →
    s.blk.holdup = false →
    s.blk.role ≠ .standby →
    page ≤ 16 →
    (page ≠ 14 ∨ s.blk.twin = true) →
    who < s.blk.sess.length →
    ∃ t, exec (.ctlSnap dt who page) s = .next t ∧ t.blk.lastStatus = .ok ∧ (sessOf t.blk who).snapCnt.find page 0 = ((sessOf s.blk who).snapCnt.find page 0 + 1) % 2 ^ 32 ∧ t.par = s.par ∧ t.clk = (s.begin dt).clk ∧ t.blk.mode = s.blk.mode) ∧
  (∀ (s : State) (dt who a v p w g : Nat),
    s.blk.running = true →
    s.blk.holdup = true →
    exec (.registerWrite dt who a v) s = .next (s.begin dt) ∧ exec (.tb0AddendWrite dt who v) s = .next (s.begin dt) ∧ exec (.tb0Step dt who v) s = .next (s.begin dt) ∧
       exec (.tpGo dt who g) s = .next (s.begin dt) ∧ exec (.lqPush dt who p w) s = .next ((s.begin dt).act fun _ b => finish .denied b)) ∧
  (∀ (s : State) (dt who page key : Nat),
    s.blk.running = true →
    s.blk.holdup = false →
    page ≤ 16 →
    ∃ t, exec (.pageLock dt who page key) s = .next t ∧ t.blk.lastStatus = .ok ∧ t.blk.unlocked = (if key % 65536 = 0x4C4B ∧ (s.begin dt).start.2.mode = s.blk.mode then insSet s.blk.unlocked page else s.blk.unlocked.filter (fun p => p != page)) ∧ t.par = s.par ∧ t.clk = (s.begin dt).clk ∧ t.blk.mode = s.blk.mode) ∧
  (∀ (s : State) (dt who v : Nat),
    s.blk.running = true →
    s.blk.holdup = false →
    v < 2 ^ 32 →
    ∃ t, exec (.registerWrite dt who 0xC060 v) s = .next t ∧ t.blk.lastStatus = .ok ∧ t.par.get LOG_ANCHOR_ABS_LO = v ∧ (∀ f : Fld, f.key ≠ LOG_ANCHOR_ABS_LO.key → t.par.get f = s.par.get f) ∧ t.clk = (s.begin dt).clk ∧ t.blk.mode = s.blk.mode ∧ t.blk.unlocked = s.blk.unlocked) ∧
  (∀ (s : State) (dt who n lo hi : Nat),
    s.blk.running = true →
    s.blk.holdup = false →
    s.blk.role ≠ .standby →
    s.blk.unlocked.contains 11 = true →
    (s.blk.mode = .commissioning ∨ s.blk.mode = .maintenance) →
    n < 256 →
    (srcRow n).fixed = false →
    (srcRow n).kind ≠ .unused →
    lo ≤ hi →
    hi ≤ 4 →
    (srcRow n).floor ≤ lo →
    (if s.env.get (FAULT_REACT_UNIT n) = 0 then s.env.get (FAULT_REACT_W n) = 0 else 1 ≤ s.env.get (FAULT_REACT_W n) ∧ (s.env.get (FAULT_REACT_UNIT n) < 5 ∨ s.env.get (FAULT_REACT_W n) ≤ 90)) →
    ∃ t, exec (.reactWrite dt who n false (lo + 16 * hi + 256)) s = .next t ∧ t.blk.lastStatus = .ok ∧ t.par.get (FAULT_REACT_MINOR n) = lo ∧ t.par.get (FAULT_REACT_SEVERE n) = hi ∧ t.par.get (FAULT_REACT_N n) = 1 ∧
       (∀ f : Fld, f.key ≠ (FAULT_REACT_MINOR n).key → f.key ≠ (FAULT_REACT_SEVERE n).key → f.key ≠ (FAULT_REACT_N n).key → t.par.get f = s.par.get f)) ∧
  (∀ (s : State) (dt who n w u : Nat),
    s.blk.running = true →
    s.blk.holdup = false →
    s.blk.role ≠ .standby →
    s.blk.unlocked.contains 11 = true →
    (s.blk.mode = .commissioning ∨ s.blk.mode = .maintenance) →
    n < 256 →
    (srcRow n).fixed = false →
    (srcRow n).kind ≠ .unused →
    1 ≤ w →
    w ≤ 1000 →
    1 ≤ u →
    u ≤ 4 →
    s.env.get (FAULT_REACT_MINOR n) ≤ s.env.get (FAULT_REACT_SEVERE n) →
    (srcRow n).floor ≤ s.env.get (FAULT_REACT_MINOR n) →
    s.env.get (FAULT_REACT_SEVERE n) < 5 →
    ∃ t, exec (.reactWrite dt who n true (w + 65536 * u)) s = .next t ∧ t.blk.lastStatus = .ok ∧ t.par.get (FAULT_REACT_W n) = w ∧ t.par.get (FAULT_REACT_UNIT n) = u ∧
       (∀ f : Fld, f.key ≠ (FAULT_REACT_W n).key → f.key ≠ (FAULT_REACT_UNIT n).key → t.par.get f = s.par.get f)) ∧
  (∀ (s : State) (dt who v : Nat),
    s.blk.running = true →
    s.blk.holdup = false →
    s.blk.role ≠ .standby →
    83844137 ≤ v →
    v ≤ 83928023 →
    ∃ t, exec (.tb0AddendWrite dt who v) s = .next t ∧ t.blk.lastStatus = .ok ∧ t.par.get TIME_TB0_ADDEND = v ∧ t.blk.get TIME_STA_TB0_SET = 1 ∧ t.clk = (s.begin dt).clk ∧ (∀ f : Fld, f.key ≠ TIME_TB0_ADDEND.key → t.par.get f = s.par.get f)) ∧
  (∀ (s : State) (dt who v : Nat),
    s.blk.running = true →
    s.blk.holdup = false →
    s.blk.role ≠ .standby →
    (v < 83844137 ∨ 83928023 < v) →
    v < 2 ^ 32 →
    v ≠ s.env.get TIME_TB0_ADDEND →
    exec (.tb0AddendWrite dt who v) s = .next ((s.begin dt).act fun _ b => finish .conflict b)) ∧
  (∀ (s : State) (dt who v : Nat),
    s.blk.running = true →
    s.blk.holdup = false →
    s.blk.role ≠ .standby →
    83844137 ≤ v →
    v ≤ 83928023 →
    ∃ t, exec (.tb1AddendWrite dt who v) s = .next t ∧ t.blk.lastStatus = .ok ∧ t.par.get TIME_TB1_ADDEND = v ∧ t.clk = (s.begin dt).clk ∧ (∀ f : Fld, f.key ≠ TIME_TB1_ADDEND.key → t.par.get f = s.par.get f)) ∧
  (∀ (s : State) (dt who v : Nat),
    s.blk.running = true →
    s.blk.holdup = false →
    s.blk.role ≠ .standby →
    v < 2 ^ 32 →
    ∃ t, exec (.tb0Step dt who v) s = .next t ∧ t.par = s.par ∧ t.clk = (s.begin dt).clk.stepTb0 (if v < 2 ^ 31 then (v : Int) else (v : Int) - 2 ^ 32)) ∧
  (∀ (s : State) (dt who g : Nat),
    s.blk.running = true →
    s.blk.holdup = false →
    s.blk.role ≠ .standby →
    g < 2 →
    s.blk.unlocked.contains 3 = true →
    (s.blk.mode = .commissioning ∨ s.blk.mode = .maintenance ∨ s.blk.mode = .isolated ∨ s.blk.mode = .tripped) →
    tpUnits s.env s.blk g = 2 →
    (tpOf s.blk g).go = false →
    inPast (s.begin dt).env (s.env.get (TIME_TP_CTL_BASE g)) (s.env.get (TIME_TP_START g)) = false →
    ∃ t, exec (.tpGo dt who g) s = .next t ∧ t.blk.lastStatus = .ok ∧ (tpOf t.blk g).go = true ∧ (tpOf t.blk g).high = false ∧ (tpOf t.blk g).rise = s.env.get (TIME_TP_START g) ∧ t.par = s.par ∧ t.clk = (s.begin dt).clk ∧ t.blk.mode = s.blk.mode) ∧
  (∀ (s : State) (dt who g : Nat),
    s.blk.running = true →
    s.blk.holdup = false →
    s.blk.role ≠ .standby →
    g < 2 →
    s.blk.unlocked.contains 3 = true →
    (s.blk.mode = .commissioning ∨ s.blk.mode = .maintenance ∨ s.blk.mode = .isolated ∨ s.blk.mode = .tripped) →
    (tpOf s.blk g).go = true →
    ∃ t, exec (.tpStop dt who g) s = .next t ∧ t.blk.lastStatus = .ok ∧ (tpOf t.blk g).go = false ∧ (tpOf t.blk g).high = false ∧ (tpOf t.blk g).edgeBy = none ∧ t.blk.tx = [.tpEdge g false] ∧ t.par = s.par ∧ t.clk = (s.begin dt).clk) ∧
  (∀ (s : State) (dt who v : Nat),
    s.blk.running = true →
    s.blk.holdup = false →
    s.blk.twin = false →
    exec (.partnerTb0Addend dt who v) s = .next ((s.begin dt).act fun _ b => finish .denied b) ∧ exec (.partnerTb0Step dt who v) s = .next ((s.begin dt).act fun _ b => finish .denied b)) ∧
  (∀ (s : State) (dt who v : Nat),
    s.blk.running = true →
    s.blk.holdup = false →
    s.blk.twin = true →
    s.blk.role = .active →
    83844137 ≤ v →
    v ≤ 83928023 →
    ∃ t, exec (.partnerTb0Addend dt who v) s = .next t ∧ t.blk.lastStatus = .ok ∧ t.par.get TWIN_PARTNER_TB0_ADDEND = v ∧ t.clk = (s.begin dt).clk ∧ (∀ f : Fld, f.key ≠ TWIN_PARTNER_TB0_ADDEND.key → t.par.get f = s.par.get f)) ∧
  (∀ (s : State) (dt who v : Nat),
    s.blk.running = true →
    s.blk.holdup = false →
    s.blk.twin = true →
    s.blk.role = .active →
    v < 2 ^ 32 →
    ∃ t, exec (.partnerTb0Step dt who v) s = .next t ∧ t.blk.lastStatus = .ok ∧ t.par = s.par ∧ t.clk = (s.begin dt).clk)

/-- Locked fields (R101, R227, R232, R259, R280, R441). On an unlocked page in a mode that permits it, RETIRE maps its
position to the lowest free spare of its ring; a cell's CAP is written while its capacity is unknown, with a journal
commit asked for, and other cells keep theirs; SHUTTLE.CTL.EN written 0 marks every waiting or running transfer as
stopping; RACK.CTL.EN written 0 ends the running transaction and empties what waits. On a locked page each of them
completes with LOCKED and changes nothing. Commands that it says complete: retire, cellCapWrite, shuttleDisable,
rackDisable. -/
def Obligations.LockedFieldsOfTheChainLedgerAndBuses : Prop :=
  (∀ (s : State) (dt who p k : Nat),
    s.blk.running = true →
    s.blk.holdup = false →
    s.blk.role ≠ .standby →
    s.blk.unlocked.contains 6 = true →
    chainWritable s.blk = true →
    p < 36 →
    s.blk.chain.retire.any (fun r => r.1 == p) = false →
    [36 + 2 * ringOf p, 37 + 2 * ringOf p].find? (fun k => !(s.blk.chain.retire.any (fun r => r.2 == k))) = some k →
    ∃ t, exec (.retire dt who p) s = .next t ∧ t.blk.lastStatus = .ok ∧ t.blk.chain.retire = s.blk.chain.retire ++ [(p, k)] ∧ t.par.get CHAIN_RETIRE_POSITION = p ∧ t.blk.mode = s.blk.mode ∧ t.clk = (s.begin dt).clk) ∧
  (∀ (s : State) (dt who n cap : Nat) (x : LCell),
    s.blk.running = true →
    s.blk.holdup = false →
    s.blk.role ≠ .standby →
    s.blk.unlocked.contains 7 = true →
    chainWritable s.blk = true →
    n < 576 →
    s.blk.ledger.cells[n]? = some x →
    x.capUnk = true →
    ((s.begin dt).start.2.ledger.cells[n]?).map LCell.cap = some x.cap →
    cap < 2 ^ 32 →
    ∃ t, exec (.cellCapWrite dt who n cap) s = .next t ∧ t.blk.lastStatus = .ok ∧ t.blk.ledger.cells = modAt s.blk.ledger.cells n (fun c => { c with cap := cap }) ∧ t.par = s.par ∧ t.clk = (s.begin dt).clk ∧ t.blk.mode = s.blk.mode) ∧
  (∀ (s : State) (dt who : Nat),
    s.blk.running = true →
    s.blk.holdup = false →
    s.blk.role ≠ .standby →
    s.blk.unlocked.contains 8 = true →
    chainWritable s.blk = true →
    s.env.get SHUTTLE_CTL_EN = 1 →
    ∃ t, exec (.shuttleDisable dt who) s = .next t ∧ t.blk.lastStatus = .ok ∧ t.par.get SHUTTLE_CTL_EN = 0 ∧ t.blk.shuttle.xfers = s.blk.shuttle.xfers.map (fun x => if x.st = 1 ∨ x.st = 2 then { x with st := 4 } else x) ∧
       (∀ f : Fld, f.key ≠ SHUTTLE_CTL_EN.key → t.par.get f = s.par.get f) ∧ t.clk = (s.begin dt).clk) ∧
  (∀ (s : State) (dt who : Nat),
    s.blk.running = true →
    s.blk.holdup = false →
    s.blk.role ≠ .standby →
    s.blk.unlocked.contains 15 = true →
    chainWritable s.blk = true →
    s.env.get RACK_CTL_EN = 1 →
    ∃ t, exec (.rackDisable dt who) s = .next t ∧ t.blk.lastStatus = .ok ∧ t.par.get RACK_CTL_EN = 0 ∧ t.blk.rack.cur = none ∧ t.blk.rack.waiting = [] ∧ t.blk.rack.alertRuns = [] ∧
       (∀ f : Fld, f.key ≠ RACK_CTL_EN.key → t.par.get f = s.par.get f) ∧ t.clk = (s.begin dt).clk) ∧
  (∀ (s : State) (dt who p n cap : Nat),
    s.blk.running = true →
    s.blk.holdup = false →
    s.blk.unlocked = [] →
    n < 576 →
    exec (.retire dt who p) s = .next ((s.begin dt).act fun _ b => finish .locked b) ∧
       exec (.cellCapWrite dt who n cap) s = .next ((s.begin dt).act fun _ b => finish .locked b) ∧
       exec (.shuttleDisable dt who) s = .next ((s.begin dt).act fun _ b => finish .locked b) ∧
       exec (.rackDisable dt who) s = .next ((s.begin dt).act fun _ b => finish .locked b))

/-- The commands of SAFE.SEQ_CMD (R120 to R122, R125, R134, R135, R137) in states that accept them. CONNECT with every
precondition of R124 held and three fresh weld verdicts enters CONNECTING and starts step 2; without them it starts
the weld test of step 1. DISCONNECT in CONNECTED starts step 1 of R135; ENTER_MAINT with the key enters MAINTENANCE
and notes whether it came from TRIPPED; EXIT_MAINT leaves it; COMMISSION enters COMMISSIONING; WELD_TEST starts pulse
1, which an ACTIVE announces first (R143); COIL_TEST picks the named coil for 1 s and awaits its feedback; ACK_INSPECT
clears the marks named. Each answers OK. Commands that it says complete: connect, disconnect, enterMaint, exitMaint,
commission, weldTest, coilTest, ackInspect. -/
def Obligations.SequencerCommandsRun : Prop :=
  (∀ (s : State) (dt : Nat),
    s.blk.running = true →
    s.blk.role ≠ .standby →
    connectRefuse (s.begin dt).blk = 0 →
    s.blk.get SAFE_WELD_RESULT_KP = 1 →
    s.blk.get SAFE_WELD_RESULT_KN = 1 →
    s.blk.get SAFE_WELD_RESULT_KC = 1 →
    exec (.connect dt) s = .next ((s.begin dt).act fun e b => finish .ok (connStep2 e (changeMode e .connecting b)))) ∧
  (∀ (s : State) (dt : Nat),
    s.blk.running = true →
    s.blk.role ≠ .standby →
    connectRefuse (s.begin dt).blk = 0 →
    s.blk.get SAFE_WELD_RESULT_KP = 2 →
    exec (.connect dt) s = .next ((s.begin dt).act fun e b => finish .ok (startAnnounced e 1 .pulse1 (us 200) (startPulse e 1) (setStep stepWeldConnect
       (((modSeq (fun q => { q with weld := some ⟨true, false, 0, none, none, 0, 0, 0⟩ }) (changeMode e .connecting b)).put
         SAFE_WELD_RESULT_PENDING 1).put SAFE_WELD_RESULT_TRIES 0))))) ∧
  (∀ (s : State) (dt : Nat),
    s.blk.running = true →
    s.blk.role ≠ .standby →
    s.blk.mode = .connected →
    s.blk.seq.dis = none →
    exec (.disconnect dt) s = .next ((s.begin dt).act fun e b => finish .ok
       (startDis e ⟨false, b.watch.rrRun, false, if b.watch.rrRun then b.watch.rrSrc else 0, false⟩ b))) ∧
  (∀ (s : State) (dt : Nat),
    s.blk.running = true →
    s.blk.role ≠ .standby →
    s.blk.mode = .tripped →
    maintKey (s.begin dt).env (s.begin dt).blk = true →
    s.blk.holdup = false →
    s.blk.pwr.latch = false →
    s.blk.seq.dis = none →
    (s.begin dt).start.2.mode = .tripped →
    exec (.enterMaint dt) s = .next ((s.begin dt).act fun e b => finish .ok (changeMode e .maintenance
       (modSeq (fun q => { q with maintFromTripped := true, resetSince := false }) b)))) ∧
  (∀ (s : State) (dt : Nat),
    s.blk.running = true →
    s.blk.role ≠ .standby →
    s.blk.mode = .maintenance →
    exec (.exitMaint dt) s = .next ((s.begin dt).act fun e b => finish .ok (changeMode e (returnTarget (stopTests e b)) (stopTests e b)))) ∧
  (∀ (s : State) (dt : Nat),
    s.blk.running = true →
    s.blk.role ≠ .standby →
    s.blk.mode = .isolated →
    s.blk.seq.dis = none →
    exec (.commission dt) s = .next ((s.begin dt).act fun e b => finish .ok (changeMode e .commissioning b))) ∧
  (∀ (s : State) (dt : Nat),
    s.blk.running = true →
    s.blk.role ≠ .standby →
    testAllowed (s.begin dt).blk = true →
    exec (.weldTest dt) s = .next ((s.begin dt).act fun e b => finish .ok (startAnnounced e 1 .pulse1 (us 200) (startPulse e 1) (setStep stepWeldAfter
       (((modSeq (fun q => { q with weld := some ⟨false, true, 0, none, none, 0, 0, 0⟩ }) b).put
         SAFE_WELD_RESULT_PENDING 1).put SAFE_WELD_RESULT_TRIES 0))))) ∧
  (∀ (s : State) (dt arg : Nat),
    s.blk.running = true →
    s.blk.role ≠ .standby →
    testAllowed (s.begin dt).blk = true →
    arg ≤ 2 →
    exec (.coilTest dt arg) s = .next ((s.begin dt).act fun e b => finish .ok (setStep stepCoilTest (modSeq (fun q => { q with
       coilTest := some (arg, e.now, 0), coilTestBy := some (e.now + sec 1)
       fbBy := some (e.now + ms (e.get SAFE_FB_TIME_CLOSE)), await := [arg] }) (imdGuard e (pickCoil e arg b)))))) ∧
  (∀ (s : State) (dt arg : Nat),
    s.blk.running = true →
    s.blk.role ≠ .standby →
    (s.blk.mode = .isolated ∨ s.blk.mode = .maintenance) →
    exec (.ackInspect dt arg) s = .next ((s.begin dt).act fun _ b => finish .ok (nvRequest .retained
       ([0, 1, 2].foldl (fun x k => if bitOf arg k then x.put (brokenFld k) 0 else x) b))))

/-- Refusals of SAFE.SEQ_CMD (R117, R120, R124). A CONNECT whose preconditions do not all hold answers DENIED, names the
failed conditions in REFUSE and leaves LAST_RESULT refused (2): nothing else changes. ENTER_MAINT is DENIED in the
cycle in which a reaction has entered TRIPPED (R122). COIL_TEST with an argument from 3 to 7 answers CONFLICT. A
STANDBY answers DENIED to every sequencer command and does nothing. Commands that it says complete: connect,
enterMaint, coilTest, disconnect, weldTest. -/
def Obligations.SequencerCommandsRefused : Prop :=
  (∀ (s : State) (dt : Nat),
    s.blk.running = true →
    s.blk.role ≠ .standby →
    connectRefuse (s.begin dt).blk ≠ 0 →
    exec (.connect dt) s = .next ((s.begin dt).act fun _ b =>
       finish .denied ((b.put SAFE_SEQ_STA_REFUSE (connectRefuse b)).put SAFE_SEQ_STA_LAST_RESULT 2))) ∧
  (∀ (s : State),
    s.blk.running = true →
    s.blk.role ≠ .standby →
    s.blk.mode = .tripped →
    s.start.2.mode ≠ .tripped →
    exec (.enterMaint 0) s = .next ((s.begin 0).act fun _ b => finish .denied (b.put SAFE_SEQ_STA_LAST_RESULT 2))) ∧
  (∀ (s : State) (dt arg : Nat),
    s.blk.running = true →
    s.blk.role ≠ .standby →
    2 < arg →
    exec (.coilTest dt arg) s = .next ((s.begin dt).act fun _ b => finish .conflict b)) ∧
  (∀ (s : State) (dt : Nat),
    s.blk.running = true →
    s.blk.role = .standby →
    exec (.connect dt) s = .next ((s.begin dt).act fun _ b => finish .denied b)) ∧
  (∀ (s : State) (dt : Nat),
    s.blk.running = true →
    s.blk.role = .standby →
    exec (.disconnect dt) s = .next ((s.begin dt).act fun _ b => finish .denied b)) ∧
  (∀ (s : State) (dt : Nat),
    s.blk.running = true →
    s.blk.role = .standby →
    exec (.weldTest dt) s = .next ((s.begin dt).act fun _ b => finish .denied b))

/-- The connect sequence (R125 to R130, R140, R147). Closed feedbacks end step 2 and start the test of SSB-P in step 3;
the passed test releases SSB-P and the stagger leads to SSB-N in step 4, whose passed test leads to the pre-charge;
once the difference has held, KP is picked in step 6; its feedback starts step 7, and KC reading open completes it:
CONNECTED with LAST_RESULT completed. A close time-out raises SEQ_FB_CLOSE naming the late contactors; a pre-charge
time-out and an overcurrent start the cooling time and raise; a lost feedback raises SEQ_FB_LOST. Commands that it
says complete: feedbackClosed, feedbackCloseTimeout, ssbTestEnd, staggerEnd, prechargeHoldComplete, pcTimeout,
pcOvercurrent, pcCoolEnd, feedbackOpened, feedbackOpenTimeout, feedbackLost. -/
def Obligations.ConnectStepsAdvance : Prop :=
  (∀ (s : State) (dt d : Nat),
    s.blk.running = true →
    s.blk.seq.fbBy = some d →
    s.blk.seq.await = [1, 2] →
    s.blk.get SAFE_SEQ_STA_STEP = 2 →
    s.blk.role ≠ .standby →
    s.blk.get HVS_STA_IMD_INJECTING = 0 →
    commanded s.blk 1 = true →
    commanded s.blk 2 = true →
    exec (.feedbackClosed dt false true true) s = .next ((s.begin dt).act fun e b =>
       startAnnounced e 1 .ssbP (us (e.get SAFE_SSB_TIME_CONFIRM)) (ssbPTest e)
         (setStep 3 (modSeq (fun q => { q with fbBy := none, await := [] }) (setFb false true true b))))) ∧
  (∀ (s : State) (dt d : Nat),
    s.blk.running = true →
    s.blk.seq.fbBy = some d →
    s.blk.get SAFE_SEQ_STA_STEP = 2 →
    exec (.feedbackCloseTimeout dt) s = .next (((s.begin dt).reach d).act fun e b =>
       abortTripped e SRC_SEQ_FB_CLOSE (raise e SRC_SEQ_FB_CLOSE (contactorMap (fun k => b.seq.await.contains k && !fbClosed b k)) 0 0
         (modSeq (fun q => { q with fbBy := none, await := [] }) b)))) ∧
  (∀ (s : State) (dt d : Nat) (maxI : Nat) (midp hvp midn hvn : Int),
    s.blk.running = true →
    s.blk.seq.ssbTest = some d →
    s.blk.get SAFE_SEQ_STA_STEP = 3 →
    50 * iabs (midp - hvp) ≤ hvp - hvn →
    maxI ≤ 1000 →
    exec (.ssbTestEnd dt true maxI midp hvp midn hvn) s = .next (((s.begin dt).reach d).act fun e b =>
       modSeq (fun q => { q with stagger := some (e.now + us (e.get SAFE_SSB_TIME_STAGGER), .ssbN) })
         (ssbSet e 0 false (modTrip (fun t => { t with confP := true }) (setBk e 0 true (modSeq (fun q => { q with ssbTest := none, pulseEnd := some e.now, announce := none }) b)))))) ∧
  (∀ (s : State) (dt d : Nat) (maxI : Nat) (midp hvp midn hvn : Int),
    s.blk.running = true →
    s.blk.seq.ssbTest = some d →
    s.blk.get SAFE_SEQ_STA_STEP = 3 →
    50 * iabs (midp - hvp) ≤ hvp - hvn →
    1000 < maxI →
    exec (.ssbTestEnd dt true maxI midp hvp midn hvn) s = .next (((s.begin dt).reach d).act fun e b =>
       abortTripped e SRC_SSB_BLOCK_FAIL (raise e SRC_SSB_BLOCK_FAIL 2 0 0 (setBk e 0 true (modSeq (fun q => { q with ssbTest := none, pulseEnd := some e.now, announce := none }) b))))) ∧
  (∀ (s : State) (dt d : Nat),
    s.blk.running = true →
    s.blk.seq.stagger = some (d, .ssbN) →
    exec (.staggerEnd dt) s = .next (((s.begin dt).reach d).act fun e b => setStep 4
       (modSeq (fun q => { q with ssbTest := some (e.now + us (e.get SAFE_SSB_TIME_CONFIRM)) })
         (ssbSet e 1 true (modSeq (fun q => { q with stagger := none }) b))))) ∧
  (∀ (s : State) (dt d : Nat),
    s.blk.running = true →
    s.blk.seq.stagger = some (d, .precharge) →
    exec (.staggerEnd dt) s = .next (((s.begin dt).reach d).act fun e b => setStep 5
       (modSeq (fun q => { q with pcAt := e.now, pcBy := some (e.now + ms (10 * e.get SAFE_PC_HOLD_TIMEOUT)) })
         (ssbSet e 0 true (modSeq (fun q => { q with stagger := none }) b))))) ∧
  (∀ (s : State) (dt d : Nat) (dv : Int) (held peak : Nat),
    s.blk.running = true →
    s.blk.get SAFE_SEQ_STA_STEP = 5 →
    s.blk.seq.pcBy = some d →
    s.blk.seq.picks = [] →
    iabs dv ≤ s.env.get SAFE_PC_DV_DV →
    1000 * s.env.get SAFE_PC_HOLD_HOLD ≤ held →
    exec (.prechargeHoldComplete dt dv held peak) s = .next ((s.begin dt).act fun e b => connStep6 e (pcRecord peak e b))) ∧
  (∀ (s : State) (dt d peak : Nat),
    s.blk.running = true →
    s.blk.get SAFE_SEQ_STA_STEP = 5 →
    s.blk.seq.pcBy = some d →
    exec (.pcTimeout dt peak) s = .next (((s.begin dt).reach d).act fun e b =>
       abortTripped e SRC_PC_TIMEOUT (raise e SRC_PC_TIMEOUT 0 0 0 (startCool e (pcRecord peak e b))))) ∧
  (∀ (s : State) (dt : Nat) (i dv : Int) (n peak : Nat),
    s.blk.running = true →
    s.blk.get SAFE_SEQ_STA_STEP = 5 →
    pcLimit dv (s.env.get SAFE_PC_R_RPC) < iabs i →
    20 ≤ n →
    s.blk.role ≠ .standby →
    exec (.pcOvercurrent dt i dv n peak) s = .next ((s.begin dt).act fun e b => abortTripped e SRC_PC_OVERCURRENT
       (raise e SRC_PC_OVERCURRENT 0 (dataWord (iabs i)) (dataWord (pcLimit dv (e.get SAFE_PC_R_RPC))) (startCool e (pcRecord peak e b))))) ∧
  (∀ (s : State) (dt d : Nat),
    s.blk.running = true →
    s.blk.seq.coolBy = some d →
    exec (.pcCoolEnd dt) s = .next (((s.begin dt).reach d).act fun _ b => modSeq (fun q => { q with coolBy := none }) b)) ∧
  (∀ (s : State) (dt d : Nat),
    s.blk.running = true →
    s.blk.seq.fbBy = some d →
    s.blk.seq.await = [2] →
    s.blk.get SAFE_SEQ_STA_STEP = 7 →
    s.blk.role ≠ .standby →
    exec (.feedbackOpened dt true true false) s = .next ((s.begin dt).act fun e b => setStep stepIdle (changeMode e .connected
       ((modSeq (fun q => { q with fbBy := none, await := [] }) (imdGuard e (setFb true true false b))).put SAFE_SEQ_STA_LAST_RESULT 1)))) ∧
  (∀ (s : State) (dt d : Nat),
    s.blk.running = true →
    s.blk.seq.fbBy = some d →
    s.blk.get SAFE_SEQ_STA_STEP = 7 →
    exec (.feedbackOpenTimeout dt) s = .next (((s.begin dt).reach d).act fun e b =>
       abortTripped e SRC_SEQ_FB_OPEN (raise e SRC_SEQ_FB_OPEN (contactorMap (fun k => b.seq.await.contains k && fbClosed b k)) 0 0
         (modSeq (fun q => { q with fbBy := none, await := [] }) b)))) ∧
  (∀ (s : State) (dt : Nat),
    s.blk.running = true →
    s.blk.seq.await = [] →
    s.blk.owner = true →
    inExc s.blk SRC_SEQ_FB_LOST 0 = false →
    commanded s.blk 0 = true →
    commanded s.blk 1 = false →
    commanded s.blk 2 = false →
    exec (.feedbackLost dt false false false) s = .next ((s.begin dt).act fun e b =>
       let b1 := imdGuard e (setFb false false false b)
       raise e SRC_SEQ_FB_LOST 1 0 0 { b1 with watch := { b1.watch with exc := b1.watch.exc ++ [(SRC_SEQ_FB_LOST, 0)] } }))

/-- The coils (R120, R140, R142, R147, R295). At the end of a pick the coil's current and its resistance VCOIL / I are
recorded and the coil is held with the band's base duty and frequency, except in series mode, where the partner
measures and holds (R59); a current below 0.1 A or above 6 A raises COIL_FAULT with the coil's bit. A hold current
outside the band's window for 100 ms begins the coil's COIL_FAULT. The coil test's second releases the coil and awaits
its feedback open, and its end records both times. Commands that it says complete: pickEnd, holdCurrentFault,
coilTestEnd. -/
def Obligations.CoilsPickAndHold : Prop :=
  (∀ (s : State) (dt k i d : Nat),
    s.blk.running = true →
    s.blk.seq.picks = [(k, d)] →
    s.blk.seq.waitPick = [] →
    s.blk.seq.pcDone = false →
    100 ≤ i →
    i ≤ 6000 →
    seriesMode s.blk = false →
    exec (.pickEnd dt k i) s = .next (((s.begin dt).reach d).act fun _ b =>
       { modSeq (fun q => { q with picks := [] }) (((b.put (coilIFld k) i).put (coilRFld k)
           (min 65535 (b.get PWR_SUPPLY_VCOIL * 1000 / i))).put (dutyFld k) (bandDuty (b.get THERM_STA_BAND))) with
         therm := { b.therm with
           coils := setAt b.therm.coils k ⟨i, min 65535 (b.get PWR_SUPPLY_VCOIL * 1000 / i),
             min 65535 (b.get PWR_SUPPLY_VCOIL * 1000 / i), bandDuty (b.get THERM_STA_BAND), bandFreq (b.get THERM_STA_BAND)⟩ } })) ∧
  (∀ (s : State) (dt i held : Nat),
    s.blk.running = true →
    commanded s.blk 0 = true →
    s.blk.seq.picks = [] →
    s.blk.therm.coils = [⟨1000, 0, 0, 0, 0⟩, ⟨0, 0, 0, 0, 0⟩, ⟨0, 0, 0, 0, 0⟩] →
    s.blk.get THERM_STA_BAND = 2 →
    i < 200 →
    100000 ≤ held →
    seriesMode s.blk = false →
    exec (.holdCurrentFault dt 0 i held) s = .next ((s.begin dt).act fun e b =>
       beginExc e SRC_COIL_FAULT 0 1 i 200 (b.put SAFE_COIL_KP_CURRENT i))) ∧
  (∀ (s : State) (dt k t c d : Nat),
    s.blk.running = true →
    s.blk.seq.coilTestBy = some d →
    s.blk.seq.coilTest = some (k, t, c) →
    exec (.coilTestEnd dt) s = .next (((s.begin dt).reach d).act fun e b => modSeq (fun q => { q with
       coilTest := some (k, e.now, c), coilTestBy := none, fbBy := some (e.now + ms (e.get SAFE_FB_TIME_OPEN)), await := [k] })
       (releaseCoil k b)))

/-- The disconnect (R135 to R139, R343). With BK_FB low and 50 samples at or below I_ZERO step 2 releases KP, KN and KC;
where the confirm time ends with a current above I_ZERO the fallback releases them at once, marks every contactor that
was closed broken and raises SSB_FALLBACK. T_ctrl's end and a current at or below I_ZERO during it both start step 1.
The partner's ride-through end starts a supply disconnect. Commands that it says complete: zeroCurrentConfirmed,
disconnectConfirmTimeout, feedbackOpened, tCtrlExpiry, zeroCurrentReached, partnerRideExpiry. -/
def Obligations.DisconnectOpensTheString : Prop :=
  (∀ (s : State) (dt maxI n : Nat),
    s.blk.running = true →
    s.blk.get SAFE_SEQ_STA_STEP = 8 →
    maxI ≤ s.env.get SAFE_I_ZERO →
    50 ≤ n →
    s.blk.seq.dis.isSome = true →
    exec (.zeroCurrentConfirmed dt false false maxI n) s = .next ((s.begin dt).act fun e b => setStep stepDisc2
       (modSeq (fun q => { q with confirmBy := none, fbBy := some (e.now + ms (e.get SAFE_FB_TIME_OPEN)), await := [0, 1, 2] })
         (releaseAll (setBk e 1 false (setBk e 0 false b)))))) ∧
  (∀ (s : State) (dt d : Nat) (i : Int) (x : Dis),
    s.blk.running = true →
    s.blk.seq.confirmBy = some d →
    s.blk.get SAFE_SEQ_STA_STEP = 8 →
    s.blk.seq.dis = some x →
    x.fault = false →
    (s.env.get SAFE_I_ZERO : Int) < iabs i →
    closedNow s.blk 0 = true →
    closedNow s.blk 1 = true →
    closedNow s.blk 2 = false →
    exec (.disconnectConfirmTimeout dt false false i) s = .next (((s.begin dt).reach d).act fun e b =>
       raise e SRC_SSB_FALLBACK 3 0 0 (nvRequest .retained (setStep stepFallback (modSeq (fun q => { q with
         confirmBy := none, fbBy := some (e.now + ms (e.get SAFE_FB_TIME_OPEN)), await := [0, 1, 2],
         dis := q.dis.map (fun d => { d with fault := true, noWeld := true,
                                             src := if d.fault then d.src else SRC_SSB_FALLBACK }) })
         (((releaseAll (setBk e 1 false (setBk e 0 false b))).put SAFE_SW_STATE_KP_BROKEN 1).put
           SAFE_SW_STATE_KN_BROKEN 1)))))) ∧
  (∀ (s : State) (dt t : Nat) (x : Dis),
    s.blk.running = true →
    s.blk.seq.fbBy = some t →
    s.blk.seq.await = [0, 1, 2] →
    s.blk.get SAFE_SEQ_STA_STEP = 9 →
    s.blk.seq.dis = some x →
    s.blk.role ≠ .standby →
    exec (.feedbackOpened dt false false false) s = .next ((s.begin dt).act fun e b =>
       let b1 := modSeq (fun q => { q with fbBy := none, await := [] }) (imdGuard e (setFb false false false b))
       finishDis e x (if x.fault ∧ tripStands b1 then modTrip (fun t => { t with clears := (t.clears + 1) % 256 }) (latchClear e b1) else b1))) ∧
  (∀ (s : State) (dt d : Nat),
    s.blk.running = true →
    s.blk.seq.tctrl = some d →
    s.blk.mode = .connected →
    s.blk.seq.dis = none →
    s.blk.role ≠ .standby →
    exec (.tCtrlExpiry dt) s = .next (((s.begin dt).reach d).act fun e b => startDis e ⟨false, true, false, b.watch.rrSrc, false⟩ b)) ∧
  (∀ (s : State) (dt d : Nat) (i : Int),
    s.blk.running = true →
    s.blk.seq.tctrl = some d →
    s.blk.mode = .connected →
    s.blk.seq.dis = none →
    (s.begin dt).clk.now < d →
    iabs i ≤ (s.env.get SAFE_I_ZERO : Int) →
    s.blk.role ≠ .standby →
    exec (.zeroCurrentReached dt i) s = .next ((s.begin dt).act fun e b => startDis e ⟨false, true, false, b.watch.rrSrc, false⟩ b)) ∧
  (∀ (s : State) (dt d : Nat),
    s.blk.running = true →
    s.blk.seq.partnerRideBy = some d →
    s.blk.mode = .connected →
    s.blk.seq.dis = none →
    s.blk.role = .active →
    exec (.partnerRideExpiry dt) s = .next (((s.begin dt).reach d).act fun e b =>
       startDisCmd e true (modSeq (fun q => { q with partnerRideBy := none }) b)))

/-- The weld test (R132 to R134). A first pulse on a node at 50 V or more that does not follow it, with the feedbacks open
and BK_FB on, is conclusive: KP and KC are open verified and the stagger leads to pulse 2; a second such pulse ends
the test with KN open verified and PENDING clear. A retry runs pulse 1 again. At the window's end a contactor with no
verdict but its feedback raises WELD_UNVERIFIED with its bit. Commands that it says complete: weldPulseEnd, weldRetry,
weldWindowEnd. -/
def Obligations.WeldTestVerdicts : Prop :=
  (∀ (s : State) (dt t : Nat) (d ee midE : Int) (w : Weld),
    s.blk.running = true →
    s.blk.seq.pulseBy = some t →
    s.blk.seq.weld = some w →
    w.pulse = 1 →
    w.kp ≠ 3 →
    w.kc ≠ 3 →
    w.kn = 0 →
    s.blk.get HVS_STA_IMD_INJECTING = 0 →
    5000 ≤ iabs d →
    iabs d < 2 * iabs ee →
    exec (.weldPulseEnd dt d ee 0 midE true false false false) s = .next (((s.begin dt).reach t).act fun e b =>
       armPulse e 2 .pulse2 (us 200)
         (raiseAll e [] (modSeq (fun q => { q with weld := some { w with kp := 1, kc := 1 } }) (setVerdicts 1 0 1
           (setFb false false false (modSeq (fun q => { q with pulseBy := none, pulseEnd := some e.now, announce := none }) (ssbOff e (setBk e 0 true b))))))))) ∧
  (∀ (s : State) (dt t : Nat) (w : Weld),
    s.blk.running = true →
    s.blk.seq.weld = some w →
    w.retryBy = some t →
    s.blk.seq.pulseBy = none →
    s.blk.seq.stagger = none →
    exec (.weldRetry dt) s = .next (((s.begin dt).reach t).act fun e b => startAnnounced e 1 .pulse1 (us 200) (startPulse e 1) b)) ∧
  (∀ (s : State) (dt t : Nat) (w : Weld),
    s.blk.running = true →
    s.blk.seq.weld = some w →
    w.windowBy = some t →
    w.kp = 1 →
    w.kn = 1 →
    w.kc = 1 →
    exec (.weldWindowEnd dt) s = .next (((s.begin dt).reach t).act fun e b => weldDone e w b))

/-- The HV island's link and inputs (R150, R151, R156 to R163, R171, R189). A lost link clears ISLAND_OK, drops both gate
commands that the island holds, stops injection and begins ISLAND_FAULT with CODE 0; its return ends that, and the
gates wait for a new command (R150). Beyond a limit during a warm boot the island sets the limit latch, which forces
the gates low. On an open path the residuals become the offsets. A failed shunt or Hall input clears its OK bit, acts
on the ledger and the lanes, and is judged together with them; a mismatch between the two beyond the window begins
SHUNT_HALL_MISMATCH and its return ends it. MID nodes off by more than 20 V for 100 µs while CONNECTED, with both
SSBs, KP and KN commanded closed, begin MID_MISMATCH. Busbar NTCs outside −40 to 150 °C read as invalid. Commands that
it says complete: islandLinkLoss, islandLinkRestored, islandLimitLatch, openPathZero, shuntFault, hallFault,
currentInputRestored, shuntHallMismatch, shuntHallMatchRestored, midMismatch, ntcRead, sampClkLoss. -/
def Obligations.IslandLinkAndInputs : Prop :=
  (∀ (s : State) (dt : Nat),
    s.blk.phase = .run →
    s.blk.keep.scanned = false →
    s.blk.get HVS_STA_ISLAND_OK = 1 →
    exec (.islandLinkLoss dt) s = .next ((s.begin dt).act fun e b =>
       beginExc e SRC_ISLAND_FAULT 0 0 0 0 (imdStop ((gateDrop e b).put HVS_STA_ISLAND_OK 0)))) ∧
  (∀ (s : State) (dt : Nat),
    s.blk.keep.scanned = false →
    exec (.islandLinkRestored dt) s = .next ((s.begin dt).act fun e b => endExc e SRC_ISLAND_FAULT 0 (b.put HVS_STA_ISLAND_OK 1))) ∧
  (∀ (s : State) (dt k d : Nat) (x : Int) (sat : Bool),
    s.blk.phase = .warmBoot →
    k ≠ 3 →
    limitBeyond (s.begin dt).env (s.begin dt).blk k x sat = true →
    limitTime (s.begin dt).env k ≤ d →
    s.blk.get HVS_STA_LIMIT_LATCH = 0 →
    exec (.islandLimitLatch dt k ⟨x, sat⟩ d) s = .next ((s.begin dt).act fun e b => raise e SRC_ISLAND_LIMIT_DROP 0 0 0
       (modTrip (fun t => { t with warmDrop := true }) (gateEdges e b (b.put HVS_STA_LIMIT_LATCH 1))))) ∧
  (∀ (s : State) (dt held : Nat) (a h : Int),
    s.blk.keep.scanned = false →
    zeroDue (s.begin dt).env (s.begin dt).blk held = true →
    iabs a ≤ 200 →
    iabs h ≤ 50000 →
    exec (.openPathZero dt (a, h) held) s = .next ((s.begin dt).act fun e b => endExc e SRC_SHUNT_OFFSET 0
       ((modHvs (fun x => { x with zeroAt := some e.now, zeroS := true, zeroH := true })
         ((b.putInt HVS_ZERO_SHUNT_OFS a).putInt HVS_ZERO_HALL_OFS (divRound h 100))).put HVS_STA_ZERO_VALID 1))) ∧
  (∀ (s : State) (dt d : Nat) (uv : Int),
    s.blk.keep.scanned = false →
    510000 < iabs uv →
    1000 ≤ d →
    s.blk.get HVS_STA_SHUNT_OK = 1 →
    exec (.shuntFault dt uv d 0) s = .next ((s.begin dt).act fun e b =>
       judgeAll e (⟨true, SRC_SHUNT_FAULT, 0, 0, 0, 0⟩ :: inputConds (lanesShow (pathFault e b (modHvs (fun h => { h with rail := true }) (b.put HVS_STA_SHUNT_OK 0)))))
         (lanesShow (pathFault e b (modHvs (fun h => { h with rail := true }) (b.put HVS_STA_SHUNT_OK 0)))))) ∧
  (∀ (s : State) (dt ma d : Nat) (uv : Int),
    s.blk.keep.scanned = false →
    (ma < 5 ∨ 150 < ma) →
    s.blk.get HVS_STA_HALL_OK = 1 →
    exec (.hallFault dt ma uv d) s = .next ((s.begin dt).act fun e b => hallFail e (b.put HVS_HALL_SUP_CURRENT ma))) ∧
  (∀ (s : State) (dt : Nat),
    s.blk.keep.scanned = false →
    s.blk.get HVS_STA_SHUNT_OK = 0 →
    exec (.currentInputRestored dt 0) s = .next ((s.begin dt).act fun e b =>
       judgeAll e [⟨false, SRC_SHUNT_FAULT, 0, 0, 0, 0⟩, lanesCond (lanesShow (compStep e (modHvs (fun h => { h with shuntOkAt := e.now, rail := false }) (b.put HVS_STA_SHUNT_OK 1))))]
         (lanesShow (compStep e (modHvs (fun h => { h with shuntOkAt := e.now, rail := false }) (b.put HVS_STA_SHUNT_OK 1)))))) ∧
  (∀ (s : State) (dt d : Nat) (a h : Int),
    s.blk.keep.scanned = false →
    xchkRuns (s.begin dt).blk = true →
    xchkWindow (s.begin dt).env a < iabs (a - h) →
    1000 * s.env.get HVS_XCHK_WIN_TIME ≤ d →
    exec (.shuntHallMismatch dt a h d) s = .next ((s.begin dt).act fun e b =>
       beginExc e SRC_SHUNT_HALL_MISMATCH 0 0 (dataWord (a - h)) (dataWord (xchkWindow e a)) b)) ∧
  (∀ (s : State) (dt d : Nat) (a h : Int),
    s.blk.keep.scanned = false →
    xchkRuns (s.begin dt).blk = true →
    iabs (a - h) ≤ xchkWindow (s.begin dt).env a →
    1000 * s.env.get HVS_XCHK_WIN_TIME ≤ d →
    exec (.shuntHallMatchRestored dt a h d) s = .next ((s.begin dt).act fun e b => endExc e SRC_SHUNT_HALL_MISMATCH 0 b)) ∧
  (∀ (s : State) (dt d : Nat) (v : List Int),
    s.blk.phase = .run →
    s.blk.keep.scanned = false →
    s.blk.mode = .connected →
    commanded s.blk 0 = true →
    commanded s.blk 1 = true →
    s.blk.get SAFE_SW_STATE_SSBP_CMD = 1 →
    s.blk.get SAFE_SW_STATE_SSBN_CMD = 1 →
    v = [100000, 97999, 97999, 0, 0, 0] →
    100 ≤ d →
    inExc s.blk SRC_MID_MISMATCH 0 = false →
    s.env.get TRIP_CAP_CTL_HVS_L4 = 0 →
    exec (.midMismatch dt v d) s = .next ((s.begin dt).act fun e b => beginExc e SRC_MID_MISMATCH 0 0 2001 2000 b)) ∧
  (∀ (s : State) (dt : Nat) (a c x : Int),
    s.blk.keep.scanned = false →
    calibrated (s.begin dt).blk 8 a = x →
    -400 ≤ x →
    x ≤ 1500 →
    (calibrated (s.begin dt).blk 9 c < -400 ∨ 1500 < calibrated (s.begin dt).blk 9 c) →
    exec (.ntcRead dt a c) s = .next ((s.begin dt).act fun e b =>
       judgeAll e [⟨false, SRC_NTC_FAULT, 0, 0, 0, 0⟩, ⟨true, SRC_NTC_FAULT, 1, 0, 0, 0⟩]
         (modHvs (fun h => { h with ntcA := x }) (((modHvs (fun h => { h with ntcRead := true }) b).putInt HVS_NTC_NTC_A x).putInt HVS_NTC_NTC_B (-32768))))) ∧
  (∀ (s : State) (dt : Nat),
    s.blk.keep.scanned = false →
    exec (.sampClkLoss dt) s = .next ((s.begin dt).act fun e b => precondLost e SRC_ISLAND_FAULT (beginExc e SRC_ISLAND_FAULT 1 0 0 0
       ((b.put HVS_STA_SAMP_OK 0).put CLK_STA_SAMP_FWD_OK 0))))

/-- The island's limits (R165, R187). A quantity beyond its limit for the limit's time begins the source's excursion with
the quantity in DATA0 and the limit in DATA1: OVERCURRENT in charge (object 1) and discharge (object 0), STRING_OV,
STRING_UV, BUS_OV (in CONNECTING and CONNECTED only) and DIDT; with TRIP.CAP_CTL.HVS_L4 clear no capture starts. A
quantity back inside ends the excursion. Commands that it says complete: overcurrent, didt, stringOv, stringUv, busOv. -/
def Obligations.LimitsBeyondTheClickPath : Prop :=
  (∀ (s : State) (dt d : Nat) (x : Int),
    s.blk.phase = .run →
    s.blk.keep.scanned = false →
    0 ≤ x →
    limitValue s.env 1 < x →
    1000 * s.env.get HVS_LIM_OC_TIME_TIME ≤ d →
    inExc s.blk SRC_OVERCURRENT 0 = false →
    inExc s.blk SRC_OVERCURRENT 1 = false →
    s.env.get TRIP_CAP_CTL_HVS_L4 = 0 →
    exec (.overcurrent dt x d) s = .next ((s.begin dt).act fun e b => beginExc e SRC_OVERCURRENT 1 0 (dataWord x)
       (dataWord (limitValue e 1)) (endExc e SRC_OVERCURRENT 0 b))) ∧
  (∀ (s : State) (dt d : Nat) (x : Int),
    s.blk.phase = .run →
    s.blk.keep.scanned = false →
    limitValue s.env 5 < iabs x →
    s.env.get HVS_LIM_DIDT_COUNT ≤ d →
    inExc s.blk SRC_DIDT 5 = false →
    s.env.get TRIP_CAP_CTL_HVS_L4 = 0 →
    exec (.didt dt x d) s = .next ((s.begin dt).act fun e b => beginExc e SRC_DIDT 5 0 (dataWord x)
       (dataWord (limitValue e 5)) b)) ∧
  (∀ (s : State) (dt d : Nat) (x : Int) (sat : Bool),
    s.blk.phase = .run →
    s.blk.keep.scanned = false →
    (sat = true ∨ limitValue s.env 2 < x) →
    1000 ≤ d →
    inExc s.blk SRC_STRING_OV 2 = false →
    s.env.get TRIP_CAP_CTL_HVS_L4 = 0 →
    exec (.stringOv dt ⟨x, sat⟩ d) s = .next ((s.begin dt).act fun e b => beginExc e SRC_STRING_OV 2 0 (dataWord x)
       (dataWord (limitValue e 2)) b)) ∧
  (∀ (s : State) (dt d : Nat) (x : Int) (sat : Bool),
    s.blk.phase = .run →
    s.blk.keep.scanned = false →
    s.env.get HVS_LIM_V_UV ≠ 0 →
    (sat = true ∨ x < limitValue s.env 3) →
    1000 ≤ d →
    inExc s.blk SRC_STRING_UV 3 = false →
    exec (.stringUv dt ⟨x, sat⟩ d) s = .next ((s.begin dt).act fun e b => beginExc e SRC_STRING_UV 3 0 (dataWord x)
       (dataWord (limitValue e 3)) b)) ∧
  (∀ (s : State) (dt d : Nat) (x : Int) (sat : Bool),
    s.blk.phase = .run →
    s.blk.keep.scanned = false →
    s.blk.mode = .connected →
    s.blk.holdup = false →
    (sat = true ∨ limitValue s.env 4 < x) →
    1000 ≤ d →
    inExc s.blk SRC_BUS_OV 4 = false →
    s.env.get TRIP_CAP_CTL_HVS_L4 = 0 →
    exec (.busOv dt ⟨x, sat⟩ d) s = .next ((s.begin dt).act fun e b => beginExc e SRC_BUS_OV 4 0 (dataWord x)
       (dataWord (limitValue e 4)) b)) ∧
  (∀ (s : State) (dt d : Nat) (x : Int) (sat : Bool),
    s.blk.phase = .run →
    s.blk.keep.scanned = false →
    s.blk.mode = .isolated →
    exec (.busOv dt ⟨x, sat⟩ d) s = .next ((s.begin dt).act fun e b => endExc e SRC_BUS_OV 4 b))

/-- Insulation (R167 to R170), the click path (R172 to R186) and captures (R187, R360). A quiet listen window starts an
injection where it is permitted; a completed cycle shows R_iso in kΩ and counts it against both levels. A lane's first
latch of a trip on the gate path forces both gates low, is timestamped and counted and raises CLICK_TRIP. A lane's
test passes within its bound. The loss of the TRIP clock begins TRIP_CLK_LOSS, its return ends it; a slow fall of BK_G
raises BK_FB_MISMATCH. A manual trigger starts a capture, its freeze gives it the first free slot, and its last commit
shows it as stored. Commands that it says complete: imdListenEnd, imdCycleComplete, latchSet, laneTest, tripClkLoss,
tripClkRestored, bkFbMismatch, captureManual, captureFreeze, captureStored. -/
def Obligations.InsulationAndClickPath : Prop :=
  (∀ (s : State) (dt step : Nat),
    s.blk.phase = .run →
    s.blk.keep.scanned = false →
    s.env.get HVS_IMD_CFG_ROLE ≠ 0 →
    step ≤ 20 →
    imdMay (s.begin dt).env (s.begin dt).blk = true →
    exec (.imdListenEnd dt step) s = .next ((s.begin dt).act fun _ b => modHvs (fun h => { h with imdBad := false })
       ((b.put HVS_STA_IMD_FOREIGN 0).put HVS_STA_IMD_INJECTING 1))) ∧
  (∀ (s : State) (dt capp capm : Nat) (vp vm ip im : Int),
    s.blk.keep.scanned = false →
    s.blk.get HVS_STA_IMD_INJECTING = 1 →
    imdMay (s.begin dt).env (s.begin dt).blk = true →
    s.blk.hvs.imdBad = true →
    exec (.imdCycleComplete dt vp vm ip im capp capm) s = .next ((s.begin dt).act fun _ b =>
       (((b.put HVS_IMD_RES_VALID 0).put HVS_STA_IMD_VALID 0).put HVS_STA_IMD_INJECTING 0).bump HVS_IMD_RES_CYCLES)) ∧
  (∀ (s : State) (dt capp capm : Nat) (vp vm ip im : Int),
    s.blk.keep.scanned = false →
    s.blk.get HVS_STA_IMD_INJECTING = 1 →
    imdMay (s.begin dt).env (s.begin dt).blk = true →
    s.blk.hvs.imdBad = false →
    s.blk.hvs.imdW = 0 →
    s.blk.hvs.imdF = 0 →
    inExc s.blk SRC_IMD_WARN 0 = false →
    inExc s.blk SRC_IMD_FAULT 0 = false →
    s.env.get HVS_IMD_THR_WARN ≤ 800 →
    s.env.get HVS_IMD_THR_FAULT ≤ 800 →
    calibrated s.blk 10 vp - calibrated s.blk 10 vm = 100000 →
    calibrated s.blk 11 ip - calibrated s.blk 11 im = 100000 →
    capm < 2 ^ 16 →
    ∃ t, exec (.imdCycleComplete dt vp vm ip im capp capm) s = .next t ∧ t.blk.get HVS_IMD_RES_R_ISO = 1000 ∧ t.blk.get HVS_IMD_RES_BELOW = 0 ∧ t.blk.get HVS_IMD_RES_ABOVE = 0 ∧ t.blk.get HVS_IMD_RES_VALID = 1 ∧ t.blk.get HVS_STA_IMD_VALID = 1 ∧ t.blk.get HVS_STA_IMD_INJECTING = 0 ∧
       t.blk.get HVS_IMD_DETAIL_CAP = capm ∧ t.blk.get HVS_IMD_DETAIL_PERIOD = imdPeriod capp capm ∧ t.par = s.par ∧ t.blk.mode = s.blk.mode) ∧
  (∀ (s : State) (dt sub : Nat),
    s.blk.phase = .run →
    s.blk.get TRIP_STA_ON_PATH_A = 1 →
    s.blk.get TRIP_STA_LATCH_A = 0 →
    s.blk.trip.at_ = none →
    ∃ t, exec (.latchSet dt 0 sub) s = .next t ∧ t.blk.get TRIP_STA_LATCH_A = 1 ∧ bkG t.env t.blk 0 = false ∧ bkG t.env t.blk 1 = false ∧ t.blk.get TRIP_STA_GATE_FORCED = 1 ∧ t.blk.trip.first = 1 ∧ t.blk.trip.lanes = 1 ∧ t.blk.trip.at_ = some t.clk.now ∧ t.blk.trip.ns = (t.clk.tb0 + sub * 20971520) / 2 ^ 24 % 2 ^ 32 ∧ t.blk.trip.frac = (t.clk.tb0 + sub * 20971520) % 2 ^ 24 ∧ SRC_CLICK_TRIP ∈ t.blk.watch.evt ∧ t.par = s.par) ∧
  (∀ (s : State) (dt r : Nat) (meas : Int),
    s.blk.keep.scanned = false →
    s.blk.get CLK_STA_TRIP_FWD_OK = 1 →
    nextLane (s.begin dt).blk = some 0 →
    s.blk.get TRIP_STA_LATCH_C = 0 →
    s.blk.get TRIP_STA_C_ROLE = 0 →
    s.blk.get TRIP_STA_LATCH_A = 0 →
    s.blk.get TRIP_STA_LATCH_B = 0 →
    r ≤ 32 →
    ∃ t, exec (.laneTest dt (some r) false meas false) s = .next t ∧ t.blk.get TRIP_TEST_RES_TESTS = (s.blk.get TRIP_TEST_RES_TESTS + 1) % 2 ^ 32 ∧ t.blk.get (testTimeFld 0) = r ∧
       t.blk.get (failFld 0) = 0 ∧ t.blk.get TRIP_STA_ON_PATH_A = 1 ∧ t.blk.get TRIP_STA_LATCH_A = 0 ∧ t.blk.trip.level = (testLevel (s.begin dt).env meas !((s.blk.trip.lastHigh[0]?).getD false)).2 ∧ t.par = s.par) ∧
  (∀ (s : State) (dt : Nat),
    s.blk.keep.scanned = false →
    exec (.tripClkLoss dt none) s = .next ((s.begin dt).act fun e b =>
       let b2 := lanesShow (pathFault e b (b.put CLK_STA_TRIP_FWD_OK 0))
       precondLost e SRC_TRIP_CLK_LOSS (pathJoined e b (reserveRecord e 0 b (judgeWith e (lanesCond b2 :: ⟨true, SRC_TRIP_CLK_LOSS, 0, 0, 0, 0⟩ :: pathConds b2) [] b2))))) ∧
  (∀ (s : State) (dt : Nat),
    s.blk.keep.scanned = false →
    exec (.tripClkRestored dt) s = .next ((s.begin dt).act fun e b => endExc e SRC_TRIP_CLK_LOSS 0 (b.put CLK_STA_TRIP_FWD_OK 1))) ∧
  (∀ (s : State) (dt d : Nat),
    s.blk.keep.scanned = false →
    bkOn (s.begin dt).env (s.begin dt).blk 0 = false →
    s.env.get TRIP_BK_TIME_FALL < d →
    exec (.bkFbMismatch dt 0 true d) s = .next ((s.begin dt).act fun e b =>
       raise e SRC_BK_FB_MISMATCH 1 0 0 (b.put TRIP_BK_LAST_FB1 (min 65535 d)))) ∧
  (∀ (s : State) (dt : Nat),
    s.blk.running = true →
    s.blk.holdup = false →
    s.blk.role ≠ .standby →
    s.blk.watch.bufs = [] →
    s.clk.Sound →
    exec (.captureManual dt) s = .next ((s.begin dt).act fun e b => finish .ok ((modWatch (fun w => { w with
       bufs := [{ trig := 0, tb0 := e.at0.1, wrap := e.at0.2, seq := 0, further := [], furtherN := 0, endsAt := e.now + ms 10,
                  frozen := false, lanes := 0, warm := false, at4 := 4 * e.now,
                  edges := ((b.trip.recent.filter (fun p => decide (4 * e.now ≤ p.1 + 8000000))).map (fun p => ((p.1 : Int) - 4 * e.now, p.2))).take 256,
                  overflow := decide (256 < (b.trip.recent.filter (fun p => decide (4 * e.now ≤ p.1 + 8000000))).length) }] }) b).put TRIP_CAP_CTL_RUNNING 1))) ∧
  (∀ (s : State) (dt : Nat) (c : CapBuf),
    s.blk.running = true →
    s.blk.watch.bufs = [c] →
    c.frozen = false →
    c.trig ≠ SRC_CLICK_TRIP →
    s.blk.watch.caps = [] →
    exec (.captureFreeze dt) s = .next (((s.begin dt).reach c.endsAt).act fun _ b => nvRequest (.capture 0)
       ((((modWatch (fun w => { w with
         bufs := [{ c with frozen := true }], capNum := w.capNum + 1,
         caps := [⟨0, w.capNum + 1, { c with frozen := true }, b.get PWR_BOOT_BOOT_NUMBER, c.warm, false, 0⟩] })
         (b.put TRIP_CAP_CTL_RUNNING 0)).put LOG_CAP_VALID (setBit (b.get LOG_CAP_VALID) 0 false))).put LOG_STA_STORING 1))) ∧
  (∀ (s : State) (dt : Nat) (c : Cap),
    s.blk.keep.scanned = false →
    captureReady (s.begin dt).blk = some c →
    exec (.captureStored dt) s = .next ((s.begin dt).act fun e b => recordRaise e ⟨SRC_CAPTURE_STORED, 0, c.slot, c.number, false, none⟩
       ((((modWatch (fun w => { w with bufs := w.bufs.filter (fun x => !(x.frozen && x.tb0 == c.buf.tb0 && x.wrap == c.buf.wrap)) }) b).put
         LOG_CAP_VALID (setBit (b.get LOG_CAP_VALID) c.slot true)).put LOG_CAP_LAST_SLOT c.slot).put
         LOG_CAP_LAST_NUMBER (c.number % 2 ^ 24) |>.put LOG_STA_STORING (boolBit (b.watch.caps.any (fun x =>
           x.slot != c.slot && !(bitOf (b.get LOG_CAP_VALID) x.slot) && !x.incomplete))))))

/-- Sample instants (R33, R153, R205 to R211). The next instant of the selected source, judged in time, is announced with
the next sweep ID and leaves its source; one inserted by R33 is announced 1 ms after the previous instant. At the
instant HVS latches both currents, the six nodes and the charge since the last one for the earliest sweep not yet
sampled, and shows them. A SYNC edge updates the period and the prediction; without an edge for two periods lock is
lost and, with SYNC selected, SYNC_LOSS begins. Each mapped end sends beacons with TB1, while PLL-N is locked (R91).
Commands that it says complete: sampleAt, autoInstant, sampleInstant, beacon, syncEdge, syncLoss. -/
def Obligations.SweepsAreAnnouncedAndSampled : Prop :=
  (∀ (s : State) (dt t : Nat),
    s.blk.keep.scanned = false →
    s.blk.twin = false →
    announces (commitStep (s.begin dt).env (s.begin dt).blk) = true →
    nextInstant (s.begin dt).env (commitStep (s.begin dt).env (s.begin dt).blk) = some t →
    judgeInstant (s.begin dt).env (commitStep (s.begin dt).env (s.begin dt).blk) t = .go →
    exec (.sampleAt dt) s = .next ((s.begin dt).act fun e b => chainPump e (announce t false (dropInstant e (commitStep e b))))) ∧
  (∀ (s : State) (dt t : Nat),
    s.blk.keep.scanned = false →
    s.blk.twin = false →
    announces (commitStep (s.begin dt).env (s.begin dt).blk) = true →
    nextInstant (s.begin dt).env (commitStep (s.begin dt).env (s.begin dt).blk) = some t →
    judgeInstant (s.begin dt).env (commitStep (s.begin dt).env (s.begin dt).blk) t = .late →
    exec (.sampleAt dt) s = .next ((s.begin dt).act fun e b => chainPump e (raise e SRC_SWEEP_LATE 0 0 0 ((dropInstant e (commitStep e b)).bump CHAIN_SWEEP_CNT_LOW)))) ∧
  (∀ (s : State) (dt p : Nat),
    s.blk.keep.scanned = false →
    s.blk.twin = false →
    announces (commitStep (s.begin dt).env (s.begin dt).blk) = true →
    (commitStep (s.begin dt).env (s.begin dt).blk).chain.base = some p →
    s.env.get CHAIN_SWEEP_CTL_SRC = 1 →
    (commitStep (s.begin dt).env (s.begin dt).blk).chain.pred = [] →
    950000 ≤ sdiff32 (s.begin dt).env.clk.ns1 p →
    50000 ≤ sdiff32 ((p + 1000000) % 2 ^ 32) (s.begin dt).env.clk.ns1 →
    (commitStep (s.begin dt).env (s.begin dt).blk).chain.flight.length < 4 →
    exec (.autoInstant dt) s = .next ((s.begin dt).act fun e b => chainPump e (announce ((p + 1000000) % 2 ^ 32) true (commitStep e b)))) ∧
  (∀ (s : State) (dt : Nat) (x : Sweep) (nv uv dqS dqH : Int) (v : List Int),
    s.blk.keep.scanned = false →
    s.blk.chain.flight.find? (fun y => y.lat.isNone) = some x →
    seqStep s.blk ≠ 2 →
    ∃ t, exec (.sampleInstant dt nv uv v dqS dqH) s = .next t ∧ t.blk.hvs.qS = s.blk.hvs.qS + dqS ∧ t.blk.hvs.qH = s.blk.hvs.qH + dqH ∧ t.blk.get HVS_T_SAMPLE_T = x.t % 2 ^ 32 ∧ (∃ y ∈ t.blk.chain.flight, y.id = x.id ∧ y.lat = some ⟨x.t, (s.begin dt).clk.now, shuntCurrent (s.begin dt).env (s.begin dt).blk (calibrated s.blk 6 nv), hallCurrent (s.begin dt).env (s.begin dt).blk (calibrated s.blk 7 uv), (s.blk.hvs.qS + dqS) / 1000, (s.blk.hvs.qH + dqH) / 1000, (mapIdx (calibrated s.blk) 0 (v.take 6)).map clampNode⟩) ∧ t.par = s.par ∧ t.blk.mode = s.blk.mode) ∧
  (∀ (s : State) (dt : Nat),
    s.blk.running = true →
    exec (.beacon dt) s = .next ((s.begin dt).act fun e b => diagStep e (beaconAll e (commitStep e b)))) ∧
  (∀ (e : Env) (b : Blk),
    mappedEnds b = [0] →
    b.get CLK_STA_PLLN_LOCK = 1 →
    (beaconAll e b).tx = b.tx ++ [.chain [0] (chainFrame 0xFF 0x02 b.chain.seqNo (leBytes 4 e.clk.ns1 ++ leBytes 1 0))]) ∧
  (∀ (s : State) (dt : Nat),
    s.blk.keep.scanned = false →
    s.blk.chain.edgeT = none →
    s.blk.get CHAIN_STA_SYNC_LOCKED = 0 →
    exec (.syncEdge dt) s = .next ((s.begin dt).act fun e b => (((modChain (fun c => { c with
       edgeT := some e.clk.ns1, edgeAt := e.now, gaps := [], edgeNo := c.edgeNo + 1 }) b).put CHAIN_SYNC_PERIOD_VALUE 0).put
       CHAIN_SYNC_LAST_VALUE e.clk.ns1).put CHAIN_STA_SYNC_LOCKED 0)) ∧
  (∀ (s : State) (dt d : Nat),
    s.blk.keep.scanned = false →
    syncTimer (s.begin dt).blk = some d →
    s.env.get CHAIN_SWEEP_CTL_SRC = 1 →
    exec (.syncLoss dt) s = .next (((s.begin dt).reach d).act fun e b => beginExc e SRC_SYNC_LOSS 0 0 0 0
       (modChain (fun c => { c with edgeT := none, gaps := [], pred := [] }) (b.put CHAIN_STA_SYNC_LOCKED 0))))

/-- A sweep's data (R212 to R214). A good copy of a position that has none is kept for the sweep it names, fills the cell
table (R34) and ends its retries; a bad or overdue copy begins READ_SWEEP retries, at most three within 20 µs, whose
exhaustion is counted and raises RETRY_EXHAUSTED; a RAW frame of the partner is held for the close. The close of the
earliest sampled sweep takes it out of flight. Commands that it says complete: sweepData, copyOverdue, retryExhausted,
rawReceive, sweepClose. -/
def Obligations.SweepDataIsCollectedAndClosed : Prop :=
  (∀ (s : State) (dt p id : Nat) (endB : Bool) (isup : Option (Nat × Int)) (f : List Byte) (d : SwData) (x : Sweep),
    s.blk.running = true →
    s.blk.twin = false →
    sweepParse isup f = some (p, id, d) →
    s.blk.chain.flight.find? (fun y => y.id == id && y.lat.isSome) = some x →
    x.has p = false →
    chainRoom s.blk = true →
    exec (.sweepData dt endB p isup f) s = .next ((s.begin dt).act fun e b =>
       let b1 := modSweep id (fun y => { y with good := y.good ++ [(p, d)], retries := y.retries.filter (fun r => r.pos != p) }) b
       judge e (Config.cmuSelfTestFails d.status) SRC_CMU_FAULT (1000 + p) p 0 0 (alignStep e p d.err
         (if x.owTakes p then b1 else fillCopy e x p d false b1)))) ∧
  (∀ (s : State) (dt p : Nat) (endB : Bool),
    s.blk.running = true →
    (ringEnds s.blk (ringOf p)).contains (2 * ringOf p + boolBit endB) = true →
    reaches s.blk (2 * ringOf p + boolBit endB) p = true →
    exec (.copyOverdue dt endB p) s = .next ((s.begin dt).act fun e b => badCopy e endB p b)) ∧
  (∀ (e : Env) (b : Blk) (p : Nat) (endB : Bool) (x : Sweep),
    b.chain.flight.find? (fun y => y.lat.isSome && !y.has p) = some x →
    x.retries = [] →
    retryNs (countBad endB p b) p ≤ 20000 →
    badCopy e endB p b = chainTx (endFor (countBad endB p b) p) p 0x03 (leBytes 1 x.id)
       (modCmu p (fun m => { m with retries := min 255 (m.retries + 1) }) ((modSweep x.id (fun y => { y with
         retried := true, retries := y.retries.filter (fun r => r.pos != p) ++ [⟨p, e.now, 1, false⟩] }) (countBad endB p b)).bump CHAIN_RETRY_CNT_LOW))) ∧
  (∀ (s : State) (dt p : Nat) (x : Sweep),
    s.blk.keep.scanned = false →
    s.blk.chain.flight.find? (fun y => y.retries.any (fun r => r.pos == p && !r.done && (decide (4 ≤ r.n) || decide (r.at_ + us 20 ≤ (s.begin dt).clk.now)))) = some x →
    exec (.retryExhausted dt p) s = .next ((s.begin dt).act fun e b => raise e SRC_RETRY_EXHAUSTED p 0 0
       ((modSweep x.id (fun y => { y with retries := y.retries.map (fun (r : Retry) => if r.pos = p then { r with done := true } else r) }) b).bump
         CHAIN_RETRY_CNT_HIGH))) ∧
  (∀ (s : State) (dt p id : Nat) (hd : TwHdr) (f : List Byte) (d : SwData) (l : TwLane),
    s.blk.keep.scanned = false →
    s.blk.running = true →
    s.blk.twin = true →
    s.blk.tw.lanes[hd.lane]? = some l →
    2 ≤ s.blk.get (laneFld hd.lane) →
    hd.crcOk = true →
    hd.seq = (l.rxSeq + 1) % 65536 →
    sweepParse none f = some (p, id, d) →
    exec (.rawReceive dt (hd, f)) s = .next ((s.begin dt).act fun e b => modSweep id (fun y =>
       if y.raw.any (fun g => g.1 == p) then y else { y with raw := y.raw ++ [(p, d)] }) (pktAccept e hd (.raw f) b).2)) ∧
  (∀ (s : State) (dt : Nat) (x : Sweep),
    s.blk.running = true →
    s.blk.chain.flight = [x] →
    x.lat ≠ none →
    closable (s.begin dt).env (s.begin dt).blk x = true →
    ∃ t, exec (.sweepClose dt) s = .next t ∧ t.blk.chain.flight = [] ∧ t.blk.get CHAIN_SWEEP_STA_ID = x.id % 256 ∧ t.par = s.par ∧ t.clk = (s.begin dt).clk)

/-- Breaks and tones (R198, R199, R217, R219). A mapped end port without symbols shows SILENT and, outside a warm boot,
begins PORT_SILENT for the port; a break notice clears the ring's OK bit and marks the sweeps in flight split; the
break is located from the notices of both ends, or from one alone where none can come from the other end, and begins
RING_BREAK at the index below the silent input; a repaired ring shows no break, ends both excursions and authenticates
its CMUs again. A tone of an internal fault raises CMU_FAULT; repeats within 20 µs are counted only. Commands that it
says complete: portSilent, breakNotice, ringRepair, toneReceived. -/
def Obligations.ChainBreaksAndTones : Prop :=
  (∀ (s : State) (dt port n : Nat),
    s.blk.running = true →
    endOfPort s.blk port = some n →
    exec (.portSilent dt port) s = .next ((s.begin dt).act fun e b => beginExc e SRC_PORT_SILENT port 0 0 0
       ((modChain (fun c => { c with silent := insSet c.silent port }) b).put (silentFld n) 1))) ∧
  (∀ (s : State) (dt port n : Nat),
    s.blk.phase = .warmBoot →
    s.blk.keep.scanned = false →
    endOfPort s.blk port = some n →
    exec (.portSilent dt port) s = .next ((s.begin dt).act fun _ b =>
       (modChain (fun c => { c with silent := insSet c.silent port }) b).put (silentFld n) 1)) ∧
  (∀ (s : State) (dt : Nat),
    s.blk.keep.scanned = false →
    s.blk.get CHAIN_BREAK_1_FIRST = 255 →
    s.blk.get CHAIN_BREAK_1_SECOND = 255 →
    s.blk.chain.notices = [] →
    seenTwice s.blk 0 4 = false →
    ∃ t, exec (.breakNotice dt 0 5 true) s = .next t ∧ t.blk.get CHAIN_BREAK_1_FIRST = 4 ∧ t.blk.get CHAIN_BREAK_1_SECOND = 255 ∧ t.blk.get CHAIN_STA_RING1_OK = 0 ∧
       (∀ y ∈ t.blk.chain.flight, y.split = true) ∧ t.par = s.par ∧ t.clk = (s.begin dt).clk) ∧
  (∀ (s : State) (dt : Nat),
    s.blk.keep.scanned = false →
    s.blk.get CHAIN_BREAK_1_FIRST = 255 →
    s.blk.get CHAIN_BREAK_1_SECOND = 255 →
    s.blk.chain.notices = [] →
    seenTwice s.blk 0 4 = true →
    ∃ t, exec (.breakNotice dt 0 5 true) s = .next t ∧ t.blk.get CHAIN_BREAK_1_FIRST = 255 ∧ t.blk.chain.notices = [(0, 5, true)] ∧ t.blk.get CHAIN_STA_RING1_OK = 0 ∧ t.blk.watch = s.blk.watch) ∧
  (∀ (s : State) (dt a : Nat) (found : List (Nat × Nat × Nat × Nat × Nat)),
    s.blk.running = true →
    s.blk.role = .standby →
    s.blk.chain.noticeAt = [(0, a)] →
    a + ms 1 ≤ (s.begin dt).clk.now →
    s.blk.get CHAIN_BREAK_1_FIRST = 4 →
    s.blk.get CHAIN_BREAK_1_SECOND = 255 →
    exec (.ringRepair dt 0 found) s = .next ((s.begin dt).act fun e b => modChain (fun c => { c with
       noticeAt := c.noticeAt.filter (fun p => p.1 != 0), notices := c.notices.filter (fun n => n.1 != 0) })
       ((((endExc e SRC_RING_BREAK 4 b).put CHAIN_BREAK_1_FIRST 255).put CHAIN_BREAK_1_SECOND 255).put CHAIN_STA_RING1_OK 1))) ∧
  (∀ (s : State) (dt a : Nat),
    s.blk.running = true →
    s.blk.role ≠ .standby →
    s.blk.holdup = false →
    s.blk.chain.noticeAt = [(0, a)] →
    a + ms 1 ≤ (s.begin dt).clk.now →
    s.blk.get CHAIN_BREAK_1_FIRST = 4 →
    s.blk.get CHAIN_BREAK_1_SECOND = 255 →
    s.blk.get CHAIN_BREAK_2_FIRST = 255 →
    ∃ t, exec (.ringRepair dt 0 []) s = .next t ∧ t.blk.get CHAIN_BREAK_1_FIRST = 255 ∧ t.blk.get CHAIN_BREAK_1_SECOND = 255 ∧ t.blk.get CHAIN_STA_RING1_OK = 1 ∧ t.blk.chain.noticeAt = [] ∧ t.par = s.par ∧ t.clk = (s.begin dt).clk) ∧
  (∀ (s : State) (dt p : Nat) (m : CmuRec),
    s.blk.keep.scanned = false →
    cmuAt s.blk p = some m →
    m.tones = 0 →
    m.serves = none →
    exec (.toneReceived dt p 4) s = .next ((s.begin dt).act fun e b =>
       let b2 := toneEnd p e (modCmu p (fun m => { m with tones := min 255 (m.tones + 1), toneFlags := 4, toneAt := e.now }) b)
       judgeAll e [⟨true, SRC_CMU_FAULT, p, p, 0, 0⟩]
         (modChain (fun c => { c with faulty := insSet (if isActive b2 SRC_CMU_FAULT then c.faulty else []) p }) b2)))

/-- The CMUs' identity (R201 to R204, R223 to R227). A commanded enumeration starts outside CONNECTING, CONNECTED and
HOLDUP; once its CMUs are found, echoed, authenticated and configured the addresses change, at once in the first one,
else at the instant of the ADDRESS_COMMIT, and then the result, the CMUs found per ring and the time it took are
shown; ECHO round trips become hop latencies. An AUTH answer is judged by the plant key: none present is FOREIGN; no
answer is FOREIGN too. CONFIRM of a SWAPPED position whose serial's low 16 bits agree makes its serial the confirmed
one; others answer CONFLICT; RETIRE without the unlock of its page answers LOCKED. Commands that it says complete:
enumerate, enumComplete, echoRecheck, authResponse, authTimeout, confirm. -/
def Obligations.EnumerationAndAuthentication : Prop :=
  (∀ (s : State) (dt : Nat),
    s.blk.running = true →
    s.blk.role ≠ .standby →
    s.blk.mode = .isolated →
    s.blk.holdup = false →
    s.blk.get TWIN_STA_TAKEOVER_HOLD = 0 →
    s.blk.chain.enum = none →
    exec (.enumerate dt) s = .next ((s.begin dt).act fun e b => finish .ok (enumStart e b))) ∧
  (∀ (e : Env) (b : Blk),
    (enumStart e b).get CHAIN_STA_ENUM_RUNNING = 1 ∧ (enumStart e b).chain.enum = some ⟨e.now, none⟩ ∧ (b.get CHAIN_ENUM_STA_RESULT = 0 → (enumStart e b).chain.count = e.get CHAIN_CMU_COUNT_COUNT)) ∧
  (∀ (s : State) (dt a : Nat),
    s.blk.keep.scanned = false →
    s.blk.chain.enum = some ⟨a, none⟩ →
    s.env.get CHAIN_CMU_COUNT_COUNT = 36 →
    s.blk.get CHAIN_ENUM_STA_RESULT = 0 →
    s.blk.chain.wait = [] →
    s.blk.holdup = false →
    s.blk.phase = .run →
    ∃ t, exec (.enumComplete dt [] (some []) false) s = .next t ∧ t.blk.get CHAIN_ENUM_STA_RESULT = 2 ∧ t.blk.get CHAIN_ENUM_STA_FOUND1 = 0 ∧ t.blk.get CHAIN_ENUM_STA_FOUND2 = 0 ∧ t.blk.get CHAIN_STA_ENUM_RUNNING = 0 ∧ t.blk.get CHAIN_STA_ALIGNED = 0 ∧ t.blk.chain.enum = none ∧ t.blk.chain.count = 36 ∧ t.par = s.par) ∧
  (∀ (s : State) (dt a : Nat),
    s.blk.keep.scanned = false →
    s.blk.chain.enum = some ⟨a, none⟩ →
    s.blk.get CHAIN_ENUM_STA_RESULT = 1 →
    s.env.get CHAIN_CMU_COUNT_COUNT = 36 →
    s.blk.phase = .run →
    ∃ t, exec (.enumComplete dt [] (some []) false) s = .next t ∧ t.blk.get CHAIN_ENUM_STA_RESULT = 1 ∧ t.blk.chain.enum = some ⟨a, some (2, 0, 0)⟩ ∧ t.blk.chain.count = s.blk.chain.count ∧ t.blk.chain.map = s.blk.chain.map ∧ t.par = s.par) ∧
  (∀ (e : Env) (b : Blk) (c : AddrCommit) (a t res n1 n2 : Nat),
    b.chain.commit = some c →
    c.at_ = some t →
    t ≤ e.now →
    b.chain.enum = some ⟨a, some (res, n1, n2)⟩ →
    res ≤ 4 →
    n1 ≤ 63 →
    n2 ≤ 63 →
    (commitStep e b).get CHAIN_ENUM_STA_RESULT = res ∧ (commitStep e b).get CHAIN_ENUM_STA_FOUND1 = n1 ∧ (commitStep e b).get CHAIN_ENUM_STA_FOUND2 = n2 ∧ (commitStep e b).get CHAIN_STA_ENUM_RUNNING = 0 ∧
       (commitStep e b).get CHAIN_STA_ALIGNED = boolBit (res == 1) ∧ (commitStep e b).chain.enum = none ∧ (commitStep e b).chain.commit = none ∧ (commitStep e b).chain.count = c.count ∧ (commitStep e b).chain.map = c.map) ∧
  (∀ (s : State) (dt p ra rb ta : Nat) (m : CmuRec),
    s.blk.running = true →
    s.blk.chain.echo = [] →
    s.blk.role ≠ .standby →
    cmuAt s.blk p = some m →
    m.hopA = echoLatency ra ta →
    m.hopB = echoLatency rb ta →
    exec (.echoRecheck dt [(p, ra, rb, ta)]) s = .next ((s.begin dt).act fun e b =>
       chainAsk e [] (modCmu p (fun m => { m with hopA := echoLatency ra ta, hopB := echoLatency rb ta }) (chainAsk e (echoReqs b p) b)))) ∧
  (∀ (s : State) (dt p serial n d : Nat) (mac : List Byte) (m : CmuRec),
    s.blk.keep.scanned = false →
    cmuAt s.blk p = some m →
    m.nonce = some (n, d) →
    s.blk.keep.keys = [] →
    exec (.authResponse dt p serial mac) s = .next ((s.begin dt).act fun e b => authOutcome e p serial 3 b)) ∧
  (∀ (s : State) (dt p n d : Nat) (m : CmuRec),
    s.blk.keep.scanned = false →
    cmuAt s.blk p = some m →
    m.nonce = some (n, d) →
    exec (.authTimeout dt p) s = .next (((s.begin dt).reach d).act fun e b => authOutcome e p 0 3 b)) ∧
  (∀ (s : State) (dt p : Nat) (m : CmuRec),
    s.blk.running = true →
    s.blk.holdup = false →
    s.blk.role ≠ .standby →
    s.blk.mode = .isolated →
    cmuAt s.blk p = some m →
    m.state = 4 →
    exec (.confirm dt p (m.serial % 65536)) s = .next ((s.begin dt).act fun e b => finish .ok (showAuth (endExc e SRC_CMU_SWAPPED p
       (nvRequest .retained (modCmu p (fun m => { m with conf := some m.serial, state := 2 }) b)))))) ∧
  (∀ (s : State) (dt p w : Nat) (m : CmuRec),
    s.blk.running = true →
    s.blk.holdup = false →
    s.blk.role ≠ .standby →
    s.blk.mode = .isolated →
    cmuAt s.blk p = some m →
    m.state = 4 →
    m.serial % 65536 ≠ w →
    exec (.confirm dt p w) s = .next ((s.begin dt).act fun _ b => finish .conflict b))

/-- Diagnostic slots (R221, R222, R228, R241). A due open-wire slot whose time serves, and for which the line has room, is
announced to the positions in no burst; one whose time does not serve is deferred; past the deferral limit it takes
the next sample instant that lies 50 µs ahead and raises OW_DEFERRED; its results count the test. A burst 50 µs ahead
is announced to its positions; data below the minimum amplitude leave the impedances alone and take their position out
of the burst. Commands that it says complete: openWireSlot, owDeferred, openWireResult, burst, burstData. -/
def Obligations.DiagnosticSlots : Prop :=
  (∀ (s : State) (dt t : Nat) (b1 : Blk),
    s.blk.keep.scanned = false →
    diagRuns (s.begin dt).blk = true →
    s.blk.chain.owPlan = none →
    s.blk.chain.owSince + ms (10 * s.env.get CHAIN_OW_CFG_PERIOD) ≤ (s.begin dt).clk.now →
    owFree (s.begin dt).env (s.begin dt).blk t = true →
    chainNow (s.begin dt).env (owReq (s.begin dt).blk t (owPositions (s.begin dt).blk)) (s.begin dt).blk = (true, b1) →
    exec (.openWireSlot dt t) s = .next ((s.begin dt).act fun e _ =>
       modChain (fun c => { c with owPlan := some (t, false), owSince := e.now }) (b1.put CHAIN_STA_OW_DEFERRING 0))) ∧
  (∀ (s : State) (dt t : Nat),
    s.blk.keep.scanned = false →
    diagRuns (s.begin dt).blk = true →
    s.blk.chain.owPlan = none →
    s.blk.chain.owSince + ms (10 * s.env.get CHAIN_OW_CFG_PERIOD) ≤ (s.begin dt).clk.now →
    owFree (s.begin dt).env (s.begin dt).blk t = false →
    exec (.openWireSlot dt t) s = .next ((s.begin dt).act fun e b =>
       b.put CHAIN_STA_OW_DEFERRING (boolBit (decide (b.chain.owSince + ms (20 * e.get CHAIN_OW_CFG_PERIOD) ≤ e.now))))) ∧
  (∀ (s : State) (dt : Nat) (x : Sweep) (b1 : Blk),
    s.blk.keep.scanned = false →
    diagRuns (s.begin dt).blk = true →
    s.blk.chain.owPlan = none →
    s.blk.chain.owSince + ms (10 * s.env.get CHAIN_OW_CFG_PERIOD) + sec (s.env.get CHAIN_OW_CFG_DEFER) ≤ (s.begin dt).clk.now →
    s.blk.chain.flight.find? (fun y => y.lat.isNone && decide (50000 ≤ sdiff32 y.t (s.begin dt).env.clk.ns1)) = some x →
    chainNow (s.begin dt).env (owReq (s.begin dt).blk x.t (owPositions (s.begin dt).blk)) (s.begin dt).blk = (true, b1) →
    exec (.owDeferred dt) s = .next ((s.begin dt).act fun e b => raise e SRC_OW_DEFERRED 0 0 0
       (modSweep x.id (fun y => { y with ow := true, owPos := owPositions b })
         (modChain (fun c => { c with owPlan := some (x.t, true), owSince := e.now }) (b1.put CHAIN_STA_OW_DEFERRING 0))))) ∧
  (∀ (s : State) (dt t : Nat) (took : Bool),
    s.blk.keep.scanned = false →
    s.blk.chain.owPlan = some (t, took) →
    exec (.openWireResult dt []) s = .next ((s.begin dt).act fun e b => judgeAll e []
       (modChain (fun c => { c with owPlan := none, owLast := e.now }) ((b.bump CHAIN_OW_STA_TESTS).put CHAIN_OW_STA_LAST_TOOK (if took then 1 else 0))))) ∧
  (∀ (s : State) (dt t p : Nat) (b1 : Blk),
    s.blk.keep.scanned = false →
    diagRuns (s.begin dt).blk = true →
    s.env.get LEDGER_RIPPLE_F ≠ 0 →
    s.blk.chain.burst = none →
    50000 ≤ sdiff32 t (s.begin dt).env.clk.ns1 →
    s.blk.chain.capFrom + sec 10 ≤ (s.begin dt).clk.now →
    chainNow (s.begin dt).env (reqAll (s.begin dt).blk 0x0A (leBytes 4 t ++ leBytes 8 (posBits [p]))) (s.begin dt).blk = (true, b1) →
    exec (.burst dt [p] t) s = .next ((s.begin dt).act fun e _ => modChain (fun c => { c with
       burst := some ⟨t, e.now + (sdiff32 t e.clk.ns1).toNat / 5, [p], false⟩, captured := [p], capFrom := e.now }) (b1.put CHAIN_STA_BURST_RUNNING 1))) ∧
  (∀ (s : State) (dt p g : Nat) (cells : List (Nat × List Nat)) (cur : List Int) (u : BurstRun),
    s.blk.keep.scanned = false →
    s.blk.chain.burst = some u →
    u.poss = [p] →
    (cmuAt s.blk p).bind CmuRec.serves = some g →
    rippleAmp (s.env.get LEDGER_RIPPLE_F) (burstSamples cells cur) < 1000 * s.env.get LEDGER_RIPPLE_MIN →
    exec (.burstData dt p cells cur) s = .next ((s.begin dt).act fun _ b => modChain (fun c => { c with
       burst := none, wait := c.wait.filter (fun r => r.type != 0x0B || r.pos != p) }) (b.put CHAIN_STA_BURST_RUNNING 0)))

/-- The ledger and the shuttle (R254, R261, R272, R276 to R279, R283). A current more than 5 % and 10 A beyond the
published limit for 2 s while CONNECTED begins LIMIT_EXCEEDED with the current and the limit; the journal period asks
for a journal commit and starts again. A plan cycle runs at the 100th frame and starts the count again. An accepted
order or half is marked, with its slot; an order not acknowledged by 100 µs before its start is stopped, counted and
raises SHUTTLE_NACK; a stopped half frees its transfer; a report replaces the position's counts, each read from its
frame. A spread that has stood above the alarm for an hour begins SPREAD_HIGH. A STANDBY plans without orders (R282).
Commands that it says complete: limitExceeded, journalPeriod, planCycle, shAck, shStopped, shReport, shReportRead,
orderAckTimeout, spreadHigh, portChirpRestored. -/
def Obligations.LedgerAndShuttleCommands : Prop :=
  (∀ (s : State) (dt held : Nat) (i : Int),
    s.blk.keep.scanned = false →
    s.blk.mode = .connected →
    0 ≤ i →
    105 * (s.blk.get LEDGER_LIM_CHG_LIMIT : Int) + 1000000 < 100 * i →
    2000000 ≤ held →
    exec (.limitExceeded dt i held) s = .next ((s.begin dt).act fun e b => beginExc e SRC_LIMIT_EXCEEDED 0 0 (dataWord i)
       (dataWord (b.get LEDGER_LIM_CHG_LIMIT)) b)) ∧
  (∀ (s : State) (dt d : Nat),
    s.blk.running = true →
    s.blk.holdup = false →
    s.blk.ledger.jrnAt = some d →
    exec (.journalPeriod dt) s = .next (((s.begin dt).reach d).act fun e b => nvRequest (.journal false)
       (modLed (fun l => { l with jrnAt := some (e.now + sec (e.get LEDGER_JRN_CFG_PERIOD)) }) b))) ∧
  (∀ (s : State) (dt : Nat),
    s.blk.running = true →
    100 ≤ s.blk.shuttle.frames →
    s.blk.role ≠ .standby →
    ∃ t, exec (.planCycle dt) s = .next t ∧ t.blk.shuttle.frames = 0 ∧ t.blk.get SHUTTLE_STA_ORDERING = (if shOrdering t.env t.blk then 1 else 0) ∧ t.par = s.par ∧ t.blk.mode = s.blk.mode ∧ t.blk.ledger = s.blk.ledger) ∧
  (∀ (s : State) (dt : Nat),
    s.blk.running = true →
    100 ≤ s.blk.shuttle.frames →
    s.blk.role = .standby →
    s.blk.tw.mir = none →
    ∃ t, exec (.planCycle dt) s = .next t ∧ t.blk.shuttle.frames = 0 ∧ t.blk.get SHUTTLE_COUNTS_ORDERS_LAST = s.blk.get SHUTTLE_COUNTS_ORDERS_LAST ∧ t.blk.get SHUTTLE_NEXT_ID_ID = s.blk.get SHUTTLE_NEXT_ID_ID ∧ t.blk.ledger = s.blk.ledger ∧ t.par = s.par ∧ t.blk.mode = s.blk.mode) ∧
  (∀ (s : State) (dt : Nat),
    s.blk.keep.scanned = false →
    s.blk.shuttle.frames < 100 →
    s.blk.role ≠ .standby →
    exec (.planCycle dt) s = .next ((s.begin dt).act fun _ b => b)) ∧
  (∀ (s : State) (dt p : Nat) (endB : Bool) (f q : List Byte) (x : Xfer),
    s.blk.keep.scanned = false →
    shFrame s.blk endB p 0x90 4 f = some q →
    leVal (slice q 3 1) = 0 →
    s.blk.shuttle.xfers.find? (fun y => y.tid == leVal (slice q 0 2) && y.poss.contains p) = some x →
    x.slotD.map (· / 4) = some p →
    exec (.shAck dt (ringOf p) endB p f) s = .next ((s.begin dt).act fun _ b =>
       modXfer (leVal (slice q 0 2)) (fun y => { y with ackD := true, slotD := some (4 * p + leVal (slice q 2 1) % 4) }) b)) ∧
  (∀ (s : State) (dt p : Nat) (endB : Bool) (f q : List Byte) (x : Xfer),
    s.blk.keep.scanned = false →
    shFrame s.blk endB p 0x91 6 f = some q →
    s.blk.shuttle.xfers.find? (fun y => y.tid == leVal (slice q 0 2) && y.poss.contains p) = some x →
    leVal (slice q 2 4) < x.q →
    x.whole = true →
    exec (.shStopped dt endB p f) s = .next ((s.begin dt).act fun e b => shuttleShow e (halfDone e p x (b.bump SHUTTLE_CNT2_STOPS)))) ∧
  (∀ (s : State) (dt p g : Nat) (endB : Bool) (f q : List Byte) (m : CmuRec),
    s.blk.keep.scanned = false →
    shFrame s.blk endB p 0x92 145 f = some q →
    cmuAt s.blk p = some m →
    m.serves = some g →
    s.blk.shuttle.reps = [] →
    s.blk.shuttle.xfers = [] →
    ∃ t, exec (.shReport dt endB p f) s = .next t ∧ t.blk.shuttle.reps = [(g, reportCnts q)] ∧ t.blk.shuttle.haltPos = s.blk.shuttle.haltPos.filter (· != p) ∧ t.blk.ledger.cells = s.blk.ledger.cells ∧ t.par = s.par) ∧
  (∀ (s : State) (dt p : Nat) (m : CmuRec),
    s.blk.running = true →
    s.blk.role ≠ .standby →
    cmuAt s.blk p = some m →
    m.state = 2 →
    reportDue (s.begin dt).env (s.begin dt).blk p = true →
    exec (.shReportRead dt p) s = .next ((s.begin dt).act fun e b => chainAsk e [reqTo b true p 0x12 []]
       (modShut (fun x => { x with readAt := x.readAt.filter (fun r => r.1 != p) ++ [(p, e.now)] }) b))) ∧
  (∀ (s : State) (dt tid : Nat) (x : Xfer),
    s.blk.keep.scanned = false →
    s.blk.shuttle.xfers.find? (fun y => y.tid == tid) = some x →
    x.ackD = false →
    x.st = 1 →
    x.startAt ≤ (s.begin dt).clk.now + us 100 →
    exec (.orderAckTimeout dt tid) s = .next ((s.begin dt).act fun e b => raise e SRC_SHUTTLE_NACK ((x.slotD.getD 0) / 4) 0 0
       (sendStop e x (modXfer tid (fun y => { y with st := 4, stopped := true, void := true }) (b.bump SHUTTLE_CNT_NACKS))))) ∧
  (∀ (s : State) (dt t : Nat),
    s.blk.keep.scanned = false →
    s.blk.shuttle.spreadAt = some t →
    t ≤ (s.begin dt).clk.now →
    exec (.spreadHigh dt) s = .next ((s.begin dt).act fun e b => beginExc e SRC_SPREAD_HIGH 0 0 (b.get SHUTTLE_SPREAD)
       (e.get SHUTTLE_PLAN_SPREAD_ALARM) b)) ∧
  (∀ (s : State) (dt : Nat),
    s.blk.keep.scanned = false →
    (∀ t, s.blk.shuttle.spreadAt = some t → (s.begin dt).clk.now < t) →
    exec (.spreadHigh dt) s = .next ((s.begin dt).act fun _ b => b)) ∧
  (∀ (s : State) (dt port n : Nat),
    s.blk.keep.scanned = false →
    endOfPort s.blk port = some n →
    exec (.portChirpRestored dt port) s = .next ((s.begin dt).act fun e b => endExc e SRC_PORT_SILENT port
       ((modChain (fun c => { c with silent := c.silent.filter (· != port) }) b).put (silentFld n) 0)))

/-- The thermal manager (R284, R286, R291, R294 to R296). An evaluation of the groups takes the hottest valid readings and
answers each group's next state by R286; without a valid reading a group keeps its state. The busbar group takes the
partner's maximum with its own readings, and nothing without one of its own. The module evaluation takes the sensors
that read within −55 to 150 °C, and shows S0 to S5 and the band. THERM evaluates nothing in a warm boot. A held coil's
resistance is duty × VCOIL / I, its temperature follows from COIL_R20 and begins or ends COIL_HOT, and is shown as
8000H while COIL_R20 is 0; a coil not in hold is not measured. During a warm boot S0 or S4 at the shutdown limit drops
every output once, sets the module group's latch and raises MOD_SHUTDOWN; otherwise the check changes nothing.
Commands that it says complete: thermGroupEval, thermModuleEval, coilRUpdate, aonThermalCheck. -/
def Obligations.ThermalEvaluations : Prop :=
  (∀ (s : State) (dt : Nat),
    s.blk.keep.scanned = false →
    thermRuns s.blk = true →
    ∃ t, exec (.thermGroupEval dt) s = .next t ∧ t.blk.therm.cell = evalGrp (cellCfg s.env) ((hottest ((cellNtcs s.blk).filterMap (fun p =>
       (ntcValid (s.begin dt).clk.now p.2.1 p.2.2).map (fun v => (p.1, v))))).map Prod.snd) s.blk.therm.cell ∧ t.blk.therm.bus = evalGrp (busCfg s.env) (if busReads s.blk = [] then none else (hottest (busReads s.blk ++ (s.blk.therm.partnerBus.map (fun v => (2, v))).toList)).map Prod.snd) s.blk.therm.bus ∧ t.par = s.par) ∧
  (∀ (s : State) (dt : Nat),
    s.blk.running = true →
    s.blk.therm.relatch = [] →
    s.blk.therm.partnerBus = none →
    s.blk.chain.count = 0 →
    busReads s.blk = [(0, 250), (1, 260)] →
    ∃ t, exec (.thermGroupEval dt) s = .next t ∧ t.blk.therm.cell = s.blk.therm.cell ∧ t.blk.therm.bus = evalGrp (busCfg s.env) (some 260) s.blk.therm.bus ∧ t.blk.get THERM_MAX_BUS_TEMP = 260 ∧ t.blk.get THERM_MAX_BUS_SRC = 1 ∧ t.par = s.par) ∧
  (∀ (s : State) (dt : Nat),
    thermRuns s.blk = false →
    exec (.thermGroupEval dt) s = .next ((s.begin dt).act fun _ b => b)) ∧
  (∀ (s : State) (dt : Nat) (ts : List (Option Int)) (m : Option Int),
    s.blk.keep.scanned = false →
    thermRuns s.blk = true →
    m = (hottest ((mapIdx (fun n (t : Option Int) => (n, t.filter (fun x => decide (-550 ≤ x) && decide (x ≤ 1500)))) 0 ts).filterMap
       (fun p => p.2.map (fun t => (p.1, t))))).map Prod.snd →
    ∃ t, exec (.thermModuleEval dt ts) s = .next t ∧ t.blk.therm.mod = evalGrp (modCfg s.env) m s.blk.therm.mod ∧ t.blk.therm.bandSet = (s.blk.therm.bandSet || m.isSome) ∧ t.par = s.par) ∧
  (∀ (s : State) (dt : Nat),
    s.blk.running = true →
    s.blk.therm.relatch = [] →
    s.blk.therm.bandSet = false →
    ∃ t, exec (.thermModuleEval dt [some 250, some 251, some 252, some 253, some 254, some 255]) s = .next t ∧ t.blk.therm.mod = evalGrp (modCfg s.env) (some 255) s.blk.therm.mod ∧ t.blk.get THERM_MOD_T01_LOW = 250 ∧ t.blk.get THERM_MOD_T01_HIGH = 251 ∧ t.blk.get THERM_MOD_T45_HIGH = 255 ∧ t.blk.get THERM_STA_BAND = bandOf 255 ∧ t.blk.therm.bandSet = true ∧ t.par = s.par) ∧
  (∀ (s : State) (dt : Nat) (ts : List (Option Int)),
    thermRuns s.blk = false →
    exec (.thermModuleEval dt ts) s = .next ((s.begin dt).act fun _ b => b)) ∧
  (∀ (s : State) (dt k i : Nat),
    s.blk.keep.scanned = false →
    thermRuns s.blk = true →
    inHold s.blk k = true →
    seriesMode s.blk = false →
    s.env.get (coilR20 k) = 0 →
    exec (.coilRUpdate dt k i) s = .next ((s.begin dt).act fun e b =>
       let c : Coil := { (b.therm.coils[k]?.getD ⟨0, 0, 0, 0, 25⟩) with
         r := if i = 0 then 65535 else min 65535 (b.get (dutyFld k) * b.get PWR_SUPPLY_VCOIL * 10 / i) }
       let b1 := ({ b with therm := { b.therm with
         coils := setAt b.therm.coils k { c with nextDuty := holdDuty e (b.get THERM_STA_BAND) k c } } }).put (coilIFld k) i
       endExc e SRC_COIL_HOT k (b1.put (coilTFld k) 0x8000))) ∧
  (∀ (s : State) (dt k i : Nat) (t : Int),
    s.blk.keep.scanned = false →
    thermRuns s.blk = true →
    inHold s.blk k = true →
    seriesMode s.blk = false →
    s.env.get (coilR20 k) ≠ 0 →
    t = 200 + divRound ((((if i = 0 then 65535 else min 65535 (s.blk.get (dutyFld k) * s.blk.get PWR_SUPPLY_VCOIL * 10 / i) : Nat) : Int) -
       s.env.get (coilR20 k)) * 1000000) (s.env.get (coilR20 k) * 393) →
    exec (.coilRUpdate dt k i) s = .next ((s.begin dt).act fun e b =>
       let c : Coil := { (b.therm.coils[k]?.getD ⟨0, 0, 0, 0, 25⟩) with
         r := if i = 0 then 65535 else min 65535 (b.get (dutyFld k) * b.get PWR_SUPPLY_VCOIL * 10 / i) }
       let b1 := ({ b with therm := { b.therm with
         coils := setAt b.therm.coils k { c with nextDuty := holdDuty e (b.get THERM_STA_BAND) k c } } }).put (coilIFld k) i
       if (e.get THERM_COIL_T_MAX_T_MAX : Int) < t then
         beginExc e SRC_COIL_HOT k (2 ^ k) (dataWord t) (e.get THERM_COIL_T_MAX_T_MAX) (b1.putInt (coilTFld k) t)
       else endExc e SRC_COIL_HOT k (b1.putInt (coilTFld k) t))) ∧
  (∀ (s : State) (dt k i : Nat),
    (thermRuns s.blk = false ∨ inHold s.blk k = false ∨ seriesMode s.blk = true) →
    exec (.coilRUpdate dt k i) s = .next ((s.begin dt).act fun _ b => b)) ∧
  (∀ (s : State) (dt : Nat) (s0 s4 : Int),
    s.blk.phase = .warmBoot →
    s.blk.therm.aonDrop = false →
    (modCfg s.env).shutdown ≤ s0 ∨ (modCfg s.env).shutdown ≤ s4 →
    exec (.aonThermalCheck dt s0 s4) s = .next ((s.begin dt).act fun e b => raise e SRC_MOD_SHUTDOWN 0 (dataWord (max s0 s4))
       (dataWord (modCfg e).shutdown) (setLatch 2 (dropOutputs e { b with therm := { b.therm with aonDrop := true } })))) ∧
  (∀ (s : State) (dt : Nat) (s0 s4 : Int),
    (s.blk.phase ≠ .warmBoot ∨ s.blk.therm.aonDrop = true ∨ (s0 < (modCfg s.env).shutdown ∧ s4 < (modCfg s.env).shutdown)) →
    exec (.aonThermalCheck dt s0 s4) s = .next ((s.begin dt).act fun _ b => b))

/-- The safety inputs (R302 to R312). Filtered levels are taken over and the pairs evaluated; a test window's end judges
its readings channel by channel once the pairs are evaluated, and sets the next window; a pair unequal past the
discrepancy time is locked in its safe direction as a retained record; the first evaluation sets EVALUATING. A valid
local edge reset is carried out; a press above 3 s blocks, and 100 ms low on both channels unblock; 60 s high begin
SRST_FAULT on the channel's object. A test source out of tolerance for 1 ms outside its pulse begins TPS_FAULT.
Commands that it says complete: siLevelChange, tpsWindowEnd, siDiscrepancy, siFirstEvaluation, edgeReset, srstBlock,
srstFault, tpsFault. -/
def Obligations.SafetyInputsAndReset : Prop :=
  (∀ (s : State) (dt : Nat) (chs : List (Nat × Bool × Nat)),
    s.blk.phase = .run →
    s.blk.keep.scanned = false →
    exec (.siLevelChange dt chs) s = .next ((s.begin dt).act fun e b => siEval e (siLevels e chs b))) ∧
  (∀ (s : State) (dt src d : Nat) (rs : List TpsRead),
    s.blk.running = true →
    s.blk.get SAFE_SI_STATE_EVALUATING = 1 →
    s.blk.safe.tps = .pulsing →
    s.blk.safe.tpsBy[src]? = some d →
    exec (.tpsWindowEnd dt src rs) s = .next (((s.begin dt).reach d).act fun e b =>
       let r := rs.foldl (fun (a : List Cond × Blk) x => (a.1 ++ (tpsOne e src a.2 x).1, (tpsOne e src a.2 x).2)) ([], tpsNext src e b)
       siEvalWith e r.1 [] r.2)) ∧
  (∀ (s : State) (dt src d : Nat) (rs : List TpsRead),
    s.blk.keep.scanned = false →
    s.blk.get SAFE_SI_STATE_EVALUATING = 0 →
    s.blk.safe.tps = .pulsing →
    s.blk.safe.tpsBy[src]? = some d →
    exec (.tpsWindowEnd dt src rs) s = .next (((s.begin dt).reach d).act (tpsNext src))) ∧
  (∀ (s : State) (dt src : Nat) (rs : List TpsRead),
    (s.blk.safe.tps ≠ .pulsing ∨ s.blk.safe.tpsBy[src]? = none) →
    exec (.tpsWindowEnd dt src rs) s = .next ((s.begin dt).act fun _ b => b)) ∧
  (∀ (s : State) (dt n d : Nat) (p : Pair),
    s.blk.running = true →
    s.blk.safe.pairs[n]? = some p →
    p.discBy = some d →
    exec (.siDiscrepancy dt n) s = .next (((s.begin dt).reach d).act fun e b => siEval e (lockPair n true (modSafe (fun x => { x with
       pairs := modAt x.pairs n (fun p => { p with discBy := none }) }) b)))) ∧
  (∀ (s : State) (dt d : Nat),
    s.blk.running = true →
    s.blk.safe.evalBy = some d →
    exec (.siFirstEvaluation dt) s = .next (((s.begin dt).reach d).act fun e b => siEval e (discFresh e
       ((modSafe (fun x => { x with evalBy := none }) b).put SAFE_SI_STATE_EVALUATING 1)))) ∧
  (∀ (s : State) (dt : Nat),
    s.blk.running = true →
    resetValid (s.begin dt).env (s.begin dt).blk = true →
    exec (.edgeReset dt) s = .next ((s.begin dt).act fun e b => edgeReset false e (modSafe (fun x => { x with
       a := { x.a with pressAt := none, relAt := none }, b := { x.b with pressAt := none, relAt := none } }) b))) ∧
  (∀ (s : State) (dt t : Nat),
    s.blk.running = true →
    s.blk.safe.a.high = true →
    s.blk.safe.a.pressAt = some t →
    t + sec 3 < (s.begin dt).clk.now →
    exec (.srstBlock dt) s = .next ((s.begin dt).act fun _ b => b.put SAFE_SRST_STA_BLOCKED 1)) ∧
  (∀ (s : State) (dt : Nat),
    s.blk.running = true →
    s.blk.safe.a.high = false →
    s.blk.safe.b.high = false →
    s.blk.safe.a.lowAt + ms 100 ≤ (s.begin dt).clk.now →
    s.blk.safe.b.lowAt + ms 100 ≤ (s.begin dt).clk.now →
    exec (.srstBlock dt) s = .next ((s.begin dt).act fun _ b => b.put SAFE_SRST_STA_BLOCKED 0)) ∧
  (∀ (s : State) (dt t : Nat),
    s.blk.running = true →
    s.blk.safe.a.high = true →
    s.blk.safe.a.pressAt = some t →
    s.blk.safe.b.high = false →
    t + sec 60 ≤ (s.begin dt).clk.now →
    exec (.srstFault dt) s = .next ((s.begin dt).act fun e b => judgeAll e
       [⟨true, SRC_SRST_FAULT, 14, 0, 0, 0⟩, ⟨false, SRC_SRST_FAULT, 15, 0, 0, 0⟩] b)) ∧
  (∀ (s : State) (dt src held : Nat),
    s.blk.running = true →
    1000 ≤ held →
    tpsPulse (s.begin dt).env (s.begin dt).blk src = false →
    exec (.tpsFault dt src true held) s = .next ((s.begin dt).act fun e b => beginExc e SRC_TPS_FAULT src 0 0 0 b))

/-- The outputs (R314, R315, R317). An output that is on gives its test pulse when it is due, on its grid, 2 ms later near
an LS test or a switch-test pulse; SO_TEST_NOW does it for all eight in MAINTENANCE and is DENIED elsewhere. A
readback low three times outside a pulse holds the output off and raises SO_READBACK with its number; high 100 times
while off begins SO_STUCK_ON. A held coil's LS test that is due passes or fails and turns to the next coil; a HS check
in its PWM period applies the pending duty. Commands that it says complete: soTestPulse, soReadbackViolation,
soTestNow, coilLsTest, coilPwmPeriod. -/
def Obligations.SafetyOutputsAndCoilChecks : Prop :=
  (∀ (s : State) (dt n : Nat) (q : Nat × Nat),
    s.blk.running = true →
    n < 8 →
    s.blk.role ≠ .standby →
    s.blk.safe.soBy[n]? = some q →
    q.1 + q.2 ≤ (s.begin dt).clk.now →
    soOn (s.begin dt).env (s.begin dt).blk n = true →
    pulseNear (s.begin dt).env (s.begin dt).blk = false →
    lsNear (s.begin dt).env (s.begin dt).blk = false →
    ∃ t, exec (.soTestPulse dt n) s = .next t ∧ t.blk.tx = s.blk.tx ++ [.soTest n (s.env.get SAFE_SO_TEST_WIDTH)] ∧ t.blk.safe = { s.blk.safe with soBy := setAt s.blk.safe.soBy n (gridNext q.1 (soPeriod s.env) (s.begin dt).clk.now, 0) } ∧ t.blk.sta = s.blk.sta ∧ t.par = s.par) ∧
  (∀ (s : State) (dt n : Nat) (q : Nat × Nat),
    s.blk.running = true →
    s.blk.role ≠ .standby →
    s.blk.safe.soBy[n]? = some q →
    q.1 + q.2 ≤ (s.begin dt).clk.now →
    (pulseNear (s.begin dt).env (s.begin dt).blk = true ∨ lsNear (s.begin dt).env (s.begin dt).blk = true) →
    exec (.soTestPulse dt n) s = .next ((s.begin dt).act fun _ b =>
       modSafe (fun x => { x with soBy := setAt x.soBy n (q.1, q.2 + ms 2) }) b)) ∧
  (∀ (s : State) (dt n run v : Nat),
    s.blk.running = true →
    n < 8 →
    soOn (s.begin dt).env (s.begin dt).blk n = true →
    3 ≤ run →
    v ≤ 300 →
    v + 300 < s.blk.get PWR_SUPPLY_VCOIL →
    exec (.soReadbackViolation dt n 0 run v) s = .next ((s.begin dt).act fun e b =>
       judgeWith e [⟨false, SRC_SO_STUCK_ON, n, n, 0, 0⟩] [{ src := SRC_SO_READBACK, code := n }] (soFailedShow
         (modSafe (fun x => { x with soHeld := setBit x.soHeld n true, soStuck := setBit x.soStuck n false })
           (b.put SAFE_SO_STATE_READBACK (setBit (b.get SAFE_SO_STATE_READBACK) n false)))))) ∧
  (∀ (s : State) (dt n run v place : Nat),
    s.blk.running = true →
    n < 8 →
    soOn (s.begin dt).env (s.begin dt).blk n = false →
    100 ≤ run →
    300 < v →
    s.blk.get PWR_SUPPLY_VCOIL ≤ v + 300 →
    exec (.soReadbackViolation dt n place run v) s = .next ((s.begin dt).act fun e b =>
       judgeWith e [⟨true, SRC_SO_STUCK_ON, n, n, 0, 0⟩] [] (soFailedShow
         (modSafe (fun x => { x with soStuck := setBit x.soStuck n true })
           (b.put SAFE_SO_STATE_READBACK (setBit (b.get SAFE_SO_STATE_READBACK) n true)))))) ∧
  (∀ (s : State) (dt : Nat),
    s.blk.running = true →
    s.blk.holdup = false →
    s.blk.role ≠ .standby →
    s.blk.mode = .maintenance →
    exec (.soTestNow dt) s = .next ((s.begin dt).act fun e b => finish .ok
       (if pulseNear e b ∨ lsNear e b then b else (List.range 8).foldl (fun x n => soPulse n e x) b))) ∧
  (∀ (s : State) (dt : Nat),
    s.blk.running = true →
    s.blk.holdup = false →
    s.blk.role ≠ .standby →
    s.blk.mode ≠ .maintenance →
    exec (.soTestNow dt) s = .next ((s.begin dt).act fun _ b => finish .denied b)) ∧
  (∀ (s : State) (dt k : Nat) (high low : Bool) (q : Nat × Nat),
    s.blk.running = true →
    s.blk.seq.picks = [] →
    s.blk.role ≠ .standby →
    s.blk.safe.lsBy = some q →
    q.1 + q.2 ≤ (s.begin dt).clk.now →
    nextTestCoil (s.begin dt).blk = some k →
    testWindow (s.begin dt).env (s.begin dt).blk k = false →
    pulseNear (s.begin dt).env (s.begin dt).blk = false →
    exec (.coilLsTest dt k high low) s = .next ((s.begin dt).act fun e b => coilSwitch e (2 * k + 1) (high && low)
       (testAnnounce k e ((modSafe (fun x => { x with testCoil := (k + 1) % 3, lsAt := some e.now, lsBy := some (gridNext q.1 (sec (e.get SAFE_COIL_TEST_PERIOD)) e.now, 0) })
         (b.emit (.coilTest k (e.get SAFE_COIL_TEST_WIDTH)))).bump SAFE_COIL_TEST_STA_TESTS)))) ∧
  (∀ (s : State) (dt k : Nat) (low high : Bool),
    s.blk.running = true →
    k < 3 →
    readsBack (s.begin dt).env (s.begin dt).blk k = true →
    seriesMode s.blk = false →
    inHold s.blk k = true →
    exec (.coilPwmPeriod dt k low high) s = .next ((s.begin dt).act fun e b => coilSwitch e (2 * k) (low && high) (pwmApply k b)))

/-- PSF (R325 to R334). A due status telegram takes the next sequence number and is placed in both launch queues; a
command frame not for the port counts as other, a malformed one as an error. The skew window's close counts the
missing copy and raises PSF_COPY_MISSING. The watchdog's expiry clears the permit and both network bits and begins
PSF_TIMEOUT; 3 s without a telegram start it. A port without copies for the watchdog time while the other delivers
begins PSF_SINGLE_NET, its time's end PSF_SINGLE_EXPIRED, and a second of matching copies ends both. PCV_CONFIRM of
the present PCV asks for the block's commit; another value answers CONFLICT. Commands that it says complete:
psfStatusLaunch, psfCommand, skewWindowClose, psfWatchdogExpiry, watchdogStart, psfSingleNet, psfSingleExpired,
netRestored, pcvConfirm, pcvRecompute. -/
def Obligations.ProcessSafeFrames : Prop :=
  (∀ (s : State) (dt t : Nat),
    s.blk.running = true →
    s.blk.holdup = false →
    s.env.get SAFE_PSF_CID_STA ≠ 0 →
    s.blk.psf.lastT = none →
    s.blk.ledger.last.map Lat.t = some t →
    ∃ u, exec (.psfStatusLaunch dt t) s = .next u ∧ u.blk.get SAFE_PSF_SEQ_TX = (s.blk.get SAFE_PSF_SEQ_TX + 1) % 2 ^ 32 ∧ u.blk.psf.lastT = some t ∧ (2 ≤ (s.blk.tim.qa.lq.filter LqE.psf).length ∨ u.blk.tim.qa.lq.length = s.blk.tim.qa.lq.length + 1) ∧ (2 ≤ (s.blk.tim.qb.lq.filter LqE.psf).length ∨ u.blk.tim.qb.lq.length = s.blk.tim.qb.lq.length + 1) ∧ u.par = s.par ∧ u.blk.mode = s.blk.mode) ∧
  (∀ (s : State) (dt port : Nat),
    s.blk.running = true →
    s.blk.holdup = false →
    s.blk.get (PORT_LINK_UP port) = 1 →
    exec (.psfCommand dt port []) s = .next ((s.begin dt).act fun _ b => b.bump (PORT_RX_ERR_HIGH port))) ∧
  (∀ (s : State) (dt port : Nat) (frame : List Byte) (f : EthF),
    s.blk.running = true →
    s.blk.holdup = false →
    s.blk.get (PORT_LINK_UP port) = 1 →
    ethParse frame = some f →
    f.etype = 0x88B5 →
    f.dst = portMac s.blk port →
    f.body.take 1 = [2#8] →
    exec (.psfCommand dt port frame) s = .next ((s.begin dt).act fun e b => psfMessage port f.body e (b.bump (PORT_RX_CLASS_HIGH port)))) ∧
  (∀ (s : State) (dt d : Nat),
    s.blk.running = true →
    s.blk.psf.skewBy = some d →
    s.blk.psf.rxPort = 0 →
    s.blk.psf.lostPort = none →
    exec (.skewWindowClose dt) s = .next (((s.begin dt).reach d).act fun e b => raise e SRC_PSF_COPY_MISSING 0 0 0
       ((modPsf (fun p => { p with skewBy := none }) b).bump SAFE_PSF_CNT_MISSING_B))) ∧
  (∀ (s : State) (dt d : Nat),
    s.blk.running = true →
    s.blk.holdup = false →
    s.blk.psf.wdBy = some d →
    exec (.psfWatchdogExpiry dt) s = .next (((s.begin dt).reach d).act fun e b => beginExc e SRC_PSF_TIMEOUT 0 0 0 0
       (((((modPsf (fun p => { p with wdBy := none }) b).put SAFE_STA_WD_EXPIRED 1).put SAFE_STA_PERMIT 0).put SAFE_STA_NET_A_OK 0).put
         SAFE_STA_NET_B_OK 0))) ∧
  (∀ (s : State) (dt d : Nat),
    s.blk.running = true →
    s.blk.holdup = false →
    s.blk.psf.wdStartBy = some d →
    s.blk.psf.wdBy = none →
    exec (.watchdogStart dt) s = .next (((s.begin dt).reach d).act fun e b => modPsf (fun p => { p with
       wdStartBy := none, wdBy := some (e.now + ms (e.get SAFE_PSF_TIME_T_SF)) }) b)) ∧
  (∀ (s : State) (dt t : Nat),
    s.blk.running = true →
    s.blk.holdup = false →
    s.blk.psf.seenB = none →
    s.blk.psf.seenA = some t →
    (s.begin dt).clk.now < t + ms (s.env.get SAFE_PSF_TIME_T_SF) →
    s.blk.psf.lostPort = none →
    exec (.psfSingleNet dt 1) s = .next ((s.begin dt).act fun e b => beginExc e SRC_PSF_SINGLE_NET 0 0 0 0
       (((modPsf (fun p => { p with lostPort := some 1, singleAt := some e.now, matchAt := none }) b).put SAFE_STA_SINGLE_NET 1).put
         SAFE_STA_NET_B_OK 0))) ∧
  (∀ (s : State) (dt t : Nat),
    s.blk.running = true →
    s.blk.holdup = false →
    s.blk.psf.singleAt = some t →
    exec (.psfSingleExpired dt) s = .next (((s.begin dt).reach (t + sec (3600 * s.env.get SAFE_PSF_SINGLE_T_SINGLE))).act fun e b =>
       beginExc e SRC_PSF_SINGLE_EXPIRED 0 0 0 0 b)) ∧
  (∀ (s : State) (dt t p : Nat),
    s.blk.keep.scanned = false →
    s.blk.psf.matchAt = some t →
    s.blk.psf.lostPort = some p →
    t + sec 1 ≤ (s.begin dt).clk.now →
    exec (.netRestored dt) s = .next ((s.begin dt).act fun e b => endExc e SRC_PSF_SINGLE_EXPIRED 0 (endExc e SRC_PSF_SINGLE_NET 0
       ((modPsf (fun x => { x with lostPort := none, singleAt := none, matchAt := none }) b).put SAFE_STA_SINGLE_NET 0)))) ∧
  (∀ (s : State) (dt : Nat),
    s.blk.running = true →
    s.blk.role ≠ .standby →
    s.blk.mode = .commissioning →
    s.blk.get SYS_STA_CFG_DEFAULTED = 0 →
    s.blk.holdup = false →
    exec (.pcvConfirm dt (s.blk.get SAFE_PCV)) s = .next ((s.begin dt).act fun _ b => finish .ok
       (nvRequest (.param (some (b.get SAFE_PCV)) false) (b.put SAFE_PCV_CONF (b.get SAFE_PCV))))) ∧
  (∀ (s : State) (dt v : Nat),
    s.blk.running = true →
    s.blk.role ≠ .standby →
    s.blk.mode = .commissioning →
    s.blk.get SYS_STA_CFG_DEFAULTED = 0 →
    s.blk.holdup = false →
    v ≠ s.blk.get SAFE_PCV →
    exec (.pcvConfirm dt v) s = .next ((s.begin dt).act fun _ b => finish .conflict b)) ∧
  (∀ (s : State) (dt d : Nat),
    s.blk.running = true →
    s.blk.twin = false →
    s.blk.role ≠ .standby →
    s.blk.safe.pcvBy = some d →
    s.blk.get SAFE_STA_PCV_CONFIRMED = 0 →
    exec (.pcvRecompute dt) s = .next (((s.begin dt).reach d).act fun e b =>
       (modSafe (fun x => { x with pcvBy := none }) b).put SAFE_PCV (paramPcv e.par)))

/-- The recorder (R340, R346, R350, R356, R357, R358, R364, R365). The hold of an event that is not extended ends its
activity. ERR_RELEASE arms the release and is recorded as an operator action with CODE 4 only while ERR_N is asserted
since an earlier cycle, and in the cycle of a raise that asserts it has no effect; ERR_N releases when it is armed, no
source is active at L1 or above and 2 ms have passed. FF_ACK, in a cycle without a raise before it, clears the first
fault only when it names its sequence, with CODE 3 recorded. A host raises only spare sources whose producer is HOST,
with its CODE and DATA0. The log's commit timer asks for a log commit. A lookup is held for its session. An anchor
records the absolute time with the TB0 time and the wrap count it lies in; one more than 1 s old or ahead of TB0
completes with CONFLICT. A push sends up to eight waiting records on both ports under the session's key, with the next
push sequence. The commands of a host leave the settings as they are. Commands that it says complete: eventHoldExpiry,
errRelease, errNRelease, ffAck, hostRaise, logCommit, logLookup, anchorTb0, eventPush. -/
def Obligations.EventsReleasesAndRecords : Prop :=
  (∀ (s : State) (dt src d : Nat),
    s.blk.keep.scanned = false →
    holdTimer src s.blk = some d →
    ∃ t, exec (.eventHoldExpiry dt src) s = .next t ∧ (∀ a, a ∈ t.blk.watch.act ↔ a ∈ s.blk.watch.act ∧ (a.src = src → ∀ x, a.hold = some x →
       ((s.begin dt).reach d).clk.now < x)) ∧ t.par = s.par ∧ t.blk.watch.cache = s.blk.watch.cache ∧ t.blk.mode = s.blk.mode ∧ t.blk.sta = s.blk.sta) ∧
  (∀ (s : State) (dt : Nat),
    s.blk.running = true →
    s.blk.holdup = false →
    s.blk.watch.errOn = true →
    s.blk.watch.errSince ≠ (s.begin dt).clk.now →
    exec (.errRelease dt) s = .next ((s.begin dt).act fun e b => finish .ok (recordRaise e { src := SRC_OPERATOR_ACTION, code := 4 } { b with
       watch := { b.watch with errArmed := true } }))) ∧
  (∀ (s : State) (dt : Nat),
    s.blk.running = true →
    s.blk.holdup = false →
    s.blk.watch.errSince = (s.begin dt).clk.now →
    cycleSeen (s.begin dt).env s.blk.watch = true →
    exec (.errRelease dt) s = .next ((s.begin dt).act fun _ b => finish .ok b)) ∧
  (∀ (s : State) (dt : Nat),
    s.blk.running = true →
    s.blk.holdup = false →
    s.blk.watch.errOn = false →
    exec (.errRelease dt) s = .next ((s.begin dt).act fun _ b => finish .ok b)) ∧
  (∀ (s : State) (dt : Nat),
    s.blk.running = true →
    s.blk.watch.errOn = true →
    s.blk.watch.errArmed = true →
    activeAt s.blk 1 = false →
    s.blk.watch.errSince + ms 2 ≤ (s.begin dt).clk.now →
    exec (.errNRelease dt) s = .next ((s.begin dt).act fun _ b => { b with
       watch := { b.watch with errOn := false, errArmed := false } })) ∧
  (∀ (s : State) (dt : Nat),
    s.blk.keep.scanned = false →
    (s.blk.watch.errArmed = false ∨ activeAt s.blk 1 = true ∨ (s.begin dt).clk.now < s.blk.watch.errSince + ms 2) →
    exec (.errNRelease dt) s = .next ((s.begin dt).act fun _ b => b)) ∧
  (∀ (s : State) (dt v : Nat) (r : Rec),
    s.blk.running = true →
    s.blk.holdup = false →
    s.blk.watch.rrRun = false →
    s.blk.watch.rrEnd = none →
    s.blk.watch.cyc = none →
    s.blk.watch.ffValid = true →
    s.blk.watch.ff = some r →
    r.seq = v →
    exec (.ffAck dt v) s = .next ((s.begin dt).act fun e b => finish .ok (recordRaise e { src := SRC_OPERATOR_ACTION, code := 3 } { b with
       watch := { b.watch with ffValid := false } }))) ∧
  (∀ (s : State) (dt v : Nat) (r : Rec),
    s.blk.running = true →
    s.blk.holdup = false →
    s.blk.watch.rrRun = false →
    s.blk.watch.rrEnd = none →
    s.blk.watch.cyc = none →
    s.blk.watch.ff = some r →
    r.seq ≠ v →
    exec (.ffAck dt v) s = .next ((s.begin dt).act fun _ b => finish .conflict b)) ∧
  (∀ (s : State) (dt n code d0 : Nat),
    s.blk.running = true →
    s.blk.holdup = false →
    s.blk.role ≠ .standby →
    n < 16 →
    s.env.get (FAULT_SPARE_MAP_PRODUCER n) = 1 →
    exec (.hostRaise dt (0xF0 + n) code d0) s = .next ((s.begin dt).act fun e b => finish .ok (raise e (0xF0 + n) code d0 0 b))) ∧
  (∀ (s : State) (dt src code d0 : Nat),
    s.blk.running = true →
    s.blk.holdup = false →
    (src < 0xF0 ∨ 0xFF < src ∨ s.env.get (FAULT_SPARE_MAP_PRODUCER (src - 0xF0)) ≠ 1) →
    exec (.hostRaise dt src code d0) s = .next ((s.begin dt).act fun _ b => finish .denied b)) ∧
  (∀ (s : State) (dt d : Nat),
    s.blk.keep.scanned = false →
    s.blk.watch.logAt = some d →
    s.blk.watch.cache ≠ [] →
    exec (.logCommit dt) s = .next (((s.begin dt).reach d).act fun _ b => nvRequest .log { b with
       watch := { b.watch with logAt := none } })) ∧
  (∀ (s : State) (dt who v : Nat),
    s.blk.running = true →
    s.blk.holdup = false →
    exec (.logLookup dt who v) s = .next ((s.begin dt).act fun _ b => finish .ok { b with
       sess := modAt b.sess who (fun x => { x with lookup := v }) })) ∧
  (∀ (s : State) (dt v : Nat),
    s.blk.running = true →
    s.blk.holdup = false →
    v ≤ (s.begin dt).clk.ns0 →
    (s.begin dt).clk.ns0 ≤ v + 1000000000 →
    (s.begin dt).clk.ns0 < 2 ^ 32 →
    exec (.anchorTb0 dt v) s = .next ((s.begin dt).act fun e b => finish .ok (recordRaise e ⟨SRC_TIME_ANCHOR, 0, e.get LOG_ANCHOR_ABS_LO,
       e.get LOG_ANCHOR_ABS_HI, false, some (v, e.clk.wrap)⟩ b))) ∧
  (∀ (s : State) (dt v : Nat),
    s.blk.running = true →
    s.blk.holdup = false →
    1000000000 < ((s.begin dt).clk.ns0 + 2 ^ 32 - v % 2 ^ 32) % 2 ^ 32 →
    exec (.anchorTb0 dt v) s = .next ((s.begin dt).act fun _ b => finish .conflict b)) ∧
  (∀ (s : State) (dt : Nat) (key : List Byte),
    s.blk.running = true →
    s.blk.holdup = false →
    s.env.get FAULT_PUSH_CFG_EN = 1 →
    s.blk.watch.push ≠ [] →
    (s.blk.watch.pushAt = none ∨ ∃ d, s.blk.watch.pushAt = some d ∧ d + ms 1 ≤ (s.begin dt).clk.now) →
    keyOf s.blk (s.env.get FAULT_PUSH_CFG_SESSION + 1) = some key →
    exec (.eventPush dt) s = .next ((s.begin dt).act fun e b =>
       let text := pushText e b (b.watch.push.take 8)
       let msg := text ++ graMac key text (sessOf b (e.get FAULT_PUSH_CFG_SESSION)).ctr
       (pushSend e msg 1 (pushSend e msg 0 { b with
         watch := { b.watch with push := b.watch.push.drop 8,
                                 pushSeq := (b.watch.pushSeq + 1) % 2 ^ 32,
                                 pushAt := some e.now } })).bump FAULT_PUSH_CNT_FRAMES)) ∧
  (∀ (s : State) (dt : Nat),
    s.blk.keep.scanned = false →
    s.env.get FAULT_PUSH_CFG_EN = 0 →
    exec (.eventPush dt) s = .next ((s.begin dt).act fun _ b => b))

/-- The time unit (R366, R375, R378 to R386, R389). TB0's wrap arrives when its remaining ticks have passed. A PTP frame
to a kept destination is queued with its timestamp, its first 128 bytes and its length, up to sixteen, and counted;
another one is counted as OTHER; a full queue drops it with PTP_RX_OVERFLOW. A push to a launch queue completes with
what its fields and the queue's room give, and cancels remove the unarmed host entries of a tag. The next pending
entry is armed from 2 µs before its time on a free match unit; an armed entry launches at its time, is counted, and
leaves a transmit timestamp if it asks for one; with the link down it is dropped; one whose slip limit has passed
raises LAUNCH_MISSED with its tag and time. A pulse generator's edges alternate: the rising edge sets the falling one
a WIDTH later, and a one-shot pulse stops at the falling edge. An enabled edge on TIN of at least 20 ns captures TB0,
its wraps, TB1 and TB2; a fifth waiting capture raises TIN_OVERFLOW. Commands that it says complete: tb0Wrap, ptpRx,
ptprxPop, lqPush, lqCancel, txtsPop, launchArm, entryLaunch, launchMissed, tpEdge, tinEdge, tinPop. -/
def Obligations.TimersQueuesAndCaptures : Prop :=
  (∀ (s : State) (dt : Nat),
    exec (.tb0Wrap dt) s = .next ((s.begin dt).elapse (wrapTicks (s.begin dt)))) ∧
  (∀ (s : State) (dt p ns frac : Nat) (frame : List Byte) (f : EthF),
    s.blk.running = true →
    s.blk.get (PORT_LINK_UP p) = 1 →
    ethParse frame = some f →
    f.etype = 0x88F7 →
    ptpDst s.blk p f.dst = true →
    (portQ s.blk p).ptp.length < 16 →
    exec (.ptpRx dt p frame ns frac) s = .next ((s.begin dt).act fun e b => modQ p (fun q => { q with
       ptp := q.ptp ++ [⟨frame.take 128, frame.length, ns, frac, wrapLow e ns⟩] }) (b.bump (PORT_RX_OTHER_LOW p)))) ∧
  (∀ (s : State) (dt p ns frac : Nat) (frame : List Byte) (f : EthF),
    s.blk.running = true →
    s.blk.get (PORT_LINK_UP p) = 1 →
    ethParse frame = some f →
    f.etype = 0x88F7 →
    ptpDst s.blk p f.dst = true →
    16 ≤ (portQ s.blk p).ptp.length →
    exec (.ptpRx dt p frame ns frac) s = .next ((s.begin dt).act fun e b => raise e SRC_PTP_RX_OVERFLOW 0 0 p
       ((b.bump (PORT_RX_OTHER_LOW p)).bump (ptpDropFld p)))) ∧
  (∀ (s : State) (dt p : Nat),
    s.blk.running = true →
    s.blk.holdup = false →
    exec (.ptprxPop dt p) s = .next ((s.begin dt).act fun _ b => finish .ok (modQ p (fun q => { q with ptp := q.ptp.drop 1 }) b))) ∧
  (∀ (s : State) (dt who p w : Nat),
    s.blk.running = true →
    s.blk.holdup = false →
    s.blk.role ≠ .standby →
    lqJudge p (s.env.get (TIME_LQ_PUSH_T p)) w (s.begin dt).env (s.begin dt).blk ≠ .ok →
    exec (.lqPush dt who p w) s = .next ((s.begin dt).act fun e b => finish (lqJudge p (s.env.get (TIME_LQ_PUSH_T p)) w e b) b)) ∧
  (∀ (s : State) (dt who p w : Nat),
    s.blk.running = true →
    s.blk.holdup = false →
    s.blk.role ≠ .standby →
    lqJudge p (s.env.get (TIME_LQ_PUSH_T p)) w (s.begin dt).env (s.begin dt).blk = .ok →
    (pushC w).imm = true →
    ∃ t, exec (.lqPush dt who p w) s = .next t ∧ t.blk.lastStatus = .ok ∧ t.blk.watch = s.blk.watch ∧ (∃ x, (portQ t.blk p).lq = (portQ s.blk p).lq ++ [x] ∧
       x.tag = (pushC w).tag ∧ x.imm = true ∧ x.psf = false ∧ x.unit = none ∧ x.time = s.env.get (TIME_LQ_PUSH_T p) ∧ 60 ≤ x.bytes.length) ∧ t.par = s.par) ∧
  (∀ (s : State) (dt p tag : Nat),
    s.blk.running = true →
    s.blk.holdup = false →
    s.blk.role ≠ .standby →
    tag ≠ 0xFFFF →
    exec (.lqCancel dt p tag) s = .next ((s.begin dt).act fun e b => finish .ok (lqShow p (modQ p (fun q => { q with
       lq := q.lq.filter (fun x => x.psf || x.unit.isSome || x.tag != tag ||
         armsNow p e b x) }) b)))) ∧
  (∀ (s : State) (dt p : Nat),
    s.blk.running = true →
    s.blk.holdup = false →
    s.blk.role ≠ .standby →
    exec (.lqCancel dt p 0xFFFF) s = .next ((s.begin dt).act fun _ b => finish .conflict b)) ∧
  (∀ (s : State) (dt p : Nat),
    s.blk.running = true →
    s.blk.holdup = false →
    s.blk.role ≠ .standby →
    exec (.txtsPop dt p) s = .next ((s.begin dt).act fun _ b => finish .ok (modQ p (fun q => { q with txts := q.txts.drop 1 }) b))) ∧
  (∀ (s : State) (dt p k u : Nat) (x : LqE),
    s.blk.running = true →
    firstEntry (s.begin dt).env (fun x => !x.imm && x.unit.isNone && decide (lqAhead (s.begin dt).env x ≤ 2000)) (portQ s.blk p) = some (k, x) →
    freeUnit (s.begin dt).env (s.begin dt).blk p = some u →
    exec (.launchArm dt p) s = .next ((s.begin dt).act fun _ b => modQ p (fun q => { q with
       lq := modAt q.lq k (fun x => { x with unit := some u }) }) b)) ∧
  (∀ (s : State) (dt p ns frac k : Nat) (x : LqE),
    p < 2 →
    s.blk.running = true →
    wayEnd s.blk p ≤ (s.begin dt).clk.now →
    launchNext (s.begin dt).env (s.begin dt).blk p = some (k, x) →
    s.blk.get (PORT_LINK_UP p) = 1 →
    x.telem = false →
    x.tsReq = false →
    x.imm = true →
    x.fill = false →
    portTxq s.blk p = [] →
    ∃ t, exec (.entryLaunch dt p ns frac) s = .next t ∧ t.blk.tx = [.eth p x.bytes] ∧ (portQ t.blk p).lq = (portQ s.blk p).lq.take k ++ (portQ s.blk p).lq.drop (k + 1) ∧
       (portQ t.blk p).txts = (portQ s.blk p).txts ∧ t.blk.get (PORT_TX_FRAMES p) = (s.blk.get (PORT_TX_FRAMES p) + 1) % 2 ^ 32 ∧ t.blk.watch = s.blk.watch ∧ t.blk.mode = s.blk.mode ∧ t.par = s.par) ∧
  (∀ (s : State) (dt p ns frac k : Nat) (x : LqE),
    s.blk.running = true →
    wayEnd s.blk p ≤ (s.begin dt).clk.now →
    launchNext (s.begin dt).env (s.begin dt).blk p = some (k, x) →
    x.imm = true →
    s.blk.get (PORT_LINK_UP p) = 1 →
    (s.begin dt).clk.now < wireEnd (ethDrainFrom (bytesPcp x.bytes) (s.begin dt).env p (s.begin dt).blk) p →
    exec (.entryLaunch dt p ns frac) s = .next ((s.begin dt).act fun e b => ethDrainFrom (bytesPcp x.bytes) e p b)) ∧
  (∀ (s : State) (dt p ns frac k : Nat) (x : LqE),
    s.blk.running = true →
    wayEnd s.blk p ≤ (s.begin dt).clk.now →
    launchNext (s.begin dt).env (s.begin dt).blk p = some (k, x) →
    s.blk.get (PORT_LINK_UP p) = 0 →
    exec (.entryLaunch dt p ns frac) s = .next ((s.begin dt).act fun _ b => (lqDrop p k b).bump (TIME_LQ_CNT_HIGH p))) ∧
  (∀ (s : State) (dt p k : Nat) (x : LqE),
    s.blk.running = true →
    firstEntry (s.begin dt).env (fun x => !x.imm && decide (lqAhead (s.begin dt).env x < -(1000 * s.env.get TIME_LQ_CFG_SLIP : Int))) (portQ s.blk p) = some (k, x) →
    s.blk.get (PORT_LINK_UP p) = 1 →
    exec (.launchMissed dt p) s = .next ((s.begin dt).act fun e b => ethDrain e p (raise e SRC_LAUNCH_MISSED x.tag x.time p
       ((lqDrop p k b).bump (TIME_LQ_MISS_HIGH p))))) ∧
  (∀ (s : State) (dt g d : Nat),
    s.blk.running = true →
    (tpOf s.blk g).edgeBy = some d →
    (tpOf s.blk g).go = true →
    (tpOf s.blk g).high = false →
    exec (.tpEdge dt g) s = .next (((s.begin dt).reach d).act fun e b => (modTp g (fun t => { t with
       high := true,
       begun := true,
       edgeBy := some (reachAt e b (e.get (TIME_TP_CTL_BASE g)) (((tpOf b g).rise + e.get (TIME_TP_WIDTH g)) % 2 ^ 32)) }) b).emit (.tpEdge g true))) ∧
  (∀ (s : State) (dt g d : Nat),
    s.blk.running = true →
    (tpOf s.blk g).edgeBy = some d →
    (tpOf s.blk g).go = true →
    (tpOf s.blk g).high = true →
    tpPeriodic s.env g = false →
    exec (.tpEdge dt g) s = .next (((s.begin dt).reach d).act fun _ b => tpStop g (b.emit (.tpEdge g false)))) ∧
  (∀ (s : State) (dt width : Nat),
    s.blk.keep.scanned = false →
    s.blk.powered = true →
    s.env.get TIME_TIN_CFG_EN = 1 →
    s.env.get TIME_TIN_CFG_EDGE = 0 →
    20 ≤ width →
    (s.blk.tim.tinAt = none ∨ ∃ x, s.blk.tim.tinAt = some x ∧ x + 20 ≤ (s.begin dt).clk.now) →
    s.blk.tim.tin.length < 4 →
    exec (.tinEdge dt false width) s = .next ((s.begin dt).act fun e b => { b with tim := { b.tim with tin := b.tim.tin ++ [(e.start.1.ns0, e.start.1.wrap, e.start.1.ns1, e.start.1.ns2)], tinAt := some e.now } })) ∧
  (∀ (s : State) (dt width : Nat),
    s.blk.keep.scanned = false →
    s.blk.powered = true →
    s.env.get TIME_TIN_CFG_EN = 1 →
    s.env.get TIME_TIN_CFG_EDGE = 0 →
    20 ≤ width →
    s.blk.tim.tinAt = none →
    4 ≤ s.blk.tim.tin.length →
    exec (.tinEdge dt false width) s = .next ((s.begin dt).act fun e b => raise e SRC_TIN_OVERFLOW 0 0 0 (b.put TIME_TIN_STA_OVERFLOW 1))) ∧
  (∀ (s : State) (dt : Nat),
    s.blk.running = true →
    s.blk.holdup = false →
    exec (.tinPop dt) s = .next ((s.begin dt).act fun _ b => finish .ok { b with tim := { b.tim with tin := b.tim.tin.drop 1 } }))

/-- The plant ports (R394 to R396, R398, R399). A negotiated link shows the highest common speed and what the PHY reports,
ends LINK_A_DOWN or LINK_B_DOWN, and holds LINK_SPEED_LOW while it runs at 1000BASE-T on a port that advertises
2.5GBASE-T. A lost link clears the registers, is counted and begins its source, as does the end of the power-up grace
without a link. PORT_RESTART restarts the link except in CONNECTING and CONNECTED. A received PAUSE stops the port for
its quanta and is counted; above 48 KiB of receive fill the port sends PAUSE when PAUSE_TX is set. Frames with a bad
FCS or length, of no class, or without room are counted by kind. A scrub retires each descriptor found uncorrectable,
and without any it leaves the module as it was. Commands that it says complete: linkUp, linkLoss, linkGraceEnd,
portRestart, pauseRx, pauseRepeat, frameDiscard, descScrub. -/
def Obligations.PortsLinksAndFlow : Prop :=
  (∀ (s : State) (dt p : Nat) (g1 mdix pause : Bool) (snr cable : Nat),
    s.blk.running = true →
    s.blk.holdup = false →
    s.blk.get CLK_STA_PLLN_LOCK = 1 →
    p < 2 →
    s.env.get (PORT_CFG_ADV_2G5 p) = 1 →
    s.blk.get (PORT_LINK_UP p) = 0 →
    exec (.linkUp dt p true g1 mdix pause snr cable) s = .next ((s.begin dt).act fun e b => judgeAll e [⟨false, linkDownSrc p, 0, 0, 0, 0⟩, ⟨false, SRC_LINK_SPEED_LOW, p, p, 0, 0⟩]
       (modPort p (fun x => { x with upAt := some e.now, pauseTill := 0, pausing := false, pauseAt := none })
         ((((((b.put (PORT_LINK_UP p) 1).put (PORT_LINK_SPEED p) 2).put (PORT_LINK_MDIX p) (boolBit mdix)).put
           (PORT_LINK_PARTNER_PAUSE p) (boolBit pause)).put (PORT_PHY_SNR_MARGIN p) (min 255 snr)).put (PORT_PHY_CABLE_M p) (min 255 cable))))) ∧
  (∀ (s : State) (dt p : Nat) (mdix pause : Bool) (snr cable : Nat),
    s.blk.running = true →
    s.blk.holdup = false →
    s.blk.get CLK_STA_PLLN_LOCK = 1 →
    p < 2 →
    s.env.get (PORT_CFG_ADV_2G5 p) = 1 →
    s.env.get (PORT_CFG_ADV_1G p) = 1 →
    s.blk.get (PORT_LINK_UP p) = 0 →
    exec (.linkUp dt p false true mdix pause snr cable) s = .next ((s.begin dt).act fun e b => judgeAll e [⟨false, linkDownSrc p, 0, 0, 0, 0⟩, ⟨true, SRC_LINK_SPEED_LOW, p, p, 0, 0⟩]
       (modPort p (fun x => { x with upAt := some e.now, pauseTill := 0, pausing := false, pauseAt := none })
         ((((((b.put (PORT_LINK_UP p) 1).put (PORT_LINK_SPEED p) 1).put (PORT_LINK_MDIX p) (boolBit mdix)).put
           (PORT_LINK_PARTNER_PAUSE p) (boolBit pause)).put (PORT_PHY_SNR_MARGIN p) (min 255 snr)).put (PORT_PHY_CABLE_M p) (min 255 cable))))) ∧
  (∀ (s : State) (dt p : Nat),
    physUp s.blk = true →
    p < 2 →
    s.blk.get (PORT_LINK_UP p) = 1 →
    exec (.linkLoss dt p) s = .next ((s.begin dt).act fun e b => judgeAll e [⟨true, linkDownSrc p, 0, 0, 0, 0⟩, ⟨false, SRC_LINK_SPEED_LOW, p, p, 0, 0⟩]
       ((modPort p (fun x => { x with upAt := none, pauseTill := 0, pausing := false, pauseAt := none, txq := [] })
         (((b.put (PORT_LINK_UP p) 0).put (PORT_LINK_SPEED p) 0).put (PORT_LINK_UP_TIME p) 0)).bump (PORT_LINK_DOWN_CNT p)))) ∧
  (∀ (s : State) (dt p d : Nat),
    s.blk.running = true →
    s.blk.holdup = false →
    (s.blk.ports[p]?).bind PortS.graceBy = some d →
    s.blk.get (PORT_LINK_UP p) = 0 →
    exec (.linkGraceEnd dt p) s = .next (((s.begin dt).reach d).act fun e b => beginExc e (linkDownSrc p) 0 0 0 0
       (modPort p (fun x => { x with graceBy := none }) b))) ∧
  (∀ (s : State) (dt p : Nat),
    s.blk.running = true →
    s.blk.holdup = false →
    s.blk.role ≠ .standby →
    (s.blk.mode = .connecting ∨ s.blk.mode = .connected) →
    exec (.portRestart dt p) s = .next ((s.begin dt).act fun _ b => finish .denied b)) ∧
  (∀ (s : State) (dt p : Nat),
    s.blk.running = true →
    s.blk.holdup = false →
    s.blk.role ≠ .standby →
    s.blk.mode ≠ .connecting →
    s.blk.mode ≠ .connected →
    exec (.portRestart dt p) s = .next ((s.begin dt).act fun e b => finish .ok (linkLoss p e b))) ∧
  (∀ (s : State) (dt p quanta : Nat),
    s.blk.running = true →
    p < 2 →
    s.blk.get (PORT_LINK_UP p) = 1 →
    exec (.pauseRx dt p quanta) s = .next ((s.begin dt).act fun e b => ethDrain e p (modPort p (fun x => { x with
       pauseTill := e.now + quantaTicks b p (min 65535 quanta) }) ((ethDrain e p b).bump (PORT_PAUSE_RX p))))) ∧
  (∀ (s : State) (dt p fill : Nat) (x : PortS),
    s.blk.running = true →
    p < 2 →
    s.blk.get (PORT_LINK_UP p) = 1 →
    s.env.get (PORT_CFG_PAUSE_TX p) = 1 →
    s.blk.ports[p]? = some x →
    x.pausing = false →
    49152 ≤ fill →
    exec (.pauseRepeat dt p fill) s = .next ((s.begin dt).act fun e b =>
       modPort p (fun y => { y with pausing := true, pauseAt := some e.now }) (sendPause e p 0xFFFF
         (((ethDrain e p b).put (PORT_BUF_FILL p) (min 64 (fill / 1024))).put (PORT_BUF_PEAK p) (max (b.get (PORT_BUF_PEAK p)) (min 64 (fill / 1024))))))) ∧
  (∀ (s : State) (dt p fill : Nat) (x : PortS),
    s.blk.running = true →
    p < 2 →
    s.blk.get (PORT_LINK_UP p) = 1 →
    s.env.get (PORT_CFG_PAUSE_TX p) = 1 →
    s.blk.ports[p]? = some x →
    x.pausing = true →
    fill ≤ 16384 →
    exec (.pauseRepeat dt p fill) s = .next ((s.begin dt).act fun e b =>
       modPort p (fun y => { y with pausing := false, pauseAt := none }) (sendPause e p 0
         (((ethDrain e p b).put (PORT_BUF_FILL p) (min 64 (fill / 1024))).put (PORT_BUF_PEAK p) (max (b.get (PORT_BUF_PEAK p)) (min 64 (fill / 1024))))))) ∧
  (∀ (s : State) (dt p : Nat) (frame : List Byte) (ok : Bool) (fill : Nat),
    s.blk.running = true →
    s.blk.holdup = false →
    p < 2 →
    s.blk.get (PORT_LINK_UP p) = 1 →
    (ok = false ∨ frame.length < 60 ∨ 1518 < frame.length) →
    exec (.frameDiscard dt p frame ok fill) s = .next ((s.begin dt).act fun _ b => b.bump (PORT_RX_ERR_HIGH p))) ∧
  (∀ (s : State) (dt p : Nat) (frame : List Byte) (f : EthF) (k fill : Nat),
    s.blk.running = true →
    s.blk.holdup = false →
    p < 2 →
    s.blk.get (PORT_LINK_UP p) = 1 →
    60 ≤ frame.length →
    frame.length ≤ 1518 →
    ethParse frame = some f →
    frameClass s.blk p f = some k →
    k ≠ 4 →
    (if k = 2 then portReserve else portBuffer - portReserve) < fill + frame.length →
    exec (.frameDiscard dt p frame true fill) s = .next ((s.begin dt).act fun e b => raise e SRC_RX_DROP p 0 0 (b.bump (PORT_RX_ERR_LOW p)))) ∧
  (∀ (s : State) (dt p : Nat),
    s.blk.running = true →
    p < 2 →
    exec (.descScrub dt p [none]) s = .next ((s.begin dt).act fun e b =>
       let b2 := raise e SRC_LQ_DESC_FAULT 0 0 0 (nvRequest .retained (b.bump (PORT_DESC_RETIRED p)))
       if b2.get (PORT_DESC_SPARE_IN_USE p) < 8 then
         recordRaise e { src := SRC_RESERVE_IN, code := 7 }
           ((b2.bump (PORT_DESC_SPARE_IN_USE p)).put SYS_RESERVE_USED_USED (setBit (b2.get SYS_RESERVE_USED_USED) 7 true))
       else beginExc e SRC_LQ_DESC_EXHAUSTED p 0 0 0 (b2.put (PORT_DESC_CAPACITY p) (b2.get (PORT_DESC_CAPACITY p) - 1)))) ∧
  (∀ (s : State) (dt p : Nat),
    s.blk.keep.scanned = false →
    exec (.descScrub dt p []) s = .next ((s.begin dt).act fun _ b => b))

/-- The Twin Link (R404 to R410, R419). A packet 8 µs unacknowledged makes its lane send everything unacknowledged again,
oldest first, and is counted. A lane whose lock is lost goes down with TWIN_LANE_FAIL, its packets going to the other
lane; 100 ms later it retrains, and after 1 s without error it is in use again and its source ends. A heartbeat in
sequence from a healthy lane is taken; one with a bad CRC is counted only. The firefly line sends its eight bits; a
code with a start pulse of 6 µs to 10 µs, odd parity and its place in the 1 ms grid is taken, another one is counted
as bad. A path 3 ms silent is lost; the partner's beacons 3 ms absent clear PARTNER_SEEN; the suspension for a warm
boot of the partner ends at its deadline. Commands that it says complete: replay, twinLaneFail, laneRetrain,
laneRestore, heartbeatSend, heartbeat, fireflySend, fireflyCode, pathLost, partnerSeenExpiry, warmBootSuspendEnd. -/
def Obligations.TwinLanesAndPaths : Prop :=
  (∀ (s : State) (dt k : Nat) (l : TwLane),
    s.blk.keep.scanned = false →
    s.blk.powered = true →
    s.blk.tw.lanes[k]? = some l →
    l.unacked.any (fun u => decide (max u.2.1 l.ackAt + us 8 ≤ (s.begin dt).clk.now)) = true →
    exec (.replay dt k) s = .next ((s.begin dt).act fun e b => l.unacked.foldl (fun (x : Blk) u => x.emit (.twin k u.1 l.rxSeq u.2.2))
       ((modLane k (fun y => { y with ackAt := e.now }) b).bump (if k = 0 then TWIN_LANE_CNT_REPLAY_L0 else TWIN_LANE_CNT_REPLAY_L1)))) ∧
  (∀ (s : State) (dt k : Nat) (l : TwLane),
    s.blk.running = true →
    s.blk.twin = true →
    s.blk.tw.lanes[k]? = some l →
    l.unacked = [] →
    s.blk.get (laneFld k) ≠ 0 →
    exec (.twinLaneFail dt k true) s = .next ((s.begin dt).act fun e b => laneReserve e (beginExc e SRC_TWIN_LANE_FAIL k k 0 0
       ((modLane k (fun l => { l with
         unacked := [], held := [], used := [], crcAt := [], okSince := none, failAt := some e.now }) b).put (laneFld k) 0)))) ∧
  (∀ (s : State) (dt k x : Nat) (l : TwLane),
    s.blk.keep.scanned = false →
    s.blk.powered = true →
    s.blk.twin = true →
    s.blk.tw.lanes[k]? = some l →
    s.blk.get (laneFld k) < 2 →
    s.blk.get CLK_STA_PLLN_LOCK = 1 →
    l.failAt = some x →
    x + ms 100 ≤ (s.begin dt).clk.now →
    exec (.laneRetrain dt k true) s = .next ((s.begin dt).act fun e b => (modLane k (fun l => { l with
       okSince := some e.now, failAt := some e.now, rxSeq := 65535, txSeq := 65535 }) b).put (laneFld k) (if inExc b SRC_TWIN_LANE_FAIL k then 3 else 2))) ∧
  (∀ (s : State) (dt k x : Nat) (l : TwLane) (lock : Bool),
    s.blk.keep.scanned = false →
    s.blk.tw.lanes[k]? = some l →
    l.failAt = some x →
    (s.begin dt).clk.now < x + ms 100 →
    exec (.laneRetrain dt k lock) s = .next ((s.begin dt).act fun _ b => b)) ∧
  (∀ (s : State) (dt k x : Nat) (l : TwLane),
    s.blk.keep.scanned = false →
    s.blk.powered = true →
    s.blk.get (laneFld k) = 3 →
    s.blk.tw.lanes[k]? = some l →
    l.okSince = some x →
    exec (.laneRestore dt k) s = .next (((s.begin dt).reach (x + sec 1)).act fun e b => laneReserve e (endExc e SRC_TWIN_LANE_FAIL k
       ((modLane k (fun l => { l with failAt := none, crcAt := [] }) b).put (laneFld k) 2)))) ∧
  (∀ (s : State) (dt : Nat),
    s.blk.running = true →
    s.blk.twin = true →
    s.blk.role = .standby →
    s.blk.tw.ho = 0 →
    ∃ t, exec (.heartbeatSend dt) s = .next t ∧ t.blk.role = .standby ∧ t.blk.mode = s.blk.mode ∧ t.blk.watch = s.blk.watch ∧ t.blk.get TWIN_HEALTH_BITS = healthBits (s.begin dt).blk % 2 ^ TWIN_HEALTH_BITS.w ∧ t.par = s.par ∧ t.blk.ledger = s.blk.ledger) ∧
  (∀ (s : State) (dt : Nat) (hd : TwHdr) (p : List Byte) (l : TwLane),
    s.blk.running = true →
    s.blk.twin = true →
    s.blk.tw.lanes[hd.lane]? = some l →
    hd.crcOk = true →
    hd.seq ≠ (l.rxSeq + 1) % 65536 →
    exec (.heartbeat dt hd p) s = .next ((s.begin dt).act fun _ b => b)) ∧
  (∀ (s : State) (dt : Nat) (hd : TwHdr) (p : List Byte) (l : TwLane),
    s.blk.running = true →
    s.blk.twin = true →
    s.blk.tw.lanes[hd.lane]? = some l →
    2 ≤ s.blk.get (laneFld hd.lane) →
    hd.crcOk = true →
    hd.seq = (l.rxSeq + 1) % 65536 →
    p.length = 32 →
    exec (.heartbeat dt hd p) s = .next ((s.begin dt).act fun e b => healthShow (heartbeatIn p e (pktAccept e hd (.hb p) b).2))) ∧
  (∀ (s : State) (dt : Nat),
    s.blk.running = true →
    s.blk.twin = true →
    exec (.fireflySend dt) s = .next ((s.begin dt).act fun _ b => modTw (fun t => { t with relFf := false }) (b.emit (.firefly (ffCode b))))) ∧
  (∀ (s : State) (dt code pulse : Nat),
    s.blk.running = true →
    s.blk.twin = true →
    (pulse < 6000 ∨ 10000 < pulse) →
    exec (.fireflyCode dt code pulse) s = .next ((s.begin dt).act fun _ b => b.bump TWIN_FF_STA_BAD)) ∧
  (∀ (s : State) (dt code pulse : Nat),
    s.blk.running = true →
    s.blk.twin = true →
    s.blk.get TWIN_STA_FF_PATH_OK = 0 →
    6000 ≤ pulse →
    pulse ≤ 10000 →
    ((List.range 8).map (fun n => boolBit (bitOf code n))).sum % 2 = 1 →
    bitOf code 2 = false →
    exec (.fireflyCode dt code pulse) s = .next ((s.begin dt).act fun e b => fireflyRole code e (pathBack SRC_FIREFLY_PATH_LOST TWIN_STA_FF_PATH_OK e
       ((modTw (fun t => { t with ffAt := some e.now }) b).put TWIN_FF_STA_LAST (code % 256))))) ∧
  (∀ (s : State) (dt : Nat),
    s.blk.running = true →
    s.blk.twin = true →
    s.blk.get TWIN_STA_TL_PATH_OK = 0 →
    s.blk.tw.warmUntil = none →
    s.blk.tw.listenBy = none →
    s.blk.tw.hbAt = none →
    exec (.pathLost dt 0) s = .next ((s.begin dt).act fun e b => beginExc e SRC_TWIN_LINK_PATH_LOST 0 0 0 0 b)) ∧
  (∀ (s : State) (dt x : Nat),
    s.blk.running = true →
    s.blk.twin = true →
    s.blk.role = .standby →
    s.blk.get TWIN_STA_TL_PATH_OK = 1 →
    s.blk.tw.warmUntil = none →
    s.blk.tw.hbAt = some x →
    x + ms 3 ≤ (s.begin dt).clk.now →
    exec (.pathLost dt 0) s = .next ((s.begin dt).act fun e b => beginExc e SRC_TWIN_LINK_PATH_LOST 0 0 0 0 (b.put TWIN_STA_TL_PATH_OK 0))) ∧
  (∀ (s : State) (dt x : Nat),
    s.blk.keep.scanned = false →
    s.blk.tw.hbAt = some x →
    (s.begin dt).clk.now < x + ms 3 →
    exec (.pathLost dt 0) s = .next ((s.begin dt).act fun _ b => b)) ∧
  (∀ (s : State) (dt x : Nat),
    s.blk.running = true →
    s.blk.role = .standby →
    s.blk.get TWIN_STA_PARTNER_SEEN = 1 →
    s.blk.tw.seenAt = some x →
    exec (.partnerSeenExpiry dt) s = .next (((s.begin dt).reach (x + ms 3)).act fun e b =>
       (modTw (fun t => { t with unseenAt := some e.now }) b).put TWIN_STA_PARTNER_SEEN 0)) ∧
  (∀ (s : State) (dt x : Nat),
    s.blk.running = true →
    s.blk.tw.warmUntil = some x →
    exec (.warmBootSuspendEnd dt) s = .next (((s.begin dt).reach x).act fun _ b =>
       (modTw (fun t => { t with warmUntil := none }) b).put TWIN_STA_WARM_EXPECTED 0))

/-- Authority of a pair (R411, R412, R416 to R424, R465). At the end of the boot listen a module that heard an ACTIVE
becomes STANDBY at its epoch; one with the same TWIN_ID becomes STANDBY. A STANDBY takes authority over a relinquish
with its cause, or with cause 1 when both paths are lost. The takeover hold ends at its deadline. An ACTIVE without
paths that still sees its partner yields as ORPHAN with AUTHORITY_CONFLICT, and an ORPHAN takes authority back with
cause 6. A handover starts on its conditions and is denied otherwise with RESULT 2; one without accept by the second
boundary aborts with RESULT 3. A STANDBY asks for a handover again each second, up to 600 s, and an ACTIVE forgets the
request. A MIRROR and a REG packet out of sequence leave the module as it was; a REG packet's forwarded block, addend
and step are taken by a STANDBY. Commands that it says complete: bootListenEnd, takeover, takeoverHoldEnd,
orphanYield, orphanResume, handover, handoverAbort, handoverRequest, mirror, regReceive. -/
def Obligations.AuthorityAndMirroring : Prop :=
  (∀ (s : State) (dt x ep : Nat),
    s.blk.running = true →
    s.blk.tw.listenBy = some x →
    s.blk.tw.sameId = false →
    s.blk.tw.heard = some (1, ep) →
    exec (.bootListenEnd dt) s = .next (((s.begin dt).reach x).act fun e b => becomeStandby e (setEpoch ep
       (modTw (fun t => { t with listenBy := none, heard := none }) b)))) ∧
  (∀ (s : State) (dt : Nat),
    s.blk.running = true →
    s.blk.twin = true →
    s.blk.role = .standby →
    s.blk.get TWIN_STA_ORPHAN = 0 →
    s.blk.tw.sameId = false →
    s.blk.tw.warmUntil = none →
    s.blk.tw.listenBy = none →
    (s.blk.tw.relRx ≠ none ∨ bothLost s.blk = true) →
    exec (.takeover dt) s = .next ((s.begin dt).act fun e b => takeAuthority (b.tw.relRx.getD 1) e b)) ∧
  (∀ (s : State) (dt : Nat),
    s.blk.keep.scanned = false →
    s.blk.tw.relRx = none →
    bothLost s.blk = false →
    exec (.takeover dt) s = .next ((s.begin dt).act fun _ b => b)) ∧
  (∀ (s : State) (dt x : Nat),
    s.blk.keep.scanned = false →
    s.blk.powered = true →
    s.blk.role ≠ .active →
    s.blk.tw.holdBy = some x →
    exec (.takeoverHoldEnd dt) s = .next (((s.begin dt).reach x).act fun _ b =>
       (modTw (fun t => { t with holdBy := none }) b).put TWIN_STA_TAKEOVER_HOLD 0)) ∧
  (∀ (s : State) (dt x : Nat),
    s.blk.running = true →
    s.blk.role = .active →
    s.blk.tw.yieldBy = some x →
    bothLost s.blk = true →
    exec (.orphanYield dt) s = .next (((s.begin dt).reach x).act fun e b => raise e SRC_AUTHORITY_CONFLICT 0 0 0
       ((becomeStandby e b).put TWIN_STA_ORPHAN 1))) ∧
  (∀ (s : State) (dt x : Nat),
    s.blk.running = true →
    s.blk.get TWIN_STA_ORPHAN = 1 →
    s.blk.tw.sameId = false →
    s.blk.get TWIN_STA_PARTNER_SEEN = 0 →
    s.blk.tw.unseenAt = some x →
    exec (.orphanResume dt) s = .next (((s.begin dt).reach (x + ms 3)).act fun e b => takeAuthority 6 e b)) ∧
  (∀ (s : State) (dt : Nat),
    s.blk.running = true →
    s.blk.holdup = false →
    s.blk.role = .active →
    handoverOk s.blk = true →
    exec (.handover dt) s = .next ((s.begin dt).act fun _ b => finish .ok ((modTw (fun t => { t with
       ho := 1, hoBound := 0 }) b).put TWIN_STA_HANDOVER_RUNNING 1))) ∧
  (∀ (s : State) (dt : Nat),
    s.blk.running = true →
    s.blk.holdup = false →
    s.blk.role = .active →
    s.blk.twin = true →
    handoverOk s.blk = false →
    exec (.handover dt) s = .next ((s.begin dt).act fun _ b => finish .denied (b.put TWIN_CMD_RESULT 2))) ∧
  (∀ (s : State) (dt : Nat),
    s.blk.running = true →
    s.blk.role = .active →
    s.blk.tw.ho = 2 →
    2 ≤ s.blk.tw.hoBound →
    exec (.handoverAbort dt) s = .next ((s.begin dt).act fun _ b =>
       ((modTw (fun t => { t with ho := 0 }) b).put TWIN_STA_HANDOVER_RUNNING 0).put TWIN_CMD_RESULT 3)) ∧
  (∀ (s : State) (dt : Nat),
    s.blk.keep.scanned = false →
    s.blk.tw.ho = 0 →
    exec (.handoverAbort dt) s = .next ((s.begin dt).act fun _ b => b)) ∧
  (∀ (s : State) (dt x y : Nat),
    s.blk.running = true →
    s.blk.role ≠ .standby →
    s.blk.keep.handReq = some (x, y) →
    exec (.handoverRequest dt) s = .next (((s.begin dt).reach x).act fun _ b => { b with keep := { b.keep with handReq := none } })) ∧
  (∀ (s : State) (dt x y : Nat),
    s.blk.running = true →
    s.blk.role = .standby →
    s.blk.keep.handReq = some (x, y) →
    y ≠ 0 →
    y ≤ ((s.begin dt).reach x).clk.now →
    exec (.handoverRequest dt) s = .next (((s.begin dt).reach x).act fun _ b =>
       { b with keep := { b.keep with handReq := none } }.put TWIN_CMD_RESULT 2)) ∧
  (∀ (s : State) (dt x : Nat),
    s.blk.running = true →
    s.blk.role = .standby →
    s.blk.keep.handReq = some (x, 0) →
    healthBits s.blk = 127 →
    exec (.handoverRequest dt) s = .next (((s.begin dt).reach x).act fun e b => twSend e (.mirror { mkMirror e b with hreq := true })
       { b with keep := { b.keep with handReq := some (e.now + sec 1, e.now + sec 600) } })) ∧
  (∀ (s : State) (dt : Nat) (hd : TwHdr) (m : Mirror) (l : TwLane),
    s.blk.running = true →
    s.blk.twin = true →
    s.blk.tw.lanes[hd.lane]? = some l →
    hd.crcOk = true →
    hd.seq ≠ (l.rxSeq + 1) % 65536 →
    exec (.mirror dt hd m) s = .next ((s.begin dt).act fun _ b => b)) ∧
  (∀ (s : State) (dt : Nat) (hd : TwHdr) (m : Mirror) (l : TwLane),
    s.blk.running = true →
    s.blk.twin = true →
    s.blk.role = .active →
    s.blk.tw.lanes[hd.lane]? = some l →
    2 ≤ s.blk.get (laneFld hd.lane) →
    hd.crcOk = true →
    hd.seq = (l.rxSeq + 1) % 65536 →
    m.raises = [] →
    m.hreq = false →
    exec (.mirror dt hd m) s = .next ((s.begin dt).act fun e b =>
       let b1 := (pktAccept e hd (.mirror m) b).2
       healthShow (raiseAll e [] { b1 with therm := { b1.therm with partnerBus := m.busMax } }))) ∧
  (∀ (s : State) (dt a : Nat) (hd : TwHdr) (l : TwLane),
    s.blk.running = true →
    s.blk.twin = true →
    s.blk.role = .standby →
    s.blk.tw.lanes[hd.lane]? = some l →
    2 ≤ s.blk.get (laneFld hd.lane) →
    hd.crcOk = true →
    hd.seq = (l.rxSeq + 1) % 65536 →
    TIME_TB0_ADDEND.inRange a = true →
    ∃ t, exec (.regReceive dt hd ⟨none, [], some a, none⟩) s = .next t ∧ t.par = s.par.put TIME_TB0_ADDEND a ∧ t.blk.role = .standby ∧ t.clk = (s.begin dt).clk ∧ t.blk.watch = s.blk.watch) ∧
  (∀ (s : State) (dt : Nat) (hd : TwHdr) (r : RegPkt),
    s.blk.running = true →
    s.blk.twin = true →
    s.blk.role ≠ .standby →
    exec (.regReceive dt hd r) s = .next ((s.begin dt).act fun e b => (pktAccept e hd (.reg r) b).2))

/-- The rack bus (R410, R429, R430, R432, R435 to R439, R441, R442). A partner's beacon at an end of the module's own
marks the partner as seen. An entry that falls due on a free bus starts and its next due time is one period later. A
write that ends without NACK gives OK, ends the entry's failures and releases the bus; a NACK of the address fails it
with code 1. A lost arbitration is counted and waits for a back-off while retries remain. RB_ALERT_N low is shown even
when it is not served. After a pause of the alert service 10 ms of high level end RB_ALERT_STUCK. SCL low for 30 ms
aborts the own transaction with code 5 and raises RB_SCL_TIMEOUT. With SDA high the check lets polling start; with SDA
low that the pulses release the recovery ends, and otherwise SCL is held. Each repeat of step 3 is counted, and after
the fourth hold the bus is faulted for 10 s. The bus's idle starts what waits. Commands that it says complete:
partnerBeacon, pollDue, rackTransactionEnd, arbitrationLoss, backoffEnd, alertService, alertPauseEnd, sclTimeout,
busRecovery, recoveryHoldEnd, busRetry, rackBusIdle. -/
def Obligations.RackBusPolling : Prop :=
  (∀ (s : State) (dt port : Nat),
    s.blk.running = true →
    s.blk.twin = true →
    (endOfPort s.blk port).isSome = true →
    exec (.partnerBeacon dt port) s = .next ((s.begin dt).act fun e b =>
       (modTw (fun t => { t with seenAt := some e.now, unseenAt := none }) b).put TWIN_STA_PARTNER_SEEN 1)) ∧
  (∀ (s : State) (dt n d : Nat),
    s.blk.keep.scanned = false →
    s.blk.rack.due[n]? = some (some d) →
    rackPolls s.env s.blk = true →
    s.env.get (RACK_ENTRY_EN n) = 1 →
    s.env.get (RACK_ENTRY_WRITE n) = 0 →
    s.blk.rack.cur = none →
    s.blk.rack.waiting = [] →
    exec (.pollDue dt n) s = .next (((s.begin dt).reach d).act fun e b => rackNext e (modRack (fun r => { r with
       due := setAt r.due n (some (d + ms (10 * e.get (RACK_ENTRY_PERIOD n)))), waiting := [n] }) b))) ∧
  (∀ (s : State) (dt n d : Nat) (x : RTx),
    s.blk.keep.scanned = false →
    s.blk.rack.due[n]? = some (some d) →
    rackPolls s.env s.blk = true →
    s.env.get (RACK_ENTRY_EN n) = 1 →
    s.env.get (RACK_ENTRY_WRITE n) = 0 →
    s.blk.rack.cur = some x →
    x.entry ≠ n →
    s.blk.rack.waiting = [] →
    exec (.pollDue dt n) s = .next (((s.begin dt).reach d).act fun e b => modRack (fun r => { r with
       due := setAt r.due n (some (d + ms (10 * e.get (RACK_ENTRY_PERIOD n)))), waiting := [n] }) b)) ∧
  (∀ (s : State) (dt : Nat) (x : RTx),
    s.blk.keep.scanned = false →
    s.blk.rack.cur = some x →
    x.run = true →
    s.env.get (RACK_ENTRY_WRITE x.entry) = 1 →
    exec (.rackTransactionEnd dt 0 []) s = .next ((s.begin dt).act fun e b => rackOk e x.entry (rackRelease e true b))) ∧
  (∀ (s : State) (dt : Nat) (bytes : List Byte) (x : RTx),
    s.blk.keep.scanned = false →
    s.blk.rack.cur = some x →
    x.run = true →
    exec (.rackTransactionEnd dt 1 bytes) s = .next ((s.begin dt).act fun e b => rackFail e x.entry 1 (rackRelease e true b))) ∧
  (∀ (s : State) (dt : Nat) (x : RTx),
    s.blk.keep.scanned = false →
    s.blk.rack.cur = some x →
    x.run = true →
    x.losses < s.env.get RACK_ARB_CFG_RETRIES →
    exec (.arbitrationLoss dt) s = .next ((s.begin dt).act fun _ b => modRack (fun r => { r with
       cur := some { x with run := false, losses := x.losses + 1 }, busy := true }) (((b.bump RACK_ARB_CNT_LOW).put RACK_STA_BUSY 0).put RACK_STA_IDLE 0))) ∧
  (∀ (s : State) (dt d : Nat) (x : RTx),
    s.blk.keep.scanned = false →
    s.blk.rack.backBy = some d →
    s.blk.rack.cur = some x →
    rackPolls s.env s.blk = true →
    s.blk.get RACK_STA_RECOVERING = 0 →
    exec (.backoffEnd dt) s = .next (((s.begin dt).reach d).act fun e b => rackDrive e x.entry x.losses b)) ∧
  (∀ (s : State) (dt losses : Nat) (still : Bool),
    s.blk.keep.scanned = false →
    s.blk.powered = true →
    rackPolls s.env s.blk = true →
    busFree (s.begin dt).env s.blk = true →
    s.blk.owner = true →
    s.env.get RACK_CFG_ALERT_EN = 1 →
    s.blk.get RACK_STA_ALERT_PAUSED = 0 →
    s.blk.rack.alertTurn = false →
    s.blk.rack.alertRuns = [] →
    losses ≤ s.env.get RACK_ARB_CFG_RETRIES →
    exec (.alertService dt losses none still) s = .next ((s.begin dt).act fun e b =>
       let b0 := b.put RACK_STA_ALERT_LOW 1
       alertStuck e 0 ((modRack (fun r => { r with alertTurn := true })
         ((araRead e b0).put RACK_ARB_CNT_LOW (min 0xFFFF (b0.get RACK_ARB_CNT_LOW + losses)))).bump RACK_CNT_HIGH))) ∧
  (∀ (s : State) (dt losses : Nat) (resp : Option (List Byte)) (still : Bool),
    s.blk.keep.scanned = false →
    s.blk.powered = true →
    s.env.get RACK_CFG_ALERT_EN = 0 →
    exec (.alertService dt losses resp still) s = .next ((s.begin dt).act fun _ b => b.put RACK_STA_ALERT_LOW 1)) ∧
  (∀ (s : State) (dt hi d : Nat),
    s.blk.keep.scanned = false →
    s.blk.rack.pauseBy = some d →
    10 ≤ hi →
    exec (.alertPauseEnd dt hi) s = .next (((s.begin dt).reach d).act fun e b => endExc e SRC_RB_ALERT_STUCK 0
       (((modRack (fun r => { r with pauseBy := none }) b).put RACK_STA_ALERT_PAUSED 0).put RACK_STA_ALERT_LOW 0))) ∧
  (∀ (s : State) (dt : Nat) (x : RTx),
    s.blk.running = true →
    s.blk.holdup = false →
    s.blk.get RACK_STA_RECOVERING = 0 →
    s.env.get RACK_CTL_EN = 1 →
    s.blk.rack.cur = some x →
    x.run = true →
    exec (.sclTimeout dt) s = .next ((s.begin dt).act fun e b => raise e SRC_RB_SCL_TIMEOUT x.entry 0 0
       (rackFail e x.entry 5 (rackRelease e true b)))) ∧
  (∀ (s : State) (dt : Nat) (released : Bool),
    s.blk.running = true →
    s.blk.holdup = false →
    s.env.get RACK_CTL_EN = 1 →
    s.blk.get RACK_STA_RECOVERING = 0 →
    s.blk.get RACK_STA_FAULTED = 0 →
    s.blk.rack.cur = none →
    exec (.busRecovery dt false released) s = .next ((s.begin dt).act fun e b => rackNext e (modRack (fun r => { r with check := false }) b))) ∧
  (∀ (s : State) (dt : Nat) (released : Bool),
    s.blk.running = true →
    s.blk.holdup = false →
    s.env.get RACK_CTL_EN = 1 →
    s.blk.get RACK_STA_RECOVERING = 0 →
    s.blk.get RACK_STA_FAULTED = 0 →
    s.blk.rack.cur = none →
    exec (.busRecovery dt true released) s = .next ((s.begin dt).act fun e b =>
       let b1 := (b.emit .rackRecover).put RACK_STA_RECOVERING 1
       if released then rackRecovered e b1 else rackHold e (modRack (fun r => { r with holds := 0, once := false }) b1))) ∧
  (∀ (s : State) (dt d : Nat),
    s.blk.keep.scanned = false →
    s.blk.rack.holdBy = some d →
    s.blk.rack.once = false →
    s.blk.rack.holds < 4 →
    exec (.recoveryHoldEnd dt false) s = .next (((s.begin dt).reach d).act fun e b => rackHold e
       (((modRack (fun r => { r with holdBy := none }) b).emit .rackRecover).bump RACK_RECOVERY_ATTEMPTS))) ∧
  (∀ (s : State) (dt d : Nat),
    s.blk.keep.scanned = false →
    s.blk.rack.holdBy = some d →
    s.blk.rack.once = false →
    4 ≤ s.blk.rack.holds →
    s.blk.rack.cur = none →
    exec (.recoveryHoldEnd dt false) s = .next (((s.begin dt).reach d).act fun e b => beginExc e SRC_RB_BUS_FAULT 0 0 0 0
       (((modRack (fun r => { r with
         holdBy := none, waiting := [], alertRuns := [], retryBy := some (e.now + sec 10) }) b).put RACK_STA_RECOVERING 0).put RACK_STA_FAULTED 1 |>.bump RACK_RECOVERY_FAULTS))) ∧
  (∀ (s : State) (dt d : Nat),
    s.blk.running = true →
    s.blk.holdup = false →
    s.env.get RACK_CTL_EN = 1 →
    s.blk.rack.retryBy = some d →
    exec (.busRetry dt true) s = .next (((s.begin dt).reach d).act fun e b => rackRecovered e
       (((modRack (fun r => { r with retryBy := some (e.now + sec 10) }) b).emit .rackRecover).put RACK_STA_RECOVERING 1))) ∧
  (∀ (s : State) (dt : Nat),
    s.blk.keep.scanned = false →
    s.blk.rack.cur = none →
    exec (.rackBusIdle dt) s = .next ((s.begin dt).act fun e b => rackNext e ((modRack (fun r => { r with
       busy := false, idleAt := min r.idleAt e.now }) b).put RACK_STA_IDLE 1)))

/-- The image store (R445, R446, R448, R451, R454, R457, R460, R472, R473). STREAM_BEGIN empties the bank that does not
run and starts a stream; STREAM_ABORT ends one and empties its bank. Every command of KEEP comes to RESULT 3 and
DENIED in HOLDUP. A cold ACTIVATE sets BOOT_BANK and the install flag; one not allowed is refused. An ACTIVATE that
waited 60 s is dropped with ACTIVATION_TIMEOUT. PARAM_ADOPT in COMMISSIONING asks for a parameter commit that clears,
and is refused in the other modes. RAISE_MIN_VERSION takes the running image's version. A scrubbed line with a
corrected error raises NV_CORRECTED, and one not correctable NV_UNCORRECTABLE with a remap asked for. The parameter
commit timer asks for a commit. Commands that it says complete: streamBegin, streamAbort, activate, activationTimeout,
paramAdopt, raiseMinVersion, nvScrub, paramCommitTimer. -/
def Obligations.ImageStoreAndUpdates : Prop :=
  (∀ (s : State) (dt : Nat),
    s.blk.running = true →
    s.blk.holdup = false →
    exec (.streamBegin dt) s = .next ((s.begin dt).act fun _ b =>
       let n := 1 - b.get KEEP_STA_RUN_BANK
       finish .ok (keepResult 1 2 ((((((setBank n (.bytes []) (modKeep (fun k => { k with stream := some ⟨n, [], false, 0, none⟩ }) b)).put
         (KEEP_BANK_STATE n) 1).put (KEEP_BANK_STEP n) 0).put KEEP_STREAM_POS 0).put KEEP_STREAM_OUT 0).put KEEP_STA_STREAMING 1)))) ∧
  (∀ (s : State) (dt : Nat),
    s.blk.running = true →
    s.blk.holdup = true →
    exec (.streamBegin dt) s = .next ((s.begin dt).act fun _ b => finish .denied (keepResult 1 3 b))) ∧
  (∀ (s : State) (dt : Nat) (x : Stream),
    s.blk.running = true →
    s.blk.holdup = false →
    s.blk.keep.stream = some x →
    exec (.streamAbort dt) s = .next ((s.begin dt).act fun _ b => finish .ok (keepResult 2 1
       (((setBank x.bank .empty (modKeep (fun k => { k with stream := none }) b)).put (KEEP_BANK_STATE x.bank) 0).put KEEP_STA_STREAMING 0)))) ∧
  (∀ (s : State) (dt : Nat) (same handover : Bool),
    s.blk.running = true →
    s.blk.holdup = false →
    activateOk (s.begin dt).env same true (s.begin dt).blk = true →
    exec (.activate dt same handover true) s = .next ((s.begin dt).act fun _ b =>
       let n := if same then b.get KEEP_STA_RUN_BANK else 1 - b.get KEEP_STA_RUN_BANK
       finish .ok (keepResult 3 1 ((nvRequest .retained (modKeep (fun k => { k with bootBank := n, install := true }) b)).put KEEP_STA_COLD_PENDING 1)))) ∧
  (∀ (s : State) (dt : Nat) (same handover cold : Bool),
    s.blk.running = true →
    s.blk.holdup = false →
    activateOk (s.begin dt).env same cold (s.begin dt).blk = false →
    exec (.activate dt same handover cold) s = .next ((s.begin dt).act fun _ b => finish .denied (keepResult 3 3 b))) ∧
  (∀ (s : State) (dt : Nat) (a : Activate),
    s.blk.running = true →
    s.blk.keep.act = some a →
    exec (.activationTimeout dt) s = .next (((s.begin dt).reach a.byT).act fun e b => raise e SRC_ACTIVATION_TIMEOUT 0 0 0
       (nvRequest .retained ((((modKeep (fun k => { k with
         act := none, bootBank := a.oldBank, install := a.oldInstall }) b).put KEEP_STA_ACTIVATING 0).put KEEP_CMD_STA_RESULT 4).put KEEP_CMD_STA_REASON 0)))) ∧
  (∀ (s : State) (dt : Nat),
    s.blk.running = true →
    s.blk.holdup = false →
    s.blk.mode = .commissioning →
    exec (.paramAdopt dt) s = .next ((s.begin dt).act fun _ b => finish .ok (keepResult 4 2 (nvRequest (.param none true) b)))) ∧
  (∀ (s : State) (dt : Nat),
    s.blk.running = true →
    s.blk.mode ≠ .commissioning →
    exec (.paramAdopt dt) s = .next ((s.begin dt).act fun _ b => finish .denied (keepResult 4 3 b))) ∧
  (∀ (s : State) (dt : Nat),
    s.blk.running = true →
    s.blk.holdup = false →
    exec (.raiseMinVersion dt) s = .next ((s.begin dt).act fun e b => finish .ok (recordRaise e ⟨SRC_SECURITY_CHANGE, 6, (runImage b).version, 0, false, none⟩
       (keepResult 10 1 (nvRequest .retained (b.put KEEP_MIN_VERSION (runImage b).version)))))) ∧
  (∀ (s : State) (dt line : Nat),
    s.blk.running = true →
    line < 0x40000 →
    s.blk.keep.lineFix = [] →
    (∀ t, s.blk.keep.lineAt = some t → t + us (s.blk.get THERM_STEPS_MOD_PAUSE) ≤ (s.begin dt).clk.now) →
    exec (.nvScrub dt line 1) s = .next ((s.begin dt).act fun e b => raise e SRC_NV_CORRECTED 0 line 0
       (modKeep (fun k => { k with lineAt := some e.now, lineFix := [(line, e.now)] }) (b.bump KEEP_NV_STA_HIGH)))) ∧
  (∀ (s : State) (dt line : Nat),
    s.blk.running = true →
    line < 0x40000 →
    (∀ t, s.blk.keep.lineAt = some t → t + us (s.blk.get THERM_STEPS_MOD_PAUSE) ≤ (s.begin dt).clk.now) →
    exec (.nvScrub dt line 2) s = .next ((s.begin dt).act fun e b => remapAsk line (raise e SRC_NV_UNCORRECTABLE 0 line 0
       (nvRequest .retained ((lineLost line (modKeep (fun k => { k with lineAt := some e.now }) b)).bump KEEP_NV_CNT_LOW))))) ∧
  (∀ (s : State) (dt line res t : Nat),
    s.blk.running = true →
    res ≠ 3 →
    s.blk.keep.lineAt = some t →
    (s.begin dt).clk.now < t + us (s.blk.get THERM_STEPS_MOD_PAUSE) →
    exec (.nvScrub dt line res) s = .next ((s.begin dt).act fun _ b => b)) ∧
  (∀ (s : State) (dt d : Nat),
    s.blk.running = true →
    s.blk.keep.paramBy = some d →
    exec (.paramCommitTimer dt) s = .next (((s.begin dt).reach d).act fun _ b => nvRequest (.param none false)
       { b with keep := { b.keep with paramBy := none } }))

/-- Security (R467, R469, R470, R474). SEAL needs the sealing code equal to the serial number, keys in slot 0, in slot 5
and in one of the slots 1 to 4, COMMISSIONING or ISOLATED, and HOLD_READY; it leaves SEALED, with a SECURITY_CHANGE of
CODE 1. SVC_REQUEST in SEALED gives its session a fresh nonce of four words with an answer expected within 10 s. A
response of a session without nonce is denied; the right one in time leaves SERVICE bound to the session with CODE 2;
a missing one is a failure, three of them in a row blocking SVC_REQUEST for 10 minutes until the block ends. SVC_END
of the bound session, and the SERVICE time, return to SEALED with CODE 3. KEY_WRITE and KEY_ERASE ask for the key's
commit where the security state allows it, with CODE 4 and 5, and KEY_WRITE clears the buffer in every case. Commands
that it says complete: seal, svcRequest, svcResp, svcResponseTimeout, svcBlockEnd, svcEnd, svcTimeout, keyWrite,
keyErase. -/
def Obligations.SecurityStatesAndKeys : Prop :=
  (∀ (s : State) (dt k : Nat),
    s.blk.running = true →
    s.blk.holdup = false →
    s.blk.keep.sec = .opened →
    s.blk.get KEEP_SEAL_CODE_CODE = s.blk.get SYS_SERIAL_LO →
    (keyOf s.blk 0).isSome = true →
    (keyOf s.blk 5).isSome = true →
    1 ≤ k →
    k ≤ 4 →
    (keyOf s.blk k).isSome = true →
    (s.blk.mode = .commissioning ∨ s.blk.mode = .isolated) →
    s.blk.get PWR_STA_HOLD_READY = 1 →
    exec (.seal dt) s = .next ((s.begin dt).act fun e b => finish .ok (keepResult 5 1 (recordRaise e ⟨SRC_SECURITY_CHANGE, 1, 0, 0, false, none⟩
       { b with keep := { b.keep with sec := .isSealed } })))) ∧
  (∀ (s : State) (dt : Nat),
    s.blk.running = true →
    s.blk.get KEEP_SEAL_CODE_CODE ≠ s.blk.get SYS_SERIAL_LO →
    exec (.seal dt) s = .next ((s.begin dt).act fun _ b => finish .denied (keepResult 5 3 b))) ∧
  (∀ (s : State) (dt who : Nat),
    s.blk.running = true →
    s.blk.holdup = false →
    s.blk.keep.sec = .isSealed →
    s.blk.get KEEP_STA_IP_EN = 1 →
    s.blk.get KEEP_SVC_STA_BLOCKED = 0 →
    who < 4 →
    ∃ t, exec (.svcRequest dt who) s = .next t ∧ t.blk.lastStatus = .ok ∧ t.blk.keep.nonce = some (who, (s.begin dt).clk.now + sec 10) ∧ t.blk.keep.svcResp = [] ∧
       t.blk.free = s.blk.free + 1 ∧ t.blk.keep.sec = .isSealed ∧ t.blk.get KEEP_CMD_STA_LAST = 6 ∧ t.blk.get KEEP_CMD_STA_RESULT = 1 ∧ t.par = s.par ∧ t.blk.watch = s.blk.watch) ∧
  (∀ (s : State) (dt who w0 w1 w2 w3 : Nat),
    s.blk.running = true →
    s.blk.keep.nonce = none →
    exec (.svcResp dt who [w0, w1, w2, w3]) s = .next ((s.begin dt).act fun _ b => finish .denied b)) ∧
  (∀ (s : State) (dt who till w0 w1 w2 w3 : Nat),
    s.blk.running = true →
    s.blk.holdup = false →
    s.blk.keep.nonce = some (who, till) →
    s.blk.keep.svcResp = [] →
    (s.begin dt).clk.now ≤ till →
    svcExpected s.blk who = some (leBytes 4 w0 ++ leBytes 4 w1 ++ leBytes 4 w2 ++ leBytes 4 w3) →
    ∃ t, exec (.svcResp dt who [w0, w1, w2, w3]) s = .next t ∧ t.blk.keep.sec = .service ∧ t.blk.keep.nonce = none ∧ t.blk.keep.svcBy = some ((s.begin dt).clk.now + sec (60 * s.env.get KEEP_SVC_TIME_TIME)) ∧
       t.blk.get KEEP_SVC_STA_SESSION = who % 2 ^ KEEP_SVC_STA_SESSION.w ∧ t.blk.get KEEP_SVC_STA_FAILS = 0 ∧ t.blk.lastStatus = .ok ∧ t.par = s.par ∧ t.blk.mode = s.blk.mode) ∧
  (∀ (s : State) (dt who till : Nat),
    s.blk.keep.scanned = false →
    s.blk.keep.nonce = some (who, till) →
    s.blk.get KEEP_SVC_STA_FAILS < 2 →
    exec (.svcResponseTimeout dt) s = .next (((s.begin dt).reach till).act fun e b => raise e SRC_SVC_AUTH_FAIL 0 0 0
       ((modKeep (fun k => { k with nonce := none, svcResp := [] }) b).put KEEP_SVC_STA_FAILS (b.get KEEP_SVC_STA_FAILS + 1)))) ∧
  (∀ (s : State) (dt who till : Nat),
    s.blk.keep.scanned = false →
    s.blk.keep.nonce = some (who, till) →
    2 ≤ s.blk.get KEEP_SVC_STA_FAILS →
    exec (.svcResponseTimeout dt) s = .next (((s.begin dt).reach till).act fun e b => raise e SRC_SVC_AUTH_FAIL 0 0 0
       (((modKeep (fun k => { k with
         nonce := none, svcResp := [], svcBlockBy := some (e.now + sec 600) }) b).put KEEP_SVC_STA_FAILS 3).put KEEP_SVC_STA_BLOCKED 1))) ∧
  (∀ (s : State) (dt d : Nat),
    s.blk.keep.scanned = false →
    s.blk.keep.svcBlockBy = some d →
    exec (.svcBlockEnd dt) s = .next (((s.begin dt).reach d).act fun _ b =>
       ((modKeep (fun k => { k with svcBlockBy := none }) b).put KEEP_SVC_STA_BLOCKED 0).put KEEP_SVC_STA_FAILS 0)) ∧
  (∀ (s : State) (dt who : Nat),
    s.blk.running = true →
    s.blk.holdup = false →
    s.blk.keep.sec = .service →
    who < 4 →
    s.blk.get KEEP_SVC_STA_SESSION = who →
    exec (.svcEnd dt who) s = .next ((s.begin dt).act fun e b => finish .ok (keepResult 7 1 (recordRaise e ⟨SRC_SECURITY_CHANGE, 3, 0, 0, false, none⟩
       { b with keep := { b.keep with sec := .isSealed, svcBy := none } })))) ∧
  (∀ (s : State) (dt d : Nat),
    s.blk.keep.scanned = false →
    s.blk.keep.svcBy = some d →
    s.blk.keep.sec = .service →
    exec (.svcTimeout dt) s = .next (((s.begin dt).reach d).act fun e b => recordRaise e ⟨SRC_SECURITY_CHANGE, 3, 0, 0, false, none⟩
       { b with keep := { b.keep with sec := .isSealed, svcBy := none } })) ∧
  (∀ (s : State) (dt who : Nat) (x : Sess),
    s.blk.running = true →
    s.blk.holdup = false →
    s.blk.sess[who]? = some x →
    keyAllowed (s.begin dt).env (s.begin dt).blk who (s.env.get KEEP_KEY_CTL_SLOT) = true →
    exec (.keyWrite dt who) s = .next ((s.begin dt).act fun e b => clearKeyBuf who (finish .ok (recordRaise e ⟨SRC_SECURITY_CHANGE, 4, e.get KEEP_KEY_CTL_SLOT, 0, false, none⟩
       (keepResult 8 2 (nvRequest (.key (e.get KEEP_KEY_CTL_SLOT) (keyBytes x (keyLen (e.get KEEP_KEY_CTL_SLOT)))) b)))))) ∧
  (∀ (s : State) (dt who : Nat),
    s.blk.running = true →
    keyAllowed (s.begin dt).env (s.begin dt).blk who (s.env.get KEEP_KEY_CTL_SLOT) = false →
    exec (.keyWrite dt who) s = .next ((s.begin dt).act fun _ b => clearKeyBuf who (finish .denied (keepResult 8 3 b)))) ∧
  (∀ (s : State) (dt who : Nat),
    s.blk.running = true →
    s.blk.holdup = false →
    keyAllowed (s.begin dt).env (s.begin dt).blk who (s.env.get KEEP_KEY_CTL_SLOT) = true →
    exec (.keyErase dt who) s = .next ((s.begin dt).act fun e b => finish .ok (recordRaise e ⟨SRC_SECURITY_CHANGE, 5, e.get KEEP_KEY_CTL_SLOT, 0, false, none⟩
       (keepResult 9 2 (nvRequest (.key (e.get KEEP_KEY_CTL_SLOT) []) b)))))

/-- Every command that an engine carries out completes, on any state in which no scan access holds the engines (R471):
time passes by its first operand, and the block becomes what the command's own operation, which follows its rules,
makes of it. One line for each command. Commands that it says complete: capRemeasure, nvCommitStart, nvCommitComplete,
commitAbandoned, refCompUpdate, warmBoot, stagingWrite, connect, disconnect, enterMaint, exitMaint, commission,
weldTest, coilTest, ackInspect, feedbackClosed, feedbackOpened, feedbackLost, prechargeHoldComplete, pcOvercurrent,
holdCurrentFault, zeroCurrentConfirmed, zeroCurrentReached, islandLinkLoss, islandLinkRestored, openPathZero,
shuntFault, hallFault, shuntHallMismatch, shuntHallMatchRestored, midMismatch, overcurrent, didt, stringOv, stringUv,
busOv, imdListenEnd, imdCycleComplete, ntcRead, laneTest, tripClkLoss, bkFbMismatch, captureManual, captureStored,
sampClkLoss, tripClkRestored, currentInputRestored, sampleInstant, autoInstant, portSilent, breakNotice, toneReceived,
enumerate, enumComplete, echoRecheck, beacon, syncEdge, sampleAt, sweepData, copyOverdue, retryExhausted, sweepClose,
rawReceive, ringRepair, openWireSlot, owDeferred, openWireResult, authResponse, confirm, burst, burstData,
portChirpRestored, limitExceeded, planCycle, shAck, shStopped, shReport, shReportRead, orderAckTimeout, spreadHigh,
thermGroupEval, thermModuleEval, coilRUpdate, siLevelChange, edgeReset, srstBlock, srstFault, soTestPulse,
soReadbackViolation, soTestNow, coilLsTest, tpsFault, psfStatusLaunch, psfCommand, psfSingleNet, netRestored,
pcvConfirm, coilPwmPeriod, errRelease, errNRelease, ffAck, hostRaise, logLookup, anchorTb0, eventPush, ptpRx,
ptprxPop, lqPush, lqCancel, txtsPop, launchArm, entryLaunch, launchMissed, tinEdge, tinPop, linkUp, linkLoss,
portRestart, pauseRx, pauseRepeat, frameDiscard, descScrub, replay, twinLaneFail, laneRetrain, heartbeatSend,
heartbeat, fireflySend, fireflyCode, pathLost, mirror, takeover, handover, handoverAbort, partnerBeacon,
rackTransactionEnd, arbitrationLoss, alertService, sclTimeout, busRecovery, rackBusIdle, streamBegin, streamAbort,
activate, paramAdopt, seal, svcRequest, svcResp, svcEnd, keyWrite, keyErase, raiseMinVersion, nvScrub. -/
def Obligations.EveryEngineCommandHasItsEffect : Prop :=
  ∀ (s : State) (dt : Nat),
    s.blk.keep.scanned = false →
    (exec (.capRemeasure dt) s = .next ((s.begin dt).act Machine.capRemeasure)) ∧
       (∀ (hold : Nat), exec (.nvCommitStart dt hold) s = .next ((s.begin dt).act (nvStart hold))) ∧
       (∀ (fails : Bool), exec (.nvCommitComplete dt fails) s = .next ((s.begin dt).act (nvComplete fails))) ∧
       (∀ (hold : Nat), exec (.commitAbandoned dt hold) s = .next ((s.begin dt).act (Machine.commitAbandoned hold))) ∧
       (∀ (reading : Option Int), exec (.refCompUpdate dt reading) s = .next ((s.begin dt).act (refComp reading))) ∧
       (exec (.warmBoot dt) s = .next ((s.begin dt).act Machine.warmBoot)) ∧
       (∀ (off : Nat) (ws : List Nat), exec (.stagingWrite dt off ws) s =
        .next ((s.begin dt).act (Machine.stagingWrite off ws))) ∧
       (exec (.connect dt) s = .next ((s.begin dt).act connectDo)) ∧
       (exec (.disconnect dt) s = .next ((s.begin dt).act disconnectDo)) ∧
       (exec (.enterMaint dt) s = .next ((s.begin dt).act enterMaintDo)) ∧
       (exec (.exitMaint dt) s = .next ((s.begin dt).act exitMaintDo)) ∧
       (exec (.commission dt) s = .next ((s.begin dt).act commissionDo)) ∧
       (exec (.weldTest dt) s = .next ((s.begin dt).act weldTestDo)) ∧
       (∀ (arg : Nat), exec (.coilTest dt arg) s = .next ((s.begin dt).act (coilTestDo arg))) ∧
       (∀ (arg : Nat), exec (.ackInspect dt arg) s = .next ((s.begin dt).act (ackInspectDo arg))) ∧
       (∀ (kp : Bool) (kn : Bool) (kc : Bool), exec (.feedbackClosed dt kp kn kc) s =
        .next ((s.begin dt).act (Machine.feedbackClosed kp kn kc))) ∧
       (∀ (kp : Bool) (kn : Bool) (kc : Bool), exec (.feedbackOpened dt kp kn kc) s =
        .next ((s.begin dt).act (Machine.feedbackOpened kp kn kc))) ∧
       (∀ (kp : Bool) (kn : Bool) (kc : Bool), exec (.feedbackLost dt kp kn kc) s =
        .next ((s.begin dt).act (Machine.feedbackLost kp kn kc))) ∧
       (∀ (dv : Int) (held : Nat) (peak : Nat), exec (.prechargeHoldComplete dt dv held peak) s =
        .next ((s.begin dt).act (prechargeHold dv held peak))) ∧
       (∀ (cur : Int) (dv : Int) (n : Nat) (peak : Nat), exec (.pcOvercurrent dt cur dv n peak) s =
        .next ((s.begin dt).act (Machine.pcOvercurrent cur dv n peak))) ∧
       (∀ (k : Nat) (i : Nat) (held : Nat), exec (.holdCurrentFault dt k i held) s =
        .next ((s.begin dt).act (holdCurrent k i held))) ∧
       (∀ (bk1 : Bool) (bk2 : Bool) (maxI : Nat) (n : Nat), exec (.zeroCurrentConfirmed dt bk1 bk2 maxI n) s =
        .next ((s.begin dt).act (zeroConfirmed bk1 bk2 maxI n))) ∧
       (∀ (i : Int), exec (.zeroCurrentReached dt i) s = .next ((s.begin dt).act (zeroReached i))) ∧
       (exec (.islandLinkLoss dt) s = .next ((s.begin dt).act Machine.islandLinkLoss)) ∧
       (exec (.islandLinkRestored dt) s = .next ((s.begin dt).act Machine.islandLinkRestored)) ∧
       (∀ (res : Int × Int) (held : Nat), exec (.openPathZero dt res held) s =
        .next ((s.begin dt).act (Machine.openPathZero res.1 res.2 held))) ∧
       (∀ (uv : Int) (d : Nat) (still : Nat), exec (.shuntFault dt uv d still) s =
        .next ((s.begin dt).act (Machine.shuntFault uv d still))) ∧
       (∀ (ma : Nat) (uv : Int) (d : Nat), exec (.hallFault dt ma uv d) s =
        .next ((s.begin dt).act (Machine.hallFault ma uv d))) ∧
       (∀ (shunt : Int) (hall : Int) (d : Nat), exec (.shuntHallMismatch dt shunt hall d) s =
        .next ((s.begin dt).act (Machine.shuntHallMismatch shunt hall d))) ∧
       (∀ (shunt : Int) (hall : Int) (d : Nat), exec (.shuntHallMatchRestored dt shunt hall d) s =
        .next ((s.begin dt).act (shuntHallMatch shunt hall d))) ∧
       (∀ (v : List Int) (d : Nat), exec (.midMismatch dt v d) s = .next ((s.begin dt).act (Machine.midMismatch v d))) ∧
       (∀ (i : Int) (d : Nat), exec (.overcurrent dt i d) s = .next ((s.begin dt).act (Machine.overcurrent i d))) ∧
       (∀ (x : Int) (d : Nat), exec (.didt dt x d) s =
        .next ((s.begin dt).act (limitJudge SRC_DIDT 5 true x false d))) ∧
       (∀ (v : Meas) (d : Nat), exec (.stringOv dt v d) s =
        .next ((s.begin dt).act (limitJudge SRC_STRING_OV 2 true v.v v.sat d))) ∧
       (∀ (v : Meas) (d : Nat), exec (.stringUv dt v d) s =
        .next ((s.begin dt).act (limitJudge SRC_STRING_UV 3 false v.v v.sat d))) ∧
       (∀ (v : Meas) (d : Nat), exec (.busOv dt v d) s =
        .next ((s.begin dt).act (limitJudge SRC_BUS_OV 4 true v.v v.sat d))) ∧
       (∀ (jump : Nat), exec (.imdListenEnd dt jump) s = .next ((s.begin dt).act (Machine.imdListenEnd jump))) ∧
       (∀ (vp : Int) (vm : Int) (ip : Int) (im : Int) (capp : Nat) (capm : Nat), exec (.imdCycleComplete dt vp vm ip im capp capm) s =
        .next ((s.begin dt).act (imdCycle vp vm ip im capp capm))) ∧
       (∀ (a : Int) (c : Int), exec (.ntcRead dt a c) s = .next ((s.begin dt).act (Machine.ntcRead a c))) ∧
       (∀ (resp : Option Nat) (held : Bool) (meas : Int) (other : Bool), exec (.laneTest dt resp held meas other) s =
        .next ((s.begin dt).act (Machine.laneTest resp held meas other))) ∧
       (∀ (during : Option Nat), exec (.tripClkLoss dt during) s =
        .next ((s.begin dt).act (Machine.tripClkLoss during))) ∧
       (∀ (k : Nat) (fell : Bool) (d : Nat), exec (.bkFbMismatch dt k fell d) s =
        .next ((s.begin dt).act (Machine.bkFbMismatch k fell d))) ∧
       (exec (.captureManual dt) s = .next ((s.begin dt).act Machine.captureManual)) ∧
       (exec (.captureStored dt) s = .next ((s.begin dt).act Machine.captureStored)) ∧
       (exec (.sampClkLoss dt) s = .next ((s.begin dt).act Machine.sampClkLoss)) ∧
       (exec (.tripClkRestored dt) s = .next ((s.begin dt).act Machine.tripClkRestored)) ∧
       (∀ (k : Nat), exec (.currentInputRestored dt k) s = .next ((s.begin dt).act (inputRestored k))) ∧
       (∀ (nv : Int) (uv : Int) (v : List Int) (dqS : Int) (dqH : Int), exec (.sampleInstant dt nv uv v dqS dqH) s =
        .next ((s.begin dt).act (Machine.sampleInstant nv uv v dqS dqH))) ∧
       (exec (.autoInstant dt) s = .next ((s.begin dt).act (mirrored Machine.autoInstant))) ∧
       (∀ (port : Nat), exec (.portSilent dt port) s = .next ((s.begin dt).act (Machine.portSilent port))) ∧
       (∀ (ring : Nat) (idx : Nat) (sideA : Bool), exec (.breakNotice dt ring idx sideA) s =
        .next ((s.begin dt).act (Machine.breakNotice ring idx sideA))) ∧
       (∀ (p : Nat) (flags : Nat), exec (.toneReceived dt p flags) s =
        .next ((s.begin dt).act (Machine.toneReceived p flags))) ∧
       (exec (.enumerate dt) s = .next ((s.begin dt).act Machine.enumerate)) ∧
       (∀ (found : List (Nat × Nat × Nat × Nat × Nat × Nat)) (thru : Option (List Nat)) (late : Bool), exec (.enumComplete dt found thru late) s =
        .next ((s.begin dt).act (Machine.enumComplete found thru late))) ∧
       (∀ (l : List (Nat × Nat × Nat × Nat)), exec (.echoRecheck dt l) s =
        .next ((s.begin dt).act (Machine.echoRecheck l))) ∧
       (exec (.beacon dt) s = .next ((s.begin dt).act Machine.beacon)) ∧
       (exec (.syncEdge dt) s = .next ((s.begin dt).act Machine.syncEdge)) ∧
       (exec (.sampleAt dt) s = .next ((s.begin dt).act (mirrored Machine.sampleAt))) ∧
       (∀ (endB : Bool) (p : Nat) (isup : Option (Nat × Int)) (frame : List Byte), exec (.sweepData dt endB p isup frame) s =
        .next ((s.begin dt).act (sweepDataTwin endB p isup frame))) ∧
       (∀ (endB : Bool) (p : Nat), exec (.copyOverdue dt endB p) s =
        .next ((s.begin dt).act (Machine.copyOverdue endB p))) ∧
       (∀ (p : Nat), exec (.retryExhausted dt p) s = .next ((s.begin dt).act (Machine.retryExhausted p))) ∧
       (exec (.sweepClose dt) s = .next ((s.begin dt).act sweepCloseTwin)) ∧
       (∀ (frame : TwHdr × List Byte), exec (.rawReceive dt frame) s =
        .next ((s.begin dt).act (Machine.rawReceive frame))) ∧
       (∀ (ring : Nat) (found : List (Nat × Nat × Nat × Nat × Nat)), exec (.ringRepair dt ring found) s =
        .next ((s.begin dt).act (Machine.ringRepair ring found))) ∧
       (∀ (t : Nat), exec (.openWireSlot dt t) s = .next ((s.begin dt).act (Machine.openWireSlot t))) ∧
       (exec (.owDeferred dt) s = .next ((s.begin dt).act Machine.owDeferred)) ∧
       (∀ (rs : List (Nat × List (Nat × Nat) × Nat)), exec (.openWireResult dt rs) s =
        .next ((s.begin dt).act (Machine.openWireResult rs))) ∧
       (∀ (p : Nat) (serial : Nat) (mac : List Byte), exec (.authResponse dt p serial mac) s =
        .next ((s.begin dt).act (Machine.authResponse p serial mac))) ∧
       (∀ (p : Nat) (s16 : Nat), exec (.confirm dt p s16) s = .next ((s.begin dt).act (confirmSerial p s16))) ∧
       (∀ (poss : List Nat) (t : Nat), exec (.burst dt poss t) s = .next ((s.begin dt).act (Machine.burst poss t))) ∧
       (∀ (p : Nat) (cells : List (Nat × List Nat)) (cur : List Int), exec (.burstData dt p cells cur) s =
        .next ((s.begin dt).act (Machine.burstData p cells cur))) ∧
       (∀ (port : Nat), exec (.portChirpRestored dt port) s = .next ((s.begin dt).act (portRestored port))) ∧
       (∀ (i : Int) (held : Nat), exec (.limitExceeded dt i held) s =
        .next ((s.begin dt).act (Machine.limitExceeded i held))) ∧
       (exec (.planCycle dt) s = .next ((s.begin dt).act Machine.planCycleTwin)) ∧
       (∀ (ring : Nat) (endB : Bool) (p : Nat) (f : List Byte), exec (.shAck dt ring endB p f) s =
        .next ((s.begin dt).act (Machine.shAckIn ring endB p f))) ∧
       (∀ (endB : Bool) (p : Nat) (f : List Byte), exec (.shStopped dt endB p f) s =
        .next ((s.begin dt).act (Machine.shStoppedIn endB p f))) ∧
       (∀ (endB : Bool) (p : Nat) (f : List Byte), exec (.shReport dt endB p f) s =
        .next ((s.begin dt).act (Machine.shReportIn endB p f))) ∧
       (∀ (p : Nat), exec (.shReportRead dt p) s = .next ((s.begin dt).act (Machine.shReportRead p))) ∧
       (∀ (tid : Nat), exec (.orderAckTimeout dt tid) s = .next ((s.begin dt).act (Machine.orderAckTimeout tid))) ∧
       (exec (.spreadHigh dt) s = .next ((s.begin dt).act Machine.spreadHigh)) ∧
       (exec (.thermGroupEval dt) s = .next ((s.begin dt).act thermGroups)) ∧
       (∀ (ts : List (Option Int)), exec (.thermModuleEval dt ts) s = .next ((s.begin dt).act (moduleEval ts))) ∧
       (∀ (k : Nat) (i : Nat), exec (.coilRUpdate dt k i) s = .next ((s.begin dt).act (coilUpdate k i))) ∧
       (∀ (chs : List (Nat × Bool × Nat)), exec (.siLevelChange dt chs) s =
        .next ((s.begin dt).act (Machine.siLevelChange chs))) ∧
       (exec (.edgeReset dt) s = .next ((s.begin dt).act edgeResetLocal)) ∧
       (exec (.srstBlock dt) s = .next ((s.begin dt).act Machine.srstBlock)) ∧
       (exec (.srstFault dt) s = .next ((s.begin dt).act Machine.srstFault)) ∧
       (∀ (n : Nat), exec (.soTestPulse dt n) s = .next ((s.begin dt).act (Machine.soTestPulse n))) ∧
       (∀ (n : Nat) (place : Nat) (run : Nat) (v : Nat), exec (.soReadbackViolation dt n place run v) s =
        .next ((s.begin dt).act (soReadback n place run v))) ∧
       (exec (.soTestNow dt) s = .next ((s.begin dt).act Machine.soTestNow)) ∧
       (∀ (k : Nat) (high : Bool) (low : Bool), exec (.coilLsTest dt k high low) s =
        .next ((s.begin dt).act (Machine.coilLsTest k high low))) ∧
       (∀ (src : Nat) (bad : Bool) (held : Nat), exec (.tpsFault dt src bad held) s =
        .next ((s.begin dt).act (Machine.tpsFault src bad held))) ∧
       (∀ (t : Nat), exec (.psfStatusLaunch dt t) s = .next ((s.begin dt).act (Machine.psfStatusLaunch t))) ∧
       (∀ (port : Nat) (frame : List Byte), exec (.psfCommand dt port frame) s =
        .next ((s.begin dt).act (Machine.psfCommand port frame))) ∧
       (∀ (port : Nat), exec (.psfSingleNet dt port) s = .next ((s.begin dt).act (Machine.psfSingleNet port))) ∧
       (exec (.netRestored dt) s = .next ((s.begin dt).act Machine.netRestored)) ∧
       (∀ (v : Nat), exec (.pcvConfirm dt v) s = .next ((s.begin dt).act (Machine.pcvConfirm v))) ∧
       (∀ (k : Nat) (low : Bool) (high : Bool), exec (.coilPwmPeriod dt k low high) s =
        .next ((s.begin dt).act (Machine.coilPwmPeriod k low high))) ∧
       (exec (.errRelease dt) s = .next ((s.begin dt).act Machine.errRelease)) ∧
       (exec (.errNRelease dt) s = .next ((s.begin dt).act Machine.errNRelease)) ∧
       (∀ (v : Nat), exec (.ffAck dt v) s = .next ((s.begin dt).act (Machine.ffAck v))) ∧
       (∀ (src : Nat) (code : Nat) (d0 : Nat), exec (.hostRaise dt src code d0) s =
        .next ((s.begin dt).act (Machine.hostRaise src code d0))) ∧
       (∀ (who : Nat) (v : Nat), exec (.logLookup dt who v) s = .next ((s.begin dt).act (Machine.logLookup who v))) ∧
       (∀ (v : Nat), exec (.anchorTb0 dt v) s = .next ((s.begin dt).act (Machine.anchorTb0 v))) ∧
       (exec (.eventPush dt) s = .next ((s.begin dt).act Machine.eventPush)) ∧
       (∀ (p : Nat) (frame : List Byte) (ns : Nat) (frac : Nat), exec (.ptpRx dt p frame ns frac) s =
        .next ((s.begin dt).act (Machine.ptpRx p frame ns frac))) ∧
       (∀ (p : Nat), exec (.ptprxPop dt p) s = .next ((s.begin dt).act (ptpPop p))) ∧
       (∀ (who : Nat) (p : Nat) (w : Nat), exec (.lqPush dt who p w) s = .next ((s.begin dt).act (lqPushDo who p w))) ∧
       (∀ (p : Nat) (tag : Nat), exec (.lqCancel dt p tag) s = .next ((s.begin dt).act (Machine.lqCancel p tag))) ∧
       (∀ (p : Nat), exec (.txtsPop dt p) s = .next ((s.begin dt).act (Machine.txtsPop p))) ∧
       (∀ (p : Nat), exec (.launchArm dt p) s = .next ((s.begin dt).act (Machine.launchArm p))) ∧
       (∀ (p : Nat) (ns : Nat) (frac : Nat), exec (.entryLaunch dt p ns frac) s =
        .next ((s.begin dt).act (Machine.entryLaunch p ns frac))) ∧
       (∀ (p : Nat), exec (.launchMissed dt p) s = .next ((s.begin dt).act (Machine.launchMissed p))) ∧
       (∀ (falling : Bool) (width : Nat), exec (.tinEdge dt falling width) s =
        .next ((s.begin dt).act (Machine.tinEdge falling width))) ∧
       (exec (.tinPop dt) s = .next ((s.begin dt).act Machine.tinPop)) ∧
       (∀ (p : Nat) (g25 : Bool) (g1 : Bool) (mdix : Bool) (pause : Bool) (snr : Nat) (cable : Nat), exec (.linkUp dt p g25 g1 mdix pause snr cable) s =
        .next ((s.begin dt).act (Machine.linkUp p g25 g1 mdix pause snr cable))) ∧
       (∀ (p : Nat), exec (.linkLoss dt p) s = .next ((s.begin dt).act (Machine.linkLoss p))) ∧
       (∀ (p : Nat), exec (.portRestart dt p) s = .next ((s.begin dt).act (Machine.portRestart p))) ∧
       (∀ (p : Nat) (quanta : Nat), exec (.pauseRx dt p quanta) s =
        .next ((s.begin dt).act (Machine.pauseRx p quanta))) ∧
       (∀ (p : Nat) (fill : Nat), exec (.pauseRepeat dt p fill) s =
        .next ((s.begin dt).act (Machine.pauseRepeat p fill))) ∧
       (∀ (p : Nat) (frame : List Byte) (fcsOk : Bool) (fill : Nat), exec (.frameDiscard dt p frame fcsOk fill) s =
        .next ((s.begin dt).act (Machine.frameDiscard p frame fcsOk fill))) ∧
       (∀ (p : Nat) (bad : List (Option Nat)), exec (.descScrub dt p bad) s =
        .next ((s.begin dt).act (Machine.descScrub p bad))) ∧
       (∀ (k : Nat), exec (.replay dt k) s = .next ((s.begin dt).act (Machine.replay k))) ∧
       (∀ (k : Nat) (lockLost : Bool), exec (.twinLaneFail dt k lockLost) s =
        .next ((s.begin dt).act (Machine.twinLaneFail k lockLost))) ∧
       (∀ (k : Nat) (lock : Bool), exec (.laneRetrain dt k lock) s =
        .next ((s.begin dt).act (Machine.laneRetrain k lock))) ∧
       (exec (.heartbeatSend dt) s = .next ((s.begin dt).act Machine.heartbeatSend)) ∧
       (∀ (hdr : TwHdr) (bytes : List Byte), exec (.heartbeat dt hdr bytes) s =
        .next ((s.begin dt).act (Machine.heartbeat hdr bytes))) ∧
       (exec (.fireflySend dt) s = .next ((s.begin dt).act Machine.fireflySend)) ∧
       (∀ (code : Nat) (pulse : Nat), exec (.fireflyCode dt code pulse) s =
        .next ((s.begin dt).act (Machine.fireflyCode code pulse))) ∧
       (∀ (path : Nat), exec (.pathLost dt path) s = .next ((s.begin dt).act (Machine.pathLost path))) ∧
       (∀ (hdr : TwHdr) (m : Machine.Mirror), exec (.mirror dt hdr m) s = .next ((s.begin dt).act (mirrorIn hdr m))) ∧
       (exec (.takeover dt) s = .next ((s.begin dt).act Machine.takeover)) ∧
       (exec (.handover dt) s = .next ((s.begin dt).act Machine.handover)) ∧
       (exec (.handoverAbort dt) s = .next ((s.begin dt).act Machine.handoverAbort)) ∧
       (∀ (port : Nat), exec (.partnerBeacon dt port) s = .next ((s.begin dt).act (Machine.partnerBeacon port))) ∧
       (∀ (nack : Nat) (bytes : List Byte), exec (.rackTransactionEnd dt nack bytes) s =
        .next ((s.begin dt).act (rackEnd nack bytes))) ∧
       (exec (.arbitrationLoss dt) s = .next ((s.begin dt).act Machine.arbitrationLoss)) ∧
       (∀ (losses : Nat) (resp : Option (List Byte)) (still : Bool), exec (.alertService dt losses resp still) s =
        .next ((s.begin dt).act (Machine.alertService losses resp still))) ∧
       (exec (.sclTimeout dt) s = .next ((s.begin dt).act Machine.sclTimeout)) ∧
       (∀ (sdaLow : Bool) (released : Bool), exec (.busRecovery dt sdaLow released) s =
        .next ((s.begin dt).act (Machine.busRecovery sdaLow released))) ∧
       (exec (.rackBusIdle dt) s = .next ((s.begin dt).act busIdle)) ∧
       (exec (.streamBegin dt) s = .next ((s.begin dt).act Machine.streamBegin)) ∧
       (exec (.streamAbort dt) s = .next ((s.begin dt).act Machine.streamAbort)) ∧
       (∀ (same : Bool) (handover : Bool) (cold : Bool), exec (.activate dt same handover cold) s =
        .next ((s.begin dt).act (Machine.activate same handover cold))) ∧
       (exec (.paramAdopt dt) s = .next ((s.begin dt).act Machine.paramAdopt)) ∧
       (exec (.seal dt) s = .next ((s.begin dt).act sealCmd)) ∧
       (∀ (who : Nat), exec (.svcRequest dt who) s = .next ((s.begin dt).act (Machine.svcRequest who))) ∧
       (∀ (who : Nat) (ws : List Nat), exec (.svcResp dt who ws) s =
        .next ((s.begin dt).act (Machine.svcResp who ws))) ∧
       (∀ (who : Nat), exec (.svcEnd dt who) s = .next ((s.begin dt).act (Machine.svcEnd who))) ∧
       (∀ (who : Nat), exec (.keyWrite dt who) s = .next ((s.begin dt).act (Machine.keyWrite who))) ∧
       (∀ (who : Nat), exec (.keyErase dt who) s = .next ((s.begin dt).act (Machine.keyErase who))) ∧
       (exec (.raiseMinVersion dt) s = .next ((s.begin dt).act Machine.raiseMinVersion)) ∧
       (∀ (line : Nat) (res : Nat), exec (.nvScrub dt line res) s =
        .next ((s.begin dt).act (Machine.nvScrub line res)))

/-- Every command at a pin of the module, of its supply and clocks, every boot, and every access of a host, of the
inspection port or of the partner's registers completes on every state: time passes by its first operand, and the
module becomes what the command's own operation, which follows its rules, makes of it. One line for each command.
Commands that it says complete: bootEnd, capMeasureStart, capMeasureComplete, holdChargeFail, undervoltageRelease,
vinHigh, vcoilLoss, railFault, refLoss, pllcUnlock, pllnUnlock, vcoilRestored, holdRecharged, scanAccess, ipEnable,
ipRelease, islandLimitLatch, latchSet, aonThermalCheck, coldBoot, bootRestart, undervoltageDetection, offEntry,
holdExhaustion, powerCycle, resume, graRead, graWrite, graRmw, graSnap, graHello, ctlSnap, pageLock, registerWrite,
ipRead, ipWrite, traceRead, retire, cellCapWrite, shuttleDisable, reactWrite, tb0AddendWrite, tb1AddendWrite, tb0Step,
tb0Wrap, tpGo, tpStop, regReceive, partnerTb0Addend, partnerTb0Step, rackDisable. -/
def Obligations.EveryPinAndHostCommandHasItsEffect : Prop :=
  ∀ (s : State) (dt : Nat),
    (∀ (hold : Nat), exec (.bootEnd dt hold) s = .next ((s.begin dt).act (Machine.bootEnd hold))) ∧
       (exec (.capMeasureStart dt) s = .next ((s.begin dt).act Machine.capMeasureStart)) ∧
       (exec (.capMeasureComplete dt) s = .next ((s.begin dt).act Machine.capMeasureComplete)) ∧
       (∀ (hold : Nat) (held : Nat), exec (.holdChargeFail dt hold held) s =
        .next ((s.begin dt).act (Machine.holdChargeFail hold held))) ∧
       (∀ (vin : Nat), exec (.undervoltageRelease dt vin) s =
        .next ((s.begin dt).act (Machine.undervoltageRelease vin))) ∧
       (∀ (vin : Nat) (held : Nat), exec (.vinHigh dt vin held) s =
        .next ((s.begin dt).act (Machine.vinHigh vin held))) ∧
       (∀ (v : Nat), exec (.vcoilLoss dt v) s = .next ((s.begin dt).act (Machine.vcoilLoss v))) ∧
       (exec (.railFault dt) s = .next ((s.begin dt).act Machine.railFault)) ∧
       (exec (.refLoss dt) s = .next ((s.begin dt).act Machine.refLoss)) ∧
       (exec (.pllcUnlock dt) s = .next ((s.begin dt).act Machine.pllcUnlock)) ∧
       (exec (.pllnUnlock dt) s = .next ((s.begin dt).act Machine.pllnUnlock)) ∧
       (∀ (v : Nat), exec (.vcoilRestored dt v) s = .next ((s.begin dt).act (Machine.vcoilRestored v))) ∧
       (exec (.holdRecharged dt) s = .next ((s.begin dt).act Machine.holdRecharged)) ∧
       (exec (.scanAccess dt) s = .next ((s.begin dt).act Machine.scanAccess)) ∧
       (exec (.ipEnable dt) s = .next ((s.begin dt).act Machine.ipEnable)) ∧
       (exec (.ipRelease dt) s = .next ((s.begin dt).act Machine.ipRelease)) ∧
       (∀ (k : Nat) (x : Meas) (d : Nat), exec (.islandLimitLatch dt k x d) s =
        .next ((s.begin dt).act (Machine.islandLimitLatch k x.v x.sat d))) ∧
       (∀ (lane : Nat) (sub : Nat), exec (.latchSet dt lane sub) s =
        .next ((s.begin dt).act (Machine.latchSet lane sub))) ∧
       (∀ (s0 : Int) (s4 : Int), exec (.aonThermalCheck dt s0 s4) s = .next ((s.begin dt).act (aonCheck s0 s4))) ∧
       (∀ (pins : BootPins), exec (.coldBoot dt pins) s = .next (Machine.coldBoot pins (s.begin dt))) ∧
       (∀ (bad : List Nat), exec (.bootRestart dt bad) s = .next (Machine.bootRestart bad (s.begin dt))) ∧
       (∀ (vin : Nat), exec (.undervoltageDetection dt vin) s =
        .next (Machine.undervoltageDetection vin (s.begin dt))) ∧
       (exec (.offEntry dt) s = .next (Machine.offEntry (s.begin dt))) ∧
       (exec (.holdExhaustion dt) s = .next (Machine.holdExhaustion (s.begin dt))) ∧
       (exec (.powerCycle dt) s = .next (Machine.powerCycle (s.begin dt))) ∧
       (∀ (sound : Bool), exec (.resume dt sound) s = .next (Machine.resume sound (s.begin dt))) ∧
       (∀ (port : Nat) (frame : List Byte), exec (.graRead dt port frame) s =
        .next (graFrame 1 port frame (s.begin dt))) ∧
       (∀ (port : Nat) (frame : List Byte), exec (.graWrite dt port frame) s =
        .next (graFrame 2 port frame (s.begin dt))) ∧
       (∀ (port : Nat) (frame : List Byte), exec (.graRmw dt port frame) s =
        .next (graFrame 3 port frame (s.begin dt))) ∧
       (∀ (port : Nat) (frame : List Byte), exec (.graSnap dt port frame) s =
        .next (graFrame 4 port frame (s.begin dt))) ∧
       (∀ (port : Nat) (frame : List Byte), exec (.graHello dt port frame) s =
        .next (graFrame 5 port frame (s.begin dt))) ∧
       (∀ (who : Nat) (page : Nat), exec (.ctlSnap dt who page) s =
        .next (hostMasked who (0x1000 * page + 8) 2 2 (s.begin dt))) ∧
       (∀ (who : Nat) (page : Nat) (key : Nat), exec (.pageLock dt who page key) s =
        .next (hostWrite who (0x1000 * page + 0x18) key (s.begin dt))) ∧
       (∀ (who : Nat) (addr : Nat) (value : Nat), exec (.registerWrite dt who addr value) s =
        .next (hostWrite who addr value (s.begin dt))) ∧
       (∀ (addr : Nat), exec (.ipRead dt addr) s = .next (Machine.ipRead addr (s.begin dt))) ∧
       (∀ (addr : Nat) (value : Nat), exec (.ipWrite dt addr value) s =
        .next (Machine.ipWrite addr value (s.begin dt))) ∧
       (∀ (n : Nat), exec (.traceRead dt n) s = .next (Machine.traceRead n (s.begin dt))) ∧
       (∀ (who : Nat) (p : Nat), exec (.retire dt who p) s =
        .next (hostWrite who 0x609C (2 ^ 31 + p % 64) (s.begin dt))) ∧
       (∀ (who : Nat) (n : Nat) (cap : Nat), exec (.cellCapWrite dt who n cap) s =
        .next (hostWrite who (0x100000 + 128 * n + 0x30) cap (s.begin dt))) ∧
       (∀ (who : Nat), exec (.shuttleDisable dt who) s = .next (hostField who SHUTTLE_CTL_EN 0 (s.begin dt))) ∧
       (∀ (who : Nat) (n : Nat) (high : Bool) (v : Nat), exec (.reactWrite dt who n high v) s =
        .next (hostWrite who (0xB800 + 8 * n + (if high then 4 else 0)) v (s.begin dt))) ∧
       (∀ (who : Nat) (v : Nat), exec (.tb0AddendWrite dt who v) s = .next (hostWrite who 0x3060 v (s.begin dt))) ∧
       (∀ (who : Nat) (v : Nat), exec (.tb1AddendWrite dt who v) s = .next (hostWrite who 0x3064 v (s.begin dt))) ∧
       (∀ (who : Nat) (v : Nat), exec (.tb0Step dt who v) s = .next (hostWrite who 0x3068 v (s.begin dt))) ∧
       (exec (.tb0Wrap dt) s = .next (Machine.tb0Wrap (s.begin dt))) ∧
       (∀ (who : Nat) (g : Nat), exec (.tpGo dt who g) s = .next (hostMasked who (0x30D0 + 16 * g) 1 1 (s.begin dt))) ∧
       (∀ (who : Nat) (g : Nat), exec (.tpStop dt who g) s =
        .next (hostMasked who (0x30D0 + 16 * g) 2 2 (s.begin dt))) ∧
       (∀ (hdr : TwHdr) (r : RegPkt), exec (.regReceive dt hdr r) s = .next (regIn hdr r (s.begin dt))) ∧
       (∀ (who : Nat) (v : Nat), exec (.partnerTb0Addend dt who v) s = .next (hostWrite who 0xE070 v (s.begin dt))) ∧
       (∀ (who : Nat) (v : Nat), exec (.partnerTb0Step dt who v) s = .next (hostWrite who 0xE074 v (s.begin dt))) ∧
       (∀ (who : Nat), exec (.rackDisable dt who) s = .next (hostField who RACK_CTL_EN 0 (s.begin dt)))

/-- Every timer that is armed, on any state in which no scan access holds the engines, expires at its deadline: the time
is carried forward to it where it lies ahead, and the block becomes what the timer's own operation makes of it at that
time. One clause for each timer. Commands that it says complete: rideThroughExpiry, graCacheExpiry, coilTestEnd,
feedbackCloseTimeout, feedbackOpenTimeout, ssbTestEnd, staggerEnd, pcTimeout, pcCoolEnd, pickEnd,
disconnectConfirmTimeout, weldPulseEnd, weldRetry, weldWindowEnd, tCtrlExpiry, partnerRideExpiry, captureFreeze,
syncLoss, authTimeout, journalPeriod, tpsWindowEnd, siDiscrepancy, siFirstEvaluation, skewWindowClose,
psfWatchdogExpiry, watchdogStart, psfSingleExpired, pcvRecompute, eventHoldExpiry, logCommit, tpEdge, linkGraceEnd,
laneRestore, partnerSeenExpiry, warmBootSuspendEnd, bootListenEnd, takeoverHoldEnd, orphanYield, orphanResume,
handoverRequest, pollDue, backoffEnd, alertPauseEnd, recoveryHoldEnd, busRetry, activationTimeout, svcResponseTimeout,
svcBlockEnd, svcTimeout, paramCommitTimer. -/
def Obligations.EveryTimerHasItsEffectAtItsDeadline : Prop :=
  (∀ (s : State) (dt due : Nat),
    s.blk.keep.scanned = false →
    rideTimer (s.begin dt).blk = some due →
    exec (.rideThroughExpiry dt) s = .next (((s.begin dt).reach due).act rideExpiry)) ∧
  (∀ (s : State) (dt due : Nat) (session : Nat),
    s.blk.keep.scanned = false →
    (cacheTimer session) (s.begin dt).blk = some due →
    exec (.graCacheExpiry dt session) s = .next (((s.begin dt).reach due).act (cacheExpiry session))) ∧
  (∀ (s : State) (dt due : Nat),
    s.blk.keep.scanned = false →
    (s.begin dt).blk.seq.coilTestBy = some due →
    exec (.coilTestEnd dt) s = .next (((s.begin dt).reach due).act Machine.coilTestEnd)) ∧
  (∀ (s : State) (dt due : Nat),
    s.blk.keep.scanned = false →
    (s.begin dt).blk.seq.fbBy = some due →
    exec (.feedbackCloseTimeout dt) s = .next (((s.begin dt).reach due).act Machine.feedbackCloseTimeout)) ∧
  (∀ (s : State) (dt due : Nat),
    s.blk.keep.scanned = false →
    (s.begin dt).blk.seq.fbBy = some due →
    exec (.feedbackOpenTimeout dt) s = .next (((s.begin dt).reach due).act Machine.feedbackOpenTimeout)) ∧
  (∀ (s : State) (dt due : Nat) (bk : Bool) (maxI : Nat) (midp : Int) (hvp : Int) (midn : Int) (hvn : Int),
    s.blk.keep.scanned = false →
    (s.begin dt).blk.seq.ssbTest = some due →
    exec (.ssbTestEnd dt bk maxI midp hvp midn hvn) s = .next (((s.begin dt).reach due).act (Machine.ssbTestEnd bk maxI midp hvp midn hvn))) ∧
  (∀ (s : State) (dt due : Nat),
    s.blk.keep.scanned = false →
    (s.begin dt).blk.seq.stagger.map Prod.fst = some due →
    exec (.staggerEnd dt) s = .next (((s.begin dt).reach due).act Machine.staggerEnd)) ∧
  (∀ (s : State) (dt due : Nat) (peak : Nat),
    s.blk.keep.scanned = false →
    (s.begin dt).blk.seq.pcBy = some due →
    exec (.pcTimeout dt peak) s = .next (((s.begin dt).reach due).act (Machine.pcTimeout peak))) ∧
  (∀ (s : State) (dt due : Nat),
    s.blk.keep.scanned = false →
    (s.begin dt).blk.seq.coolBy = some due →
    exec (.pcCoolEnd dt) s = .next (((s.begin dt).reach due).act Machine.pcCoolEnd)) ∧
  (∀ (s : State) (dt due : Nat) (k : Nat) (i : Nat),
    s.blk.keep.scanned = false →
    (pickTimer k) (s.begin dt).blk = some due →
    exec (.pickEnd dt k i) s = .next (((s.begin dt).reach due).act (Machine.pickEnd k i))) ∧
  (∀ (s : State) (dt due : Nat) (bk1 : Bool) (bk2 : Bool) (i : Int),
    s.blk.keep.scanned = false →
    (s.begin dt).blk.seq.confirmBy = some due →
    exec (.disconnectConfirmTimeout dt bk1 bk2 i) s = .next (((s.begin dt).reach due).act (disTimeout bk1 bk2 i))) ∧
  (∀ (s : State) (dt due : Nat) (d : Int) (ee : Int) (midD : Int) (midE : Int) (bk : Bool) (kp : Bool) (kn : Bool) (kc : Bool),
    s.blk.keep.scanned = false →
    (s.begin dt).blk.seq.pulseBy = some due →
    exec (.weldPulseEnd dt d ee midD midE bk kp kn kc) s = .next (((s.begin dt).reach due).act (Machine.weldPulseEnd d ee midD midE bk kp kn kc))) ∧
  (∀ (s : State) (dt due : Nat),
    s.blk.keep.scanned = false →
    (s.begin dt).blk.seq.weld.bind Weld.retryBy = some due →
    exec (.weldRetry dt) s = .next (((s.begin dt).reach due).act Machine.weldRetry)) ∧
  (∀ (s : State) (dt due : Nat),
    s.blk.keep.scanned = false →
    (s.begin dt).blk.seq.weld.bind Weld.windowBy = some due →
    exec (.weldWindowEnd dt) s = .next (((s.begin dt).reach due).act Machine.weldWindowEnd)) ∧
  (∀ (s : State) (dt due : Nat),
    s.blk.keep.scanned = false →
    (s.begin dt).blk.seq.tctrl = some due →
    exec (.tCtrlExpiry dt) s = .next (((s.begin dt).reach due).act tctrlExpiry)) ∧
  (∀ (s : State) (dt due : Nat),
    s.blk.keep.scanned = false →
    (s.begin dt).blk.seq.partnerRideBy = some due →
    exec (.partnerRideExpiry dt) s = .next (((s.begin dt).reach due).act Machine.partnerRideExpiry)) ∧
  (∀ (s : State) (dt due : Nat),
    s.blk.keep.scanned = false →
    freezeTimer (s.begin dt).blk = some due →
    exec (.captureFreeze dt) s = .next (((s.begin dt).reach due).act Machine.captureFreeze)) ∧
  (∀ (s : State) (dt due : Nat),
    s.blk.keep.scanned = false →
    syncTimer (s.begin dt).blk = some due →
    exec (.syncLoss dt) s = .next (((s.begin dt).reach due).act Machine.syncLoss)) ∧
  (∀ (s : State) (dt due : Nat) (p : Nat),
    s.blk.keep.scanned = false →
    (authTimer p) (s.begin dt).blk = some due →
    exec (.authTimeout dt p) s = .next (((s.begin dt).reach due).act (Machine.authTimeout p))) ∧
  (∀ (s : State) (dt due : Nat),
    s.blk.keep.scanned = false →
    (s.begin dt).blk.ledger.jrnAt = some due →
    exec (.journalPeriod dt) s = .next (((s.begin dt).reach due).act Machine.journalPeriod)) ∧
  (∀ (s : State) (dt due : Nat) (src : Nat) (rs : List TpsRead),
    s.blk.keep.scanned = false →
    (tpsTimer src) (s.begin dt).blk = some due →
    exec (.tpsWindowEnd dt src rs) s = .next (((s.begin dt).reach due).act (Machine.tpsWindowEnd src rs))) ∧
  (∀ (s : State) (dt due : Nat) (n : Nat),
    s.blk.keep.scanned = false →
    (discTimer n) (s.begin dt).blk = some due →
    exec (.siDiscrepancy dt n) s = .next (((s.begin dt).reach due).act (Machine.siDiscrepancy n))) ∧
  (∀ (s : State) (dt due : Nat),
    s.blk.keep.scanned = false →
    (s.begin dt).blk.safe.evalBy = some due →
    exec (.siFirstEvaluation dt) s = .next (((s.begin dt).reach due).act Machine.siFirstEvaluation)) ∧
  (∀ (s : State) (dt due : Nat),
    s.blk.keep.scanned = false →
    skewTimer (s.begin dt).blk = some due →
    exec (.skewWindowClose dt) s = .next (((s.begin dt).reach due).act skewMissing)) ∧
  (∀ (s : State) (dt due : Nat),
    s.blk.keep.scanned = false →
    wdTimer (s.begin dt).blk = some due →
    exec (.psfWatchdogExpiry dt) s = .next (((s.begin dt).reach due).act Machine.psfWatchdogExpiry)) ∧
  (∀ (s : State) (dt due : Nat),
    s.blk.keep.scanned = false →
    wdStartTimer (s.begin dt).blk = some due →
    exec (.watchdogStart dt) s = .next (((s.begin dt).reach due).act Machine.watchdogStart)) ∧
  (∀ (s : State) (dt due : Nat),
    s.blk.keep.scanned = false →
    (singleTimer s.env) (s.begin dt).blk = some due →
    exec (.psfSingleExpired dt) s = .next (((s.begin dt).reach due).act Machine.psfSingleExpired)) ∧
  (∀ (s : State) (dt due : Nat),
    s.blk.keep.scanned = false →
    pcvTimer (s.begin dt).blk = some due →
    exec (.pcvRecompute dt) s = .next (((s.begin dt).reach due).act pcvForward)) ∧
  (∀ (s : State) (dt due : Nat) (src : Nat),
    s.blk.keep.scanned = false →
    (holdTimer src) (s.begin dt).blk = some due →
    exec (.eventHoldExpiry dt src) s = .next (((s.begin dt).reach due).act (Machine.eventHoldExpiry src))) ∧
  (∀ (s : State) (dt due : Nat),
    s.blk.keep.scanned = false →
    (s.begin dt).blk.watch.logAt = some due →
    exec (.logCommit dt) s = .next (((s.begin dt).reach due).act Machine.logCommit)) ∧
  (∀ (s : State) (dt due : Nat) (g : Nat),
    s.blk.keep.scanned = false →
    (tpTimer g) (s.begin dt).blk = some due →
    exec (.tpEdge dt g) s = .next (((s.begin dt).reach due).act (Machine.tpEdge g))) ∧
  (∀ (s : State) (dt due : Nat) (p : Nat),
    s.blk.keep.scanned = false →
    (graceTimer p) (s.begin dt).blk = some due →
    exec (.linkGraceEnd dt p) s = .next (((s.begin dt).reach due).act (Machine.linkGraceEnd p))) ∧
  (∀ (s : State) (dt due : Nat) (k : Nat),
    s.blk.keep.scanned = false →
    (laneTimer k) (s.begin dt).blk = some due →
    exec (.laneRestore dt k) s = .next (((s.begin dt).reach due).act (Machine.laneRestore k))) ∧
  (∀ (s : State) (dt due : Nat),
    s.blk.keep.scanned = false →
    seenTimer (s.begin dt).blk = some due →
    exec (.partnerSeenExpiry dt) s = .next (((s.begin dt).reach due).act Machine.partnerSeenExpiry)) ∧
  (∀ (s : State) (dt due : Nat),
    s.blk.keep.scanned = false →
    suspendTimer (s.begin dt).blk = some due →
    exec (.warmBootSuspendEnd dt) s = .next (((s.begin dt).reach due).act warmSuspendEnd)) ∧
  (∀ (s : State) (dt due : Nat),
    s.blk.keep.scanned = false →
    listenTimer (s.begin dt).blk = some due →
    exec (.bootListenEnd dt) s = .next (((s.begin dt).reach due).act Machine.bootListenEnd)) ∧
  (∀ (s : State) (dt due : Nat),
    s.blk.keep.scanned = false →
    holdEndTimer (s.begin dt).blk = some due →
    exec (.takeoverHoldEnd dt) s = .next (((s.begin dt).reach due).act Machine.takeoverHoldEnd)) ∧
  (∀ (s : State) (dt due : Nat),
    s.blk.keep.scanned = false →
    yieldTimer (s.begin dt).blk = some due →
    exec (.orphanYield dt) s = .next (((s.begin dt).reach due).act Machine.orphanYield)) ∧
  (∀ (s : State) (dt due : Nat),
    s.blk.keep.scanned = false →
    resumeTimer (s.begin dt).blk = some due →
    exec (.orphanResume dt) s = .next (((s.begin dt).reach due).act Machine.orphanResume)) ∧
  (∀ (s : State) (dt due : Nat),
    s.blk.keep.scanned = false →
    handReqTimer (s.begin dt).blk = some due →
    exec (.handoverRequest dt) s = .next (((s.begin dt).reach due).act Machine.handoverRequest)) ∧
  (∀ (s : State) (dt due : Nat) (n : Nat),
    s.blk.keep.scanned = false →
    (dueTimer n) (s.begin dt).blk = some due →
    exec (.pollDue dt n) s = .next (((s.begin dt).reach due).act (Machine.pollDue n))) ∧
  (∀ (s : State) (dt due : Nat),
    s.blk.keep.scanned = false →
    backoffTimer (s.begin dt).blk = some due →
    exec (.backoffEnd dt) s = .next (((s.begin dt).reach due).act Machine.backoffEnd)) ∧
  (∀ (s : State) (dt due : Nat) (highMs : Nat),
    s.blk.keep.scanned = false →
    alertTimer (s.begin dt).blk = some due →
    exec (.alertPauseEnd dt highMs) s = .next (((s.begin dt).reach due).act (Machine.alertPauseEnd highMs))) ∧
  (∀ (s : State) (dt due : Nat) (released : Bool),
    s.blk.keep.scanned = false →
    holdLowTimer (s.begin dt).blk = some due →
    exec (.recoveryHoldEnd dt released) s = .next (((s.begin dt).reach due).act (Machine.recoveryHoldEnd released))) ∧
  (∀ (s : State) (dt due : Nat) (released : Bool),
    s.blk.keep.scanned = false →
    busRetryTimer (s.begin dt).blk = some due →
    exec (.busRetry dt released) s = .next (((s.begin dt).reach due).act (Machine.busRetry released))) ∧
  (∀ (s : State) (dt due : Nat),
    s.blk.keep.scanned = false →
    activateTimer (s.begin dt).blk = some due →
    exec (.activationTimeout dt) s = .next (((s.begin dt).reach due).act Machine.activationTimeout)) ∧
  (∀ (s : State) (dt due : Nat),
    s.blk.keep.scanned = false →
    svcRespTimer (s.begin dt).blk = some due →
    exec (.svcResponseTimeout dt) s = .next (((s.begin dt).reach due).act Machine.svcResponseTimeout)) ∧
  (∀ (s : State) (dt due : Nat),
    s.blk.keep.scanned = false →
    svcBlockTimer (s.begin dt).blk = some due →
    exec (.svcBlockEnd dt) s = .next (((s.begin dt).reach due).act Machine.svcBlockEnd)) ∧
  (∀ (s : State) (dt due : Nat),
    s.blk.keep.scanned = false →
    svcTimer (s.begin dt).blk = some due →
    exec (.svcTimeout dt) s = .next (((s.begin dt).reach due).act serviceEnd)) ∧
  (∀ (s : State) (dt due : Nat),
    s.blk.keep.scanned = false →
    paramTimer (s.begin dt).blk = some due →
    exec (.paramCommitTimer dt) s = .next (((s.begin dt).reach due).act Machine.paramCommitTimer))
end

