-- ==== Sys2Proof/Laws/Regs.lean ====
section
/-! SUPPORT. Register maps: reading after writing, and the canonical form kept by every operation. -/

namespace Sys2Proof.Machine

theorem RegMap.find_insert_self (m : RegMap) (key x d : Nat) : (m.insert key x).find key d = x := by
  induction m with
  | nil => simp [RegMap.insert, RegMap.find]
  | cons p m ih =>
    obtain ⟨k, v⟩ := p
    simp only [RegMap.insert]
    split
    · simp [RegMap.find]
    · split
      · simp [RegMap.find]
      · simp [RegMap.find, *]

theorem RegMap.find_insert_ne (m : RegMap) {key other : Nat} (x d : Nat) (h : key ≠ other) :
    (m.insert key x).find other d = m.find other d := by
  induction m with
  | nil => simp [RegMap.insert, RegMap.find, h]
  | cons p m ih =>
    obtain ⟨k, v⟩ := p
    simp only [RegMap.insert]
    split
    · simp [RegMap.find, h]
    · split
      · subst_vars; simp [RegMap.find, h]
      · simp [RegMap.find, ih]

theorem RegMap.find_erase_self (m : RegMap) (key d : Nat) : (m.erase key).find key d = d := by
  induction m with
  | nil => rfl
  | cons p m ih =>
    obtain ⟨k, v⟩ := p
    by_cases h : k = key
    · subst h; simpa [RegMap.erase] using ih
    · simpa [RegMap.erase, RegMap.find, h] using ih

theorem RegMap.find_erase_ne (m : RegMap) {key other : Nat} (d : Nat) (h : key ≠ other) :
    (m.erase key).find other d = m.find other d := by
  induction m with
  | nil => rfl
  | cons p m ih =>
    obtain ⟨k, v⟩ := p
    by_cases hk : k = key
    · subst hk; simpa [RegMap.erase, RegMap.find, h] using ih
    · have hf : RegMap.erase ((k, v) :: m) key = (k, v) :: RegMap.erase m key := by simp [RegMap.erase, hk]
      rw [hf, RegMap.find, RegMap.find, ih]

/-- A field reads what was written to it, kept to its width. -/
@[simp] theorem RegMap.get_put_self (m : RegMap) (f : Fld) (v : Nat) : (m.put f v).get f = v % 2 ^ f.w := by
  unfold RegMap.put RegMap.get RegMap.set
  split
  · rename_i h; rw [find_erase_self, h]
  · rw [find_insert_self]

/-- Writing one field leaves every other field alone. -/
theorem RegMap.get_put_ne (m : RegMap) {f g : Fld} (v : Nat) (h : f.key ≠ g.key) : (m.put f v).get g = m.get g := by
  unfold RegMap.put RegMap.get RegMap.set
  split
  · exact find_erase_ne m _ h
  · exact find_insert_ne m _ _ h

@[simp] theorem RegMap.get_nil (f : Fld) : RegMap.get [] f = f.reset := rfl

theorem RegMap.wf_nil : RegMap.wf [] := List.Pairwise.nil

theorem RegMap.wf_filter {m : RegMap} (p : Nat × Nat → Bool) (h : m.wf) : RegMap.wf (m.filter p) :=
  List.Pairwise.filter p h

theorem RegMap.wf_erase {m : RegMap} (key : Nat) (h : m.wf) : (m.erase key).wf := wf_filter _ h

theorem RegMap.mem_insert {m : RegMap} {key x : Nat} {p : Nat × Nat} (h : p ∈ m.insert key x) :
    p = (key, x) ∨ p ∈ m := by
  induction m with
  | nil => simpa [RegMap.insert] using h
  | cons q m ih =>
    obtain ⟨k, v⟩ := q
    simp only [RegMap.insert] at h
    split at h
    · simpa using h
    · split at h
      · rcases List.mem_cons.1 h with h | h
        · exact .inl h
        · exact .inr (List.mem_cons_of_mem _ h)
      · rcases List.mem_cons.1 h with h | h
        · exact .inr (h ▸ List.mem_cons_self)
        · exact (ih h).imp id (List.mem_cons_of_mem _)

theorem RegMap.wf_insert {m : RegMap} (key x : Nat) (h : m.wf) : (m.insert key x).wf := by
  induction m with
  | nil => simp [RegMap.insert, RegMap.wf]
  | cons q m ih =>
    obtain ⟨k, v⟩ := q
    obtain ⟨h1, h2⟩ := List.pairwise_cons.1 h
    simp only [RegMap.insert]
    split
    · rename_i hk
      refine List.pairwise_cons.2 ⟨?_, h⟩
      intro p hp
      rcases List.mem_cons.1 hp with rfl | hp
      · exact hk
      · exact Nat.lt_trans hk (h1 p hp)
    · split
      · rename_i hk; subst hk
        exact List.pairwise_cons.2 ⟨fun p hp => h1 p hp, h2⟩
      · rename_i h3 h4
        refine List.pairwise_cons.2 ⟨?_, ih h2⟩
        intro p hp
        rcases mem_insert hp with rfl | hp
        · show k < key; omega
        · exact h1 p hp

/-- Writing a field keeps the canonical form. -/
theorem RegMap.wf_put {m : RegMap} (f : Fld) (v : Nat) (h : m.wf) : (m.put f v).wf := by
  unfold RegMap.put RegMap.set
  split
  · exact wf_erase _ h
  · exact wf_insert _ _ h

end Sys2Proof.Machine
end

