-- ==== Sys2Proof/Laws/State.lean ====
section
/-! SUPPORT. One lemma per field per update of a block, true by unfolding, so that no proof unfolds a record update. -/

namespace Sys2Proof.Machine

variable (b : Blk) (f g : Fld)

theorem Blk.get_eq : b.get f = b.sta.get f := rfl
theorem Blk.int_eq : b.int f = f.val (b.sta.get f) := rfl

/-- A status field reads what was put into it, kept to its width. -/
@[simp] theorem Blk.get_put_self (v : Nat) : (b.put f v).get f = v % 2 ^ f.w := RegMap.get_put_self _ _ _

/-- Putting one status field leaves the others alone. -/
theorem Blk.get_put_ne {f g : Fld} (v : Nat) (h : f.key ≠ g.key) : (b.put f v).get g = b.get g :=
  RegMap.get_put_ne _ _ h

theorem Blk.get_putInt_ne {f g : Fld} (v : Int) (h : f.key ≠ g.key) : (b.putInt f v).get g = b.get g :=
  RegMap.get_put_ne _ _ h

theorem Blk.get_bump_ne {f g : Fld} (n : Nat) (h : f.key ≠ g.key) : (b.bump f n).get g = b.get g :=
  RegMap.get_put_ne _ _ h

theorem Blk.get_putFree_ne {f g : Fld} (h : f.key ≠ g.key) : (b.putFree f).get g = b.get g :=
  RegMap.get_put_ne _ _ h

@[simp] theorem Blk.get_emit (t : Tx) : (b.emit t).get g = b.get g := rfl

@[simp] theorem Blk.put_mode (v : Nat) : (b.put f v).mode = b.mode := rfl
@[simp] theorem Blk.put_prev (v : Nat) : (b.put f v).prev = b.prev := rfl
@[simp] theorem Blk.put_phase (v : Nat) : (b.put f v).phase = b.phase := rfl
@[simp] theorem Blk.put_role (v : Nat) : (b.put f v).role = b.role := rfl
@[simp] theorem Blk.put_twin (v : Nat) : (b.put f v).twin = b.twin := rfl
@[simp] theorem Blk.put_unlocked (v : Nat) : (b.put f v).unlocked = b.unlocked := rfl
@[simp] theorem Blk.put_lastStatus (v : Nat) : (b.put f v).lastStatus = b.lastStatus := rfl
@[simp] theorem Blk.put_tx (v : Nat) : (b.put f v).tx = b.tx := rfl
@[simp] theorem Blk.put_free (v : Nat) : (b.put f v).free = b.free := rfl
@[simp] theorem Blk.put_watch (v : Nat) : (b.put f v).watch = b.watch := rfl
@[simp] theorem Blk.put_pwr (v : Nat) : (b.put f v).pwr = b.pwr := rfl
@[simp] theorem Blk.put_seq (v : Nat) : (b.put f v).seq = b.seq := rfl
@[simp] theorem Blk.put_therm (v : Nat) : (b.put f v).therm = b.therm := rfl
@[simp] theorem Blk.put_safe (v : Nat) : (b.put f v).safe = b.safe := rfl
@[simp] theorem Blk.put_psf (v : Nat) : (b.put f v).psf = b.psf := rfl
@[simp] theorem Blk.put_keep (v : Nat) : (b.put f v).keep = b.keep := rfl
@[simp] theorem Blk.put_tim (v : Nat) : (b.put f v).tim = b.tim := rfl
@[simp] theorem Blk.put_hvs (v : Nat) : (b.put f v).hvs = b.hvs := rfl
@[simp] theorem Blk.put_trip (v : Nat) : (b.put f v).trip = b.trip := rfl
@[simp] theorem Blk.put_chain (v : Nat) : (b.put f v).chain = b.chain := rfl
@[simp] theorem Blk.put_ledger (v : Nat) : (b.put f v).ledger = b.ledger := rfl
@[simp] theorem Blk.put_shuttle (v : Nat) : (b.put f v).shuttle = b.shuttle := rfl
@[simp] theorem Blk.put_tw (v : Nat) : (b.put f v).tw = b.tw := rfl
@[simp] theorem Blk.put_ports (v : Nat) : (b.put f v).ports = b.ports := rfl
@[simp] theorem Blk.put_rack (v : Nat) : (b.put f v).rack = b.rack := rfl
@[simp] theorem Blk.put_sess (v : Nat) : (b.put f v).sess = b.sess := rfl

@[simp] theorem Blk.putInt_mode (v : Int) : (b.putInt f v).mode = b.mode := rfl
@[simp] theorem Blk.putInt_prev (v : Int) : (b.putInt f v).prev = b.prev := rfl
@[simp] theorem Blk.putInt_phase (v : Int) : (b.putInt f v).phase = b.phase := rfl
@[simp] theorem Blk.putInt_role (v : Int) : (b.putInt f v).role = b.role := rfl
@[simp] theorem Blk.putInt_twin (v : Int) : (b.putInt f v).twin = b.twin := rfl
@[simp] theorem Blk.putInt_unlocked (v : Int) : (b.putInt f v).unlocked = b.unlocked := rfl
@[simp] theorem Blk.putInt_lastStatus (v : Int) : (b.putInt f v).lastStatus = b.lastStatus := rfl
@[simp] theorem Blk.putInt_tx (v : Int) : (b.putInt f v).tx = b.tx := rfl
@[simp] theorem Blk.putInt_free (v : Int) : (b.putInt f v).free = b.free := rfl
@[simp] theorem Blk.putInt_watch (v : Int) : (b.putInt f v).watch = b.watch := rfl
@[simp] theorem Blk.putInt_pwr (v : Int) : (b.putInt f v).pwr = b.pwr := rfl
@[simp] theorem Blk.putInt_seq (v : Int) : (b.putInt f v).seq = b.seq := rfl
@[simp] theorem Blk.putInt_therm (v : Int) : (b.putInt f v).therm = b.therm := rfl
@[simp] theorem Blk.putInt_safe (v : Int) : (b.putInt f v).safe = b.safe := rfl
@[simp] theorem Blk.putInt_psf (v : Int) : (b.putInt f v).psf = b.psf := rfl
@[simp] theorem Blk.putInt_keep (v : Int) : (b.putInt f v).keep = b.keep := rfl
@[simp] theorem Blk.putInt_tim (v : Int) : (b.putInt f v).tim = b.tim := rfl
@[simp] theorem Blk.putInt_hvs (v : Int) : (b.putInt f v).hvs = b.hvs := rfl
@[simp] theorem Blk.putInt_trip (v : Int) : (b.putInt f v).trip = b.trip := rfl
@[simp] theorem Blk.putInt_chain (v : Int) : (b.putInt f v).chain = b.chain := rfl
@[simp] theorem Blk.putInt_ledger (v : Int) : (b.putInt f v).ledger = b.ledger := rfl
@[simp] theorem Blk.putInt_shuttle (v : Int) : (b.putInt f v).shuttle = b.shuttle := rfl
@[simp] theorem Blk.putInt_tw (v : Int) : (b.putInt f v).tw = b.tw := rfl
@[simp] theorem Blk.putInt_ports (v : Int) : (b.putInt f v).ports = b.ports := rfl
@[simp] theorem Blk.putInt_rack (v : Int) : (b.putInt f v).rack = b.rack := rfl
@[simp] theorem Blk.putInt_sess (v : Int) : (b.putInt f v).sess = b.sess := rfl

@[simp] theorem Blk.bump_mode (n : Nat) : (b.bump f n).mode = b.mode := rfl
@[simp] theorem Blk.bump_prev (n : Nat) : (b.bump f n).prev = b.prev := rfl
@[simp] theorem Blk.bump_phase (n : Nat) : (b.bump f n).phase = b.phase := rfl
@[simp] theorem Blk.bump_role (n : Nat) : (b.bump f n).role = b.role := rfl
@[simp] theorem Blk.bump_twin (n : Nat) : (b.bump f n).twin = b.twin := rfl
@[simp] theorem Blk.bump_unlocked (n : Nat) : (b.bump f n).unlocked = b.unlocked := rfl
@[simp] theorem Blk.bump_lastStatus (n : Nat) : (b.bump f n).lastStatus = b.lastStatus := rfl
@[simp] theorem Blk.bump_tx (n : Nat) : (b.bump f n).tx = b.tx := rfl
@[simp] theorem Blk.bump_free (n : Nat) : (b.bump f n).free = b.free := rfl
@[simp] theorem Blk.bump_watch (n : Nat) : (b.bump f n).watch = b.watch := rfl
@[simp] theorem Blk.bump_pwr (n : Nat) : (b.bump f n).pwr = b.pwr := rfl
@[simp] theorem Blk.bump_seq (n : Nat) : (b.bump f n).seq = b.seq := rfl
@[simp] theorem Blk.bump_therm (n : Nat) : (b.bump f n).therm = b.therm := rfl
@[simp] theorem Blk.bump_safe (n : Nat) : (b.bump f n).safe = b.safe := rfl
@[simp] theorem Blk.bump_psf (n : Nat) : (b.bump f n).psf = b.psf := rfl
@[simp] theorem Blk.bump_keep (n : Nat) : (b.bump f n).keep = b.keep := rfl
@[simp] theorem Blk.bump_tim (n : Nat) : (b.bump f n).tim = b.tim := rfl
@[simp] theorem Blk.bump_hvs (n : Nat) : (b.bump f n).hvs = b.hvs := rfl
@[simp] theorem Blk.bump_trip (n : Nat) : (b.bump f n).trip = b.trip := rfl
@[simp] theorem Blk.bump_chain (n : Nat) : (b.bump f n).chain = b.chain := rfl
@[simp] theorem Blk.bump_ledger (n : Nat) : (b.bump f n).ledger = b.ledger := rfl
@[simp] theorem Blk.bump_shuttle (n : Nat) : (b.bump f n).shuttle = b.shuttle := rfl
@[simp] theorem Blk.bump_tw (n : Nat) : (b.bump f n).tw = b.tw := rfl
@[simp] theorem Blk.bump_ports (n : Nat) : (b.bump f n).ports = b.ports := rfl
@[simp] theorem Blk.bump_rack (n : Nat) : (b.bump f n).rack = b.rack := rfl
@[simp] theorem Blk.bump_sess (n : Nat) : (b.bump f n).sess = b.sess := rfl

@[simp] theorem Blk.putFree_mode  : (b.putFree f).mode = b.mode := rfl
@[simp] theorem Blk.putFree_prev  : (b.putFree f).prev = b.prev := rfl
@[simp] theorem Blk.putFree_phase  : (b.putFree f).phase = b.phase := rfl
@[simp] theorem Blk.putFree_role  : (b.putFree f).role = b.role := rfl
@[simp] theorem Blk.putFree_twin  : (b.putFree f).twin = b.twin := rfl
@[simp] theorem Blk.putFree_unlocked  : (b.putFree f).unlocked = b.unlocked := rfl
@[simp] theorem Blk.putFree_lastStatus  : (b.putFree f).lastStatus = b.lastStatus := rfl
@[simp] theorem Blk.putFree_tx  : (b.putFree f).tx = b.tx := rfl
@[simp] theorem Blk.putFree_watch  : (b.putFree f).watch = b.watch := rfl
@[simp] theorem Blk.putFree_pwr  : (b.putFree f).pwr = b.pwr := rfl
@[simp] theorem Blk.putFree_seq  : (b.putFree f).seq = b.seq := rfl
@[simp] theorem Blk.putFree_therm  : (b.putFree f).therm = b.therm := rfl
@[simp] theorem Blk.putFree_safe  : (b.putFree f).safe = b.safe := rfl
@[simp] theorem Blk.putFree_psf  : (b.putFree f).psf = b.psf := rfl
@[simp] theorem Blk.putFree_keep  : (b.putFree f).keep = b.keep := rfl
@[simp] theorem Blk.putFree_tim  : (b.putFree f).tim = b.tim := rfl
@[simp] theorem Blk.putFree_hvs  : (b.putFree f).hvs = b.hvs := rfl
@[simp] theorem Blk.putFree_trip  : (b.putFree f).trip = b.trip := rfl
@[simp] theorem Blk.putFree_chain  : (b.putFree f).chain = b.chain := rfl
@[simp] theorem Blk.putFree_ledger  : (b.putFree f).ledger = b.ledger := rfl
@[simp] theorem Blk.putFree_shuttle  : (b.putFree f).shuttle = b.shuttle := rfl
@[simp] theorem Blk.putFree_tw  : (b.putFree f).tw = b.tw := rfl
@[simp] theorem Blk.putFree_ports  : (b.putFree f).ports = b.ports := rfl
@[simp] theorem Blk.putFree_rack  : (b.putFree f).rack = b.rack := rfl
@[simp] theorem Blk.putFree_sess  : (b.putFree f).sess = b.sess := rfl

@[simp] theorem Blk.emit_sta (t : Tx) : (b.emit t).sta = b.sta := rfl
@[simp] theorem Blk.emit_mode (t : Tx) : (b.emit t).mode = b.mode := rfl
@[simp] theorem Blk.emit_prev (t : Tx) : (b.emit t).prev = b.prev := rfl
@[simp] theorem Blk.emit_phase (t : Tx) : (b.emit t).phase = b.phase := rfl
@[simp] theorem Blk.emit_role (t : Tx) : (b.emit t).role = b.role := rfl
@[simp] theorem Blk.emit_twin (t : Tx) : (b.emit t).twin = b.twin := rfl
@[simp] theorem Blk.emit_unlocked (t : Tx) : (b.emit t).unlocked = b.unlocked := rfl
@[simp] theorem Blk.emit_lastStatus (t : Tx) : (b.emit t).lastStatus = b.lastStatus := rfl
@[simp] theorem Blk.emit_free (t : Tx) : (b.emit t).free = b.free := rfl
@[simp] theorem Blk.emit_watch (t : Tx) : (b.emit t).watch = b.watch := rfl
@[simp] theorem Blk.emit_pwr (t : Tx) : (b.emit t).pwr = b.pwr := rfl
@[simp] theorem Blk.emit_seq (t : Tx) : (b.emit t).seq = b.seq := rfl
@[simp] theorem Blk.emit_therm (t : Tx) : (b.emit t).therm = b.therm := rfl
@[simp] theorem Blk.emit_safe (t : Tx) : (b.emit t).safe = b.safe := rfl
@[simp] theorem Blk.emit_psf (t : Tx) : (b.emit t).psf = b.psf := rfl
@[simp] theorem Blk.emit_keep (t : Tx) : (b.emit t).keep = b.keep := rfl
@[simp] theorem Blk.emit_tim (t : Tx) : (b.emit t).tim = b.tim := rfl
@[simp] theorem Blk.emit_hvs (t : Tx) : (b.emit t).hvs = b.hvs := rfl
@[simp] theorem Blk.emit_trip (t : Tx) : (b.emit t).trip = b.trip := rfl
@[simp] theorem Blk.emit_chain (t : Tx) : (b.emit t).chain = b.chain := rfl
@[simp] theorem Blk.emit_ledger (t : Tx) : (b.emit t).ledger = b.ledger := rfl
@[simp] theorem Blk.emit_shuttle (t : Tx) : (b.emit t).shuttle = b.shuttle := rfl
@[simp] theorem Blk.emit_tw (t : Tx) : (b.emit t).tw = b.tw := rfl
@[simp] theorem Blk.emit_ports (t : Tx) : (b.emit t).ports = b.ports := rfl
@[simp] theorem Blk.emit_rack (t : Tx) : (b.emit t).rack = b.rack := rfl
@[simp] theorem Blk.emit_sess (t : Tx) : (b.emit t).sess = b.sess := rfl
@[simp] theorem Blk.emit_tx (t : Tx) : (b.emit t).tx = b.tx ++ [t] := rfl
@[simp] theorem Blk.putFree_free : (b.putFree f).free = b.free + 1 := rfl

@[simp] theorem modWatch_sta (h : Watch → Watch) : (modWatch h b).sta = b.sta := rfl
@[simp] theorem modWatch_mode (h : Watch → Watch) : (modWatch h b).mode = b.mode := rfl
@[simp] theorem modWatch_prev (h : Watch → Watch) : (modWatch h b).prev = b.prev := rfl
@[simp] theorem modWatch_phase (h : Watch → Watch) : (modWatch h b).phase = b.phase := rfl
@[simp] theorem modWatch_role (h : Watch → Watch) : (modWatch h b).role = b.role := rfl
@[simp] theorem modWatch_twin (h : Watch → Watch) : (modWatch h b).twin = b.twin := rfl
@[simp] theorem modWatch_unlocked (h : Watch → Watch) : (modWatch h b).unlocked = b.unlocked := rfl
@[simp] theorem modWatch_lastStatus (h : Watch → Watch) : (modWatch h b).lastStatus = b.lastStatus := rfl
@[simp] theorem modWatch_tx (h : Watch → Watch) : (modWatch h b).tx = b.tx := rfl
@[simp] theorem modWatch_free (h : Watch → Watch) : (modWatch h b).free = b.free := rfl
@[simp] theorem modWatch_pwr (h : Watch → Watch) : (modWatch h b).pwr = b.pwr := rfl
@[simp] theorem modWatch_seq (h : Watch → Watch) : (modWatch h b).seq = b.seq := rfl
@[simp] theorem modWatch_therm (h : Watch → Watch) : (modWatch h b).therm = b.therm := rfl
@[simp] theorem modWatch_safe (h : Watch → Watch) : (modWatch h b).safe = b.safe := rfl
@[simp] theorem modWatch_psf (h : Watch → Watch) : (modWatch h b).psf = b.psf := rfl
@[simp] theorem modWatch_keep (h : Watch → Watch) : (modWatch h b).keep = b.keep := rfl
@[simp] theorem modWatch_tim (h : Watch → Watch) : (modWatch h b).tim = b.tim := rfl
@[simp] theorem modWatch_hvs (h : Watch → Watch) : (modWatch h b).hvs = b.hvs := rfl
@[simp] theorem modWatch_trip (h : Watch → Watch) : (modWatch h b).trip = b.trip := rfl
@[simp] theorem modWatch_chain (h : Watch → Watch) : (modWatch h b).chain = b.chain := rfl
@[simp] theorem modWatch_ledger (h : Watch → Watch) : (modWatch h b).ledger = b.ledger := rfl
@[simp] theorem modWatch_shuttle (h : Watch → Watch) : (modWatch h b).shuttle = b.shuttle := rfl
@[simp] theorem modWatch_tw (h : Watch → Watch) : (modWatch h b).tw = b.tw := rfl
@[simp] theorem modWatch_ports (h : Watch → Watch) : (modWatch h b).ports = b.ports := rfl
@[simp] theorem modWatch_rack (h : Watch → Watch) : (modWatch h b).rack = b.rack := rfl
@[simp] theorem modWatch_sess (h : Watch → Watch) : (modWatch h b).sess = b.sess := rfl
@[simp] theorem modWatch_watch (h : Watch → Watch) : (modWatch h b).watch = h b.watch := rfl
@[simp] theorem modWatch_get (h : Watch → Watch) : (modWatch h b).get g = b.get g := rfl

@[simp] theorem modPwr_sta (h : Pwr → Pwr) : (modPwr h b).sta = b.sta := rfl
@[simp] theorem modPwr_mode (h : Pwr → Pwr) : (modPwr h b).mode = b.mode := rfl
@[simp] theorem modPwr_prev (h : Pwr → Pwr) : (modPwr h b).prev = b.prev := rfl
@[simp] theorem modPwr_phase (h : Pwr → Pwr) : (modPwr h b).phase = b.phase := rfl
@[simp] theorem modPwr_role (h : Pwr → Pwr) : (modPwr h b).role = b.role := rfl
@[simp] theorem modPwr_twin (h : Pwr → Pwr) : (modPwr h b).twin = b.twin := rfl
@[simp] theorem modPwr_unlocked (h : Pwr → Pwr) : (modPwr h b).unlocked = b.unlocked := rfl
@[simp] theorem modPwr_lastStatus (h : Pwr → Pwr) : (modPwr h b).lastStatus = b.lastStatus := rfl
@[simp] theorem modPwr_tx (h : Pwr → Pwr) : (modPwr h b).tx = b.tx := rfl
@[simp] theorem modPwr_free (h : Pwr → Pwr) : (modPwr h b).free = b.free := rfl
@[simp] theorem modPwr_watch (h : Pwr → Pwr) : (modPwr h b).watch = b.watch := rfl
@[simp] theorem modPwr_seq (h : Pwr → Pwr) : (modPwr h b).seq = b.seq := rfl
@[simp] theorem modPwr_therm (h : Pwr → Pwr) : (modPwr h b).therm = b.therm := rfl
@[simp] theorem modPwr_safe (h : Pwr → Pwr) : (modPwr h b).safe = b.safe := rfl
@[simp] theorem modPwr_psf (h : Pwr → Pwr) : (modPwr h b).psf = b.psf := rfl
@[simp] theorem modPwr_keep (h : Pwr → Pwr) : (modPwr h b).keep = b.keep := rfl
@[simp] theorem modPwr_tim (h : Pwr → Pwr) : (modPwr h b).tim = b.tim := rfl
@[simp] theorem modPwr_hvs (h : Pwr → Pwr) : (modPwr h b).hvs = b.hvs := rfl
@[simp] theorem modPwr_trip (h : Pwr → Pwr) : (modPwr h b).trip = b.trip := rfl
@[simp] theorem modPwr_chain (h : Pwr → Pwr) : (modPwr h b).chain = b.chain := rfl
@[simp] theorem modPwr_ledger (h : Pwr → Pwr) : (modPwr h b).ledger = b.ledger := rfl
@[simp] theorem modPwr_shuttle (h : Pwr → Pwr) : (modPwr h b).shuttle = b.shuttle := rfl
@[simp] theorem modPwr_tw (h : Pwr → Pwr) : (modPwr h b).tw = b.tw := rfl
@[simp] theorem modPwr_ports (h : Pwr → Pwr) : (modPwr h b).ports = b.ports := rfl
@[simp] theorem modPwr_rack (h : Pwr → Pwr) : (modPwr h b).rack = b.rack := rfl
@[simp] theorem modPwr_sess (h : Pwr → Pwr) : (modPwr h b).sess = b.sess := rfl
@[simp] theorem modPwr_pwr (h : Pwr → Pwr) : (modPwr h b).pwr = h b.pwr := rfl
@[simp] theorem modPwr_get (h : Pwr → Pwr) : (modPwr h b).get g = b.get g := rfl

@[simp] theorem modSeq_sta (h : Seq → Seq) : (modSeq h b).sta = b.sta := rfl
@[simp] theorem modSeq_mode (h : Seq → Seq) : (modSeq h b).mode = b.mode := rfl
@[simp] theorem modSeq_prev (h : Seq → Seq) : (modSeq h b).prev = b.prev := rfl
@[simp] theorem modSeq_phase (h : Seq → Seq) : (modSeq h b).phase = b.phase := rfl
@[simp] theorem modSeq_role (h : Seq → Seq) : (modSeq h b).role = b.role := rfl
@[simp] theorem modSeq_twin (h : Seq → Seq) : (modSeq h b).twin = b.twin := rfl
@[simp] theorem modSeq_unlocked (h : Seq → Seq) : (modSeq h b).unlocked = b.unlocked := rfl
@[simp] theorem modSeq_lastStatus (h : Seq → Seq) : (modSeq h b).lastStatus = b.lastStatus := rfl
@[simp] theorem modSeq_tx (h : Seq → Seq) : (modSeq h b).tx = b.tx := rfl
@[simp] theorem modSeq_free (h : Seq → Seq) : (modSeq h b).free = b.free := rfl
@[simp] theorem modSeq_watch (h : Seq → Seq) : (modSeq h b).watch = b.watch := rfl
@[simp] theorem modSeq_pwr (h : Seq → Seq) : (modSeq h b).pwr = b.pwr := rfl
@[simp] theorem modSeq_therm (h : Seq → Seq) : (modSeq h b).therm = b.therm := rfl
@[simp] theorem modSeq_safe (h : Seq → Seq) : (modSeq h b).safe = b.safe := rfl
@[simp] theorem modSeq_psf (h : Seq → Seq) : (modSeq h b).psf = b.psf := rfl
@[simp] theorem modSeq_keep (h : Seq → Seq) : (modSeq h b).keep = b.keep := rfl
@[simp] theorem modSeq_tim (h : Seq → Seq) : (modSeq h b).tim = b.tim := rfl
@[simp] theorem modSeq_hvs (h : Seq → Seq) : (modSeq h b).hvs = b.hvs := rfl
@[simp] theorem modSeq_trip (h : Seq → Seq) : (modSeq h b).trip = b.trip := rfl
@[simp] theorem modSeq_chain (h : Seq → Seq) : (modSeq h b).chain = b.chain := rfl
@[simp] theorem modSeq_ledger (h : Seq → Seq) : (modSeq h b).ledger = b.ledger := rfl
@[simp] theorem modSeq_shuttle (h : Seq → Seq) : (modSeq h b).shuttle = b.shuttle := rfl
@[simp] theorem modSeq_tw (h : Seq → Seq) : (modSeq h b).tw = b.tw := rfl
@[simp] theorem modSeq_ports (h : Seq → Seq) : (modSeq h b).ports = b.ports := rfl
@[simp] theorem modSeq_rack (h : Seq → Seq) : (modSeq h b).rack = b.rack := rfl
@[simp] theorem modSeq_sess (h : Seq → Seq) : (modSeq h b).sess = b.sess := rfl
@[simp] theorem modSeq_seq (h : Seq → Seq) : (modSeq h b).seq = h b.seq := rfl
@[simp] theorem modSeq_get (h : Seq → Seq) : (modSeq h b).get g = b.get g := rfl

@[simp] theorem modSafe_sta (h : Safe → Safe) : (modSafe h b).sta = b.sta := rfl
@[simp] theorem modSafe_mode (h : Safe → Safe) : (modSafe h b).mode = b.mode := rfl
@[simp] theorem modSafe_prev (h : Safe → Safe) : (modSafe h b).prev = b.prev := rfl
@[simp] theorem modSafe_phase (h : Safe → Safe) : (modSafe h b).phase = b.phase := rfl
@[simp] theorem modSafe_role (h : Safe → Safe) : (modSafe h b).role = b.role := rfl
@[simp] theorem modSafe_twin (h : Safe → Safe) : (modSafe h b).twin = b.twin := rfl
@[simp] theorem modSafe_unlocked (h : Safe → Safe) : (modSafe h b).unlocked = b.unlocked := rfl
@[simp] theorem modSafe_lastStatus (h : Safe → Safe) : (modSafe h b).lastStatus = b.lastStatus := rfl
@[simp] theorem modSafe_tx (h : Safe → Safe) : (modSafe h b).tx = b.tx := rfl
@[simp] theorem modSafe_free (h : Safe → Safe) : (modSafe h b).free = b.free := rfl
@[simp] theorem modSafe_watch (h : Safe → Safe) : (modSafe h b).watch = b.watch := rfl
@[simp] theorem modSafe_pwr (h : Safe → Safe) : (modSafe h b).pwr = b.pwr := rfl
@[simp] theorem modSafe_seq (h : Safe → Safe) : (modSafe h b).seq = b.seq := rfl
@[simp] theorem modSafe_therm (h : Safe → Safe) : (modSafe h b).therm = b.therm := rfl
@[simp] theorem modSafe_psf (h : Safe → Safe) : (modSafe h b).psf = b.psf := rfl
@[simp] theorem modSafe_keep (h : Safe → Safe) : (modSafe h b).keep = b.keep := rfl
@[simp] theorem modSafe_tim (h : Safe → Safe) : (modSafe h b).tim = b.tim := rfl
@[simp] theorem modSafe_hvs (h : Safe → Safe) : (modSafe h b).hvs = b.hvs := rfl
@[simp] theorem modSafe_trip (h : Safe → Safe) : (modSafe h b).trip = b.trip := rfl
@[simp] theorem modSafe_chain (h : Safe → Safe) : (modSafe h b).chain = b.chain := rfl
@[simp] theorem modSafe_ledger (h : Safe → Safe) : (modSafe h b).ledger = b.ledger := rfl
@[simp] theorem modSafe_shuttle (h : Safe → Safe) : (modSafe h b).shuttle = b.shuttle := rfl
@[simp] theorem modSafe_tw (h : Safe → Safe) : (modSafe h b).tw = b.tw := rfl
@[simp] theorem modSafe_ports (h : Safe → Safe) : (modSafe h b).ports = b.ports := rfl
@[simp] theorem modSafe_rack (h : Safe → Safe) : (modSafe h b).rack = b.rack := rfl
@[simp] theorem modSafe_sess (h : Safe → Safe) : (modSafe h b).sess = b.sess := rfl
@[simp] theorem modSafe_safe (h : Safe → Safe) : (modSafe h b).safe = h b.safe := rfl
@[simp] theorem modSafe_get (h : Safe → Safe) : (modSafe h b).get g = b.get g := rfl

@[simp] theorem modPsf_sta (h : Psf → Psf) : (modPsf h b).sta = b.sta := rfl
@[simp] theorem modPsf_mode (h : Psf → Psf) : (modPsf h b).mode = b.mode := rfl
@[simp] theorem modPsf_prev (h : Psf → Psf) : (modPsf h b).prev = b.prev := rfl
@[simp] theorem modPsf_phase (h : Psf → Psf) : (modPsf h b).phase = b.phase := rfl
@[simp] theorem modPsf_role (h : Psf → Psf) : (modPsf h b).role = b.role := rfl
@[simp] theorem modPsf_twin (h : Psf → Psf) : (modPsf h b).twin = b.twin := rfl
@[simp] theorem modPsf_unlocked (h : Psf → Psf) : (modPsf h b).unlocked = b.unlocked := rfl
@[simp] theorem modPsf_lastStatus (h : Psf → Psf) : (modPsf h b).lastStatus = b.lastStatus := rfl
@[simp] theorem modPsf_tx (h : Psf → Psf) : (modPsf h b).tx = b.tx := rfl
@[simp] theorem modPsf_free (h : Psf → Psf) : (modPsf h b).free = b.free := rfl
@[simp] theorem modPsf_watch (h : Psf → Psf) : (modPsf h b).watch = b.watch := rfl
@[simp] theorem modPsf_pwr (h : Psf → Psf) : (modPsf h b).pwr = b.pwr := rfl
@[simp] theorem modPsf_seq (h : Psf → Psf) : (modPsf h b).seq = b.seq := rfl
@[simp] theorem modPsf_therm (h : Psf → Psf) : (modPsf h b).therm = b.therm := rfl
@[simp] theorem modPsf_safe (h : Psf → Psf) : (modPsf h b).safe = b.safe := rfl
@[simp] theorem modPsf_keep (h : Psf → Psf) : (modPsf h b).keep = b.keep := rfl
@[simp] theorem modPsf_tim (h : Psf → Psf) : (modPsf h b).tim = b.tim := rfl
@[simp] theorem modPsf_hvs (h : Psf → Psf) : (modPsf h b).hvs = b.hvs := rfl
@[simp] theorem modPsf_trip (h : Psf → Psf) : (modPsf h b).trip = b.trip := rfl
@[simp] theorem modPsf_chain (h : Psf → Psf) : (modPsf h b).chain = b.chain := rfl
@[simp] theorem modPsf_ledger (h : Psf → Psf) : (modPsf h b).ledger = b.ledger := rfl
@[simp] theorem modPsf_shuttle (h : Psf → Psf) : (modPsf h b).shuttle = b.shuttle := rfl
@[simp] theorem modPsf_tw (h : Psf → Psf) : (modPsf h b).tw = b.tw := rfl
@[simp] theorem modPsf_ports (h : Psf → Psf) : (modPsf h b).ports = b.ports := rfl
@[simp] theorem modPsf_rack (h : Psf → Psf) : (modPsf h b).rack = b.rack := rfl
@[simp] theorem modPsf_sess (h : Psf → Psf) : (modPsf h b).sess = b.sess := rfl
@[simp] theorem modPsf_psf (h : Psf → Psf) : (modPsf h b).psf = h b.psf := rfl
@[simp] theorem modPsf_get (h : Psf → Psf) : (modPsf h b).get g = b.get g := rfl

@[simp] theorem modKeep_sta (h : Keep → Keep) : (modKeep h b).sta = b.sta := rfl
@[simp] theorem modKeep_mode (h : Keep → Keep) : (modKeep h b).mode = b.mode := rfl
@[simp] theorem modKeep_prev (h : Keep → Keep) : (modKeep h b).prev = b.prev := rfl
@[simp] theorem modKeep_phase (h : Keep → Keep) : (modKeep h b).phase = b.phase := rfl
@[simp] theorem modKeep_role (h : Keep → Keep) : (modKeep h b).role = b.role := rfl
@[simp] theorem modKeep_twin (h : Keep → Keep) : (modKeep h b).twin = b.twin := rfl
@[simp] theorem modKeep_unlocked (h : Keep → Keep) : (modKeep h b).unlocked = b.unlocked := rfl
@[simp] theorem modKeep_lastStatus (h : Keep → Keep) : (modKeep h b).lastStatus = b.lastStatus := rfl
@[simp] theorem modKeep_tx (h : Keep → Keep) : (modKeep h b).tx = b.tx := rfl
@[simp] theorem modKeep_free (h : Keep → Keep) : (modKeep h b).free = b.free := rfl
@[simp] theorem modKeep_watch (h : Keep → Keep) : (modKeep h b).watch = b.watch := rfl
@[simp] theorem modKeep_pwr (h : Keep → Keep) : (modKeep h b).pwr = b.pwr := rfl
@[simp] theorem modKeep_seq (h : Keep → Keep) : (modKeep h b).seq = b.seq := rfl
@[simp] theorem modKeep_therm (h : Keep → Keep) : (modKeep h b).therm = b.therm := rfl
@[simp] theorem modKeep_safe (h : Keep → Keep) : (modKeep h b).safe = b.safe := rfl
@[simp] theorem modKeep_psf (h : Keep → Keep) : (modKeep h b).psf = b.psf := rfl
@[simp] theorem modKeep_tim (h : Keep → Keep) : (modKeep h b).tim = b.tim := rfl
@[simp] theorem modKeep_hvs (h : Keep → Keep) : (modKeep h b).hvs = b.hvs := rfl
@[simp] theorem modKeep_trip (h : Keep → Keep) : (modKeep h b).trip = b.trip := rfl
@[simp] theorem modKeep_chain (h : Keep → Keep) : (modKeep h b).chain = b.chain := rfl
@[simp] theorem modKeep_ledger (h : Keep → Keep) : (modKeep h b).ledger = b.ledger := rfl
@[simp] theorem modKeep_shuttle (h : Keep → Keep) : (modKeep h b).shuttle = b.shuttle := rfl
@[simp] theorem modKeep_tw (h : Keep → Keep) : (modKeep h b).tw = b.tw := rfl
@[simp] theorem modKeep_ports (h : Keep → Keep) : (modKeep h b).ports = b.ports := rfl
@[simp] theorem modKeep_rack (h : Keep → Keep) : (modKeep h b).rack = b.rack := rfl
@[simp] theorem modKeep_sess (h : Keep → Keep) : (modKeep h b).sess = b.sess := rfl
@[simp] theorem modKeep_keep (h : Keep → Keep) : (modKeep h b).keep = h b.keep := rfl
@[simp] theorem modKeep_get (h : Keep → Keep) : (modKeep h b).get g = b.get g := rfl

@[simp] theorem modTim_sta (h : Tim → Tim) : (modTim h b).sta = b.sta := rfl
@[simp] theorem modTim_mode (h : Tim → Tim) : (modTim h b).mode = b.mode := rfl
@[simp] theorem modTim_prev (h : Tim → Tim) : (modTim h b).prev = b.prev := rfl
@[simp] theorem modTim_phase (h : Tim → Tim) : (modTim h b).phase = b.phase := rfl
@[simp] theorem modTim_role (h : Tim → Tim) : (modTim h b).role = b.role := rfl
@[simp] theorem modTim_twin (h : Tim → Tim) : (modTim h b).twin = b.twin := rfl
@[simp] theorem modTim_unlocked (h : Tim → Tim) : (modTim h b).unlocked = b.unlocked := rfl
@[simp] theorem modTim_lastStatus (h : Tim → Tim) : (modTim h b).lastStatus = b.lastStatus := rfl
@[simp] theorem modTim_tx (h : Tim → Tim) : (modTim h b).tx = b.tx := rfl
@[simp] theorem modTim_free (h : Tim → Tim) : (modTim h b).free = b.free := rfl
@[simp] theorem modTim_watch (h : Tim → Tim) : (modTim h b).watch = b.watch := rfl
@[simp] theorem modTim_pwr (h : Tim → Tim) : (modTim h b).pwr = b.pwr := rfl
@[simp] theorem modTim_seq (h : Tim → Tim) : (modTim h b).seq = b.seq := rfl
@[simp] theorem modTim_therm (h : Tim → Tim) : (modTim h b).therm = b.therm := rfl
@[simp] theorem modTim_safe (h : Tim → Tim) : (modTim h b).safe = b.safe := rfl
@[simp] theorem modTim_psf (h : Tim → Tim) : (modTim h b).psf = b.psf := rfl
@[simp] theorem modTim_keep (h : Tim → Tim) : (modTim h b).keep = b.keep := rfl
@[simp] theorem modTim_hvs (h : Tim → Tim) : (modTim h b).hvs = b.hvs := rfl
@[simp] theorem modTim_trip (h : Tim → Tim) : (modTim h b).trip = b.trip := rfl
@[simp] theorem modTim_chain (h : Tim → Tim) : (modTim h b).chain = b.chain := rfl
@[simp] theorem modTim_ledger (h : Tim → Tim) : (modTim h b).ledger = b.ledger := rfl
@[simp] theorem modTim_shuttle (h : Tim → Tim) : (modTim h b).shuttle = b.shuttle := rfl
@[simp] theorem modTim_tw (h : Tim → Tim) : (modTim h b).tw = b.tw := rfl
@[simp] theorem modTim_ports (h : Tim → Tim) : (modTim h b).ports = b.ports := rfl
@[simp] theorem modTim_rack (h : Tim → Tim) : (modTim h b).rack = b.rack := rfl
@[simp] theorem modTim_sess (h : Tim → Tim) : (modTim h b).sess = b.sess := rfl
@[simp] theorem modTim_tim (h : Tim → Tim) : (modTim h b).tim = h b.tim := rfl
@[simp] theorem modTim_get (h : Tim → Tim) : (modTim h b).get g = b.get g := rfl

@[simp] theorem modHvs_sta (h : Hvs → Hvs) : (modHvs h b).sta = b.sta := rfl
@[simp] theorem modHvs_mode (h : Hvs → Hvs) : (modHvs h b).mode = b.mode := rfl
@[simp] theorem modHvs_prev (h : Hvs → Hvs) : (modHvs h b).prev = b.prev := rfl
@[simp] theorem modHvs_phase (h : Hvs → Hvs) : (modHvs h b).phase = b.phase := rfl
@[simp] theorem modHvs_role (h : Hvs → Hvs) : (modHvs h b).role = b.role := rfl
@[simp] theorem modHvs_twin (h : Hvs → Hvs) : (modHvs h b).twin = b.twin := rfl
@[simp] theorem modHvs_unlocked (h : Hvs → Hvs) : (modHvs h b).unlocked = b.unlocked := rfl
@[simp] theorem modHvs_lastStatus (h : Hvs → Hvs) : (modHvs h b).lastStatus = b.lastStatus := rfl
@[simp] theorem modHvs_tx (h : Hvs → Hvs) : (modHvs h b).tx = b.tx := rfl
@[simp] theorem modHvs_free (h : Hvs → Hvs) : (modHvs h b).free = b.free := rfl
@[simp] theorem modHvs_watch (h : Hvs → Hvs) : (modHvs h b).watch = b.watch := rfl
@[simp] theorem modHvs_pwr (h : Hvs → Hvs) : (modHvs h b).pwr = b.pwr := rfl
@[simp] theorem modHvs_seq (h : Hvs → Hvs) : (modHvs h b).seq = b.seq := rfl
@[simp] theorem modHvs_therm (h : Hvs → Hvs) : (modHvs h b).therm = b.therm := rfl
@[simp] theorem modHvs_safe (h : Hvs → Hvs) : (modHvs h b).safe = b.safe := rfl
@[simp] theorem modHvs_psf (h : Hvs → Hvs) : (modHvs h b).psf = b.psf := rfl
@[simp] theorem modHvs_keep (h : Hvs → Hvs) : (modHvs h b).keep = b.keep := rfl
@[simp] theorem modHvs_tim (h : Hvs → Hvs) : (modHvs h b).tim = b.tim := rfl
@[simp] theorem modHvs_trip (h : Hvs → Hvs) : (modHvs h b).trip = b.trip := rfl
@[simp] theorem modHvs_chain (h : Hvs → Hvs) : (modHvs h b).chain = b.chain := rfl
@[simp] theorem modHvs_ledger (h : Hvs → Hvs) : (modHvs h b).ledger = b.ledger := rfl
@[simp] theorem modHvs_shuttle (h : Hvs → Hvs) : (modHvs h b).shuttle = b.shuttle := rfl
@[simp] theorem modHvs_tw (h : Hvs → Hvs) : (modHvs h b).tw = b.tw := rfl
@[simp] theorem modHvs_ports (h : Hvs → Hvs) : (modHvs h b).ports = b.ports := rfl
@[simp] theorem modHvs_rack (h : Hvs → Hvs) : (modHvs h b).rack = b.rack := rfl
@[simp] theorem modHvs_sess (h : Hvs → Hvs) : (modHvs h b).sess = b.sess := rfl
@[simp] theorem modHvs_hvs (h : Hvs → Hvs) : (modHvs h b).hvs = h b.hvs := rfl
@[simp] theorem modHvs_get (h : Hvs → Hvs) : (modHvs h b).get g = b.get g := rfl

@[simp] theorem modTrip_sta (h : Trip → Trip) : (modTrip h b).sta = b.sta := rfl
@[simp] theorem modTrip_mode (h : Trip → Trip) : (modTrip h b).mode = b.mode := rfl
@[simp] theorem modTrip_prev (h : Trip → Trip) : (modTrip h b).prev = b.prev := rfl
@[simp] theorem modTrip_phase (h : Trip → Trip) : (modTrip h b).phase = b.phase := rfl
@[simp] theorem modTrip_role (h : Trip → Trip) : (modTrip h b).role = b.role := rfl
@[simp] theorem modTrip_twin (h : Trip → Trip) : (modTrip h b).twin = b.twin := rfl
@[simp] theorem modTrip_unlocked (h : Trip → Trip) : (modTrip h b).unlocked = b.unlocked := rfl
@[simp] theorem modTrip_lastStatus (h : Trip → Trip) : (modTrip h b).lastStatus = b.lastStatus := rfl
@[simp] theorem modTrip_tx (h : Trip → Trip) : (modTrip h b).tx = b.tx := rfl
@[simp] theorem modTrip_free (h : Trip → Trip) : (modTrip h b).free = b.free := rfl
@[simp] theorem modTrip_watch (h : Trip → Trip) : (modTrip h b).watch = b.watch := rfl
@[simp] theorem modTrip_pwr (h : Trip → Trip) : (modTrip h b).pwr = b.pwr := rfl
@[simp] theorem modTrip_seq (h : Trip → Trip) : (modTrip h b).seq = b.seq := rfl
@[simp] theorem modTrip_therm (h : Trip → Trip) : (modTrip h b).therm = b.therm := rfl
@[simp] theorem modTrip_safe (h : Trip → Trip) : (modTrip h b).safe = b.safe := rfl
@[simp] theorem modTrip_psf (h : Trip → Trip) : (modTrip h b).psf = b.psf := rfl
@[simp] theorem modTrip_keep (h : Trip → Trip) : (modTrip h b).keep = b.keep := rfl
@[simp] theorem modTrip_tim (h : Trip → Trip) : (modTrip h b).tim = b.tim := rfl
@[simp] theorem modTrip_hvs (h : Trip → Trip) : (modTrip h b).hvs = b.hvs := rfl
@[simp] theorem modTrip_chain (h : Trip → Trip) : (modTrip h b).chain = b.chain := rfl
@[simp] theorem modTrip_ledger (h : Trip → Trip) : (modTrip h b).ledger = b.ledger := rfl
@[simp] theorem modTrip_shuttle (h : Trip → Trip) : (modTrip h b).shuttle = b.shuttle := rfl
@[simp] theorem modTrip_tw (h : Trip → Trip) : (modTrip h b).tw = b.tw := rfl
@[simp] theorem modTrip_ports (h : Trip → Trip) : (modTrip h b).ports = b.ports := rfl
@[simp] theorem modTrip_rack (h : Trip → Trip) : (modTrip h b).rack = b.rack := rfl
@[simp] theorem modTrip_sess (h : Trip → Trip) : (modTrip h b).sess = b.sess := rfl
@[simp] theorem modTrip_trip (h : Trip → Trip) : (modTrip h b).trip = h b.trip := rfl
@[simp] theorem modTrip_get (h : Trip → Trip) : (modTrip h b).get g = b.get g := rfl

@[simp] theorem modChain_sta (h : Chain → Chain) : (modChain h b).sta = b.sta := rfl
@[simp] theorem modChain_mode (h : Chain → Chain) : (modChain h b).mode = b.mode := rfl
@[simp] theorem modChain_prev (h : Chain → Chain) : (modChain h b).prev = b.prev := rfl
@[simp] theorem modChain_phase (h : Chain → Chain) : (modChain h b).phase = b.phase := rfl
@[simp] theorem modChain_role (h : Chain → Chain) : (modChain h b).role = b.role := rfl
@[simp] theorem modChain_twin (h : Chain → Chain) : (modChain h b).twin = b.twin := rfl
@[simp] theorem modChain_unlocked (h : Chain → Chain) : (modChain h b).unlocked = b.unlocked := rfl
@[simp] theorem modChain_lastStatus (h : Chain → Chain) : (modChain h b).lastStatus = b.lastStatus := rfl
@[simp] theorem modChain_tx (h : Chain → Chain) : (modChain h b).tx = b.tx := rfl
@[simp] theorem modChain_free (h : Chain → Chain) : (modChain h b).free = b.free := rfl
@[simp] theorem modChain_watch (h : Chain → Chain) : (modChain h b).watch = b.watch := rfl
@[simp] theorem modChain_pwr (h : Chain → Chain) : (modChain h b).pwr = b.pwr := rfl
@[simp] theorem modChain_seq (h : Chain → Chain) : (modChain h b).seq = b.seq := rfl
@[simp] theorem modChain_therm (h : Chain → Chain) : (modChain h b).therm = b.therm := rfl
@[simp] theorem modChain_safe (h : Chain → Chain) : (modChain h b).safe = b.safe := rfl
@[simp] theorem modChain_psf (h : Chain → Chain) : (modChain h b).psf = b.psf := rfl
@[simp] theorem modChain_keep (h : Chain → Chain) : (modChain h b).keep = b.keep := rfl
@[simp] theorem modChain_tim (h : Chain → Chain) : (modChain h b).tim = b.tim := rfl
@[simp] theorem modChain_hvs (h : Chain → Chain) : (modChain h b).hvs = b.hvs := rfl
@[simp] theorem modChain_trip (h : Chain → Chain) : (modChain h b).trip = b.trip := rfl
@[simp] theorem modChain_ledger (h : Chain → Chain) : (modChain h b).ledger = b.ledger := rfl
@[simp] theorem modChain_shuttle (h : Chain → Chain) : (modChain h b).shuttle = b.shuttle := rfl
@[simp] theorem modChain_tw (h : Chain → Chain) : (modChain h b).tw = b.tw := rfl
@[simp] theorem modChain_ports (h : Chain → Chain) : (modChain h b).ports = b.ports := rfl
@[simp] theorem modChain_rack (h : Chain → Chain) : (modChain h b).rack = b.rack := rfl
@[simp] theorem modChain_sess (h : Chain → Chain) : (modChain h b).sess = b.sess := rfl
@[simp] theorem modChain_chain (h : Chain → Chain) : (modChain h b).chain = h b.chain := rfl
@[simp] theorem modChain_get (h : Chain → Chain) : (modChain h b).get g = b.get g := rfl

@[simp] theorem modLed_sta (h : Ledger → Ledger) : (modLed h b).sta = b.sta := rfl
@[simp] theorem modLed_mode (h : Ledger → Ledger) : (modLed h b).mode = b.mode := rfl
@[simp] theorem modLed_prev (h : Ledger → Ledger) : (modLed h b).prev = b.prev := rfl
@[simp] theorem modLed_phase (h : Ledger → Ledger) : (modLed h b).phase = b.phase := rfl
@[simp] theorem modLed_role (h : Ledger → Ledger) : (modLed h b).role = b.role := rfl
@[simp] theorem modLed_twin (h : Ledger → Ledger) : (modLed h b).twin = b.twin := rfl
@[simp] theorem modLed_unlocked (h : Ledger → Ledger) : (modLed h b).unlocked = b.unlocked := rfl
@[simp] theorem modLed_lastStatus (h : Ledger → Ledger) : (modLed h b).lastStatus = b.lastStatus := rfl
@[simp] theorem modLed_tx (h : Ledger → Ledger) : (modLed h b).tx = b.tx := rfl
@[simp] theorem modLed_free (h : Ledger → Ledger) : (modLed h b).free = b.free := rfl
@[simp] theorem modLed_watch (h : Ledger → Ledger) : (modLed h b).watch = b.watch := rfl
@[simp] theorem modLed_pwr (h : Ledger → Ledger) : (modLed h b).pwr = b.pwr := rfl
@[simp] theorem modLed_seq (h : Ledger → Ledger) : (modLed h b).seq = b.seq := rfl
@[simp] theorem modLed_therm (h : Ledger → Ledger) : (modLed h b).therm = b.therm := rfl
@[simp] theorem modLed_safe (h : Ledger → Ledger) : (modLed h b).safe = b.safe := rfl
@[simp] theorem modLed_psf (h : Ledger → Ledger) : (modLed h b).psf = b.psf := rfl
@[simp] theorem modLed_keep (h : Ledger → Ledger) : (modLed h b).keep = b.keep := rfl
@[simp] theorem modLed_tim (h : Ledger → Ledger) : (modLed h b).tim = b.tim := rfl
@[simp] theorem modLed_hvs (h : Ledger → Ledger) : (modLed h b).hvs = b.hvs := rfl
@[simp] theorem modLed_trip (h : Ledger → Ledger) : (modLed h b).trip = b.trip := rfl
@[simp] theorem modLed_chain (h : Ledger → Ledger) : (modLed h b).chain = b.chain := rfl
@[simp] theorem modLed_shuttle (h : Ledger → Ledger) : (modLed h b).shuttle = b.shuttle := rfl
@[simp] theorem modLed_tw (h : Ledger → Ledger) : (modLed h b).tw = b.tw := rfl
@[simp] theorem modLed_ports (h : Ledger → Ledger) : (modLed h b).ports = b.ports := rfl
@[simp] theorem modLed_rack (h : Ledger → Ledger) : (modLed h b).rack = b.rack := rfl
@[simp] theorem modLed_sess (h : Ledger → Ledger) : (modLed h b).sess = b.sess := rfl
@[simp] theorem modLed_ledger (h : Ledger → Ledger) : (modLed h b).ledger = h b.ledger := rfl
@[simp] theorem modLed_get (h : Ledger → Ledger) : (modLed h b).get g = b.get g := rfl

@[simp] theorem modShut_sta (h : Shuttle → Shuttle) : (modShut h b).sta = b.sta := rfl
@[simp] theorem modShut_mode (h : Shuttle → Shuttle) : (modShut h b).mode = b.mode := rfl
@[simp] theorem modShut_prev (h : Shuttle → Shuttle) : (modShut h b).prev = b.prev := rfl
@[simp] theorem modShut_phase (h : Shuttle → Shuttle) : (modShut h b).phase = b.phase := rfl
@[simp] theorem modShut_role (h : Shuttle → Shuttle) : (modShut h b).role = b.role := rfl
@[simp] theorem modShut_twin (h : Shuttle → Shuttle) : (modShut h b).twin = b.twin := rfl
@[simp] theorem modShut_unlocked (h : Shuttle → Shuttle) : (modShut h b).unlocked = b.unlocked := rfl
@[simp] theorem modShut_lastStatus (h : Shuttle → Shuttle) : (modShut h b).lastStatus = b.lastStatus := rfl
@[simp] theorem modShut_tx (h : Shuttle → Shuttle) : (modShut h b).tx = b.tx := rfl
@[simp] theorem modShut_free (h : Shuttle → Shuttle) : (modShut h b).free = b.free := rfl
@[simp] theorem modShut_watch (h : Shuttle → Shuttle) : (modShut h b).watch = b.watch := rfl
@[simp] theorem modShut_pwr (h : Shuttle → Shuttle) : (modShut h b).pwr = b.pwr := rfl
@[simp] theorem modShut_seq (h : Shuttle → Shuttle) : (modShut h b).seq = b.seq := rfl
@[simp] theorem modShut_therm (h : Shuttle → Shuttle) : (modShut h b).therm = b.therm := rfl
@[simp] theorem modShut_safe (h : Shuttle → Shuttle) : (modShut h b).safe = b.safe := rfl
@[simp] theorem modShut_psf (h : Shuttle → Shuttle) : (modShut h b).psf = b.psf := rfl
@[simp] theorem modShut_keep (h : Shuttle → Shuttle) : (modShut h b).keep = b.keep := rfl
@[simp] theorem modShut_tim (h : Shuttle → Shuttle) : (modShut h b).tim = b.tim := rfl
@[simp] theorem modShut_hvs (h : Shuttle → Shuttle) : (modShut h b).hvs = b.hvs := rfl
@[simp] theorem modShut_trip (h : Shuttle → Shuttle) : (modShut h b).trip = b.trip := rfl
@[simp] theorem modShut_chain (h : Shuttle → Shuttle) : (modShut h b).chain = b.chain := rfl
@[simp] theorem modShut_ledger (h : Shuttle → Shuttle) : (modShut h b).ledger = b.ledger := rfl
@[simp] theorem modShut_tw (h : Shuttle → Shuttle) : (modShut h b).tw = b.tw := rfl
@[simp] theorem modShut_ports (h : Shuttle → Shuttle) : (modShut h b).ports = b.ports := rfl
@[simp] theorem modShut_rack (h : Shuttle → Shuttle) : (modShut h b).rack = b.rack := rfl
@[simp] theorem modShut_sess (h : Shuttle → Shuttle) : (modShut h b).sess = b.sess := rfl
@[simp] theorem modShut_shuttle (h : Shuttle → Shuttle) : (modShut h b).shuttle = h b.shuttle := rfl
@[simp] theorem modShut_get (h : Shuttle → Shuttle) : (modShut h b).get g = b.get g := rfl

@[simp] theorem modTw_sta (h : Twin → Twin) : (modTw h b).sta = b.sta := rfl
@[simp] theorem modTw_mode (h : Twin → Twin) : (modTw h b).mode = b.mode := rfl
@[simp] theorem modTw_prev (h : Twin → Twin) : (modTw h b).prev = b.prev := rfl
@[simp] theorem modTw_phase (h : Twin → Twin) : (modTw h b).phase = b.phase := rfl
@[simp] theorem modTw_role (h : Twin → Twin) : (modTw h b).role = b.role := rfl
@[simp] theorem modTw_twin (h : Twin → Twin) : (modTw h b).twin = b.twin := rfl
@[simp] theorem modTw_unlocked (h : Twin → Twin) : (modTw h b).unlocked = b.unlocked := rfl
@[simp] theorem modTw_lastStatus (h : Twin → Twin) : (modTw h b).lastStatus = b.lastStatus := rfl
@[simp] theorem modTw_tx (h : Twin → Twin) : (modTw h b).tx = b.tx := rfl
@[simp] theorem modTw_free (h : Twin → Twin) : (modTw h b).free = b.free := rfl
@[simp] theorem modTw_watch (h : Twin → Twin) : (modTw h b).watch = b.watch := rfl
@[simp] theorem modTw_pwr (h : Twin → Twin) : (modTw h b).pwr = b.pwr := rfl
@[simp] theorem modTw_seq (h : Twin → Twin) : (modTw h b).seq = b.seq := rfl
@[simp] theorem modTw_therm (h : Twin → Twin) : (modTw h b).therm = b.therm := rfl
@[simp] theorem modTw_safe (h : Twin → Twin) : (modTw h b).safe = b.safe := rfl
@[simp] theorem modTw_psf (h : Twin → Twin) : (modTw h b).psf = b.psf := rfl
@[simp] theorem modTw_keep (h : Twin → Twin) : (modTw h b).keep = b.keep := rfl
@[simp] theorem modTw_tim (h : Twin → Twin) : (modTw h b).tim = b.tim := rfl
@[simp] theorem modTw_hvs (h : Twin → Twin) : (modTw h b).hvs = b.hvs := rfl
@[simp] theorem modTw_trip (h : Twin → Twin) : (modTw h b).trip = b.trip := rfl
@[simp] theorem modTw_chain (h : Twin → Twin) : (modTw h b).chain = b.chain := rfl
@[simp] theorem modTw_ledger (h : Twin → Twin) : (modTw h b).ledger = b.ledger := rfl
@[simp] theorem modTw_shuttle (h : Twin → Twin) : (modTw h b).shuttle = b.shuttle := rfl
@[simp] theorem modTw_ports (h : Twin → Twin) : (modTw h b).ports = b.ports := rfl
@[simp] theorem modTw_rack (h : Twin → Twin) : (modTw h b).rack = b.rack := rfl
@[simp] theorem modTw_sess (h : Twin → Twin) : (modTw h b).sess = b.sess := rfl
@[simp] theorem modTw_tw (h : Twin → Twin) : (modTw h b).tw = h b.tw := rfl
@[simp] theorem modTw_get (h : Twin → Twin) : (modTw h b).get g = b.get g := rfl

@[simp] theorem modRack_sta (h : Rack → Rack) : (modRack h b).sta = b.sta := rfl
@[simp] theorem modRack_mode (h : Rack → Rack) : (modRack h b).mode = b.mode := rfl
@[simp] theorem modRack_prev (h : Rack → Rack) : (modRack h b).prev = b.prev := rfl
@[simp] theorem modRack_phase (h : Rack → Rack) : (modRack h b).phase = b.phase := rfl
@[simp] theorem modRack_role (h : Rack → Rack) : (modRack h b).role = b.role := rfl
@[simp] theorem modRack_twin (h : Rack → Rack) : (modRack h b).twin = b.twin := rfl
@[simp] theorem modRack_unlocked (h : Rack → Rack) : (modRack h b).unlocked = b.unlocked := rfl
@[simp] theorem modRack_lastStatus (h : Rack → Rack) : (modRack h b).lastStatus = b.lastStatus := rfl
@[simp] theorem modRack_tx (h : Rack → Rack) : (modRack h b).tx = b.tx := rfl
@[simp] theorem modRack_free (h : Rack → Rack) : (modRack h b).free = b.free := rfl
@[simp] theorem modRack_watch (h : Rack → Rack) : (modRack h b).watch = b.watch := rfl
@[simp] theorem modRack_pwr (h : Rack → Rack) : (modRack h b).pwr = b.pwr := rfl
@[simp] theorem modRack_seq (h : Rack → Rack) : (modRack h b).seq = b.seq := rfl
@[simp] theorem modRack_therm (h : Rack → Rack) : (modRack h b).therm = b.therm := rfl
@[simp] theorem modRack_safe (h : Rack → Rack) : (modRack h b).safe = b.safe := rfl
@[simp] theorem modRack_psf (h : Rack → Rack) : (modRack h b).psf = b.psf := rfl
@[simp] theorem modRack_keep (h : Rack → Rack) : (modRack h b).keep = b.keep := rfl
@[simp] theorem modRack_tim (h : Rack → Rack) : (modRack h b).tim = b.tim := rfl
@[simp] theorem modRack_hvs (h : Rack → Rack) : (modRack h b).hvs = b.hvs := rfl
@[simp] theorem modRack_trip (h : Rack → Rack) : (modRack h b).trip = b.trip := rfl
@[simp] theorem modRack_chain (h : Rack → Rack) : (modRack h b).chain = b.chain := rfl
@[simp] theorem modRack_ledger (h : Rack → Rack) : (modRack h b).ledger = b.ledger := rfl
@[simp] theorem modRack_shuttle (h : Rack → Rack) : (modRack h b).shuttle = b.shuttle := rfl
@[simp] theorem modRack_tw (h : Rack → Rack) : (modRack h b).tw = b.tw := rfl
@[simp] theorem modRack_ports (h : Rack → Rack) : (modRack h b).ports = b.ports := rfl
@[simp] theorem modRack_sess (h : Rack → Rack) : (modRack h b).sess = b.sess := rfl
@[simp] theorem modRack_rack (h : Rack → Rack) : (modRack h b).rack = h b.rack := rfl
@[simp] theorem modRack_get (h : Rack → Rack) : (modRack h b).get g = b.get g := rfl

@[simp] theorem finish_sta (st : Status) : (finish st b).sta = b.sta := rfl
@[simp] theorem finish_mode (st : Status) : (finish st b).mode = b.mode := rfl
@[simp] theorem finish_prev (st : Status) : (finish st b).prev = b.prev := rfl
@[simp] theorem finish_phase (st : Status) : (finish st b).phase = b.phase := rfl
@[simp] theorem finish_role (st : Status) : (finish st b).role = b.role := rfl
@[simp] theorem finish_twin (st : Status) : (finish st b).twin = b.twin := rfl
@[simp] theorem finish_unlocked (st : Status) : (finish st b).unlocked = b.unlocked := rfl
@[simp] theorem finish_tx (st : Status) : (finish st b).tx = b.tx := rfl
@[simp] theorem finish_free (st : Status) : (finish st b).free = b.free := rfl
@[simp] theorem finish_watch (st : Status) : (finish st b).watch = b.watch := rfl
@[simp] theorem finish_pwr (st : Status) : (finish st b).pwr = b.pwr := rfl
@[simp] theorem finish_seq (st : Status) : (finish st b).seq = b.seq := rfl
@[simp] theorem finish_therm (st : Status) : (finish st b).therm = b.therm := rfl
@[simp] theorem finish_safe (st : Status) : (finish st b).safe = b.safe := rfl
@[simp] theorem finish_psf (st : Status) : (finish st b).psf = b.psf := rfl
@[simp] theorem finish_keep (st : Status) : (finish st b).keep = b.keep := rfl
@[simp] theorem finish_tim (st : Status) : (finish st b).tim = b.tim := rfl
@[simp] theorem finish_hvs (st : Status) : (finish st b).hvs = b.hvs := rfl
@[simp] theorem finish_trip (st : Status) : (finish st b).trip = b.trip := rfl
@[simp] theorem finish_chain (st : Status) : (finish st b).chain = b.chain := rfl
@[simp] theorem finish_ledger (st : Status) : (finish st b).ledger = b.ledger := rfl
@[simp] theorem finish_shuttle (st : Status) : (finish st b).shuttle = b.shuttle := rfl
@[simp] theorem finish_tw (st : Status) : (finish st b).tw = b.tw := rfl
@[simp] theorem finish_ports (st : Status) : (finish st b).ports = b.ports := rfl
@[simp] theorem finish_rack (st : Status) : (finish st b).rack = b.rack := rfl
@[simp] theorem finish_sess (st : Status) : (finish st b).sess = b.sess := rfl
@[simp] theorem finish_lastStatus (st : Status) : (finish st b).lastStatus = st := rfl
@[simp] theorem finish_get (st : Status) : (finish st b).get g = b.get g := rfl

end Sys2Proof.Machine
end

