-- ==== Sys2Proof/Laws/Ops.lean ====
section
/-! SUPPORT. What the wrappers of every command's meaning do: time, and the state an engine's operation gives. -/

namespace Sys2Proof.Machine

variable (s : State) (n dt : Nat)

@[simp] theorem State.elapse_par : (s.elapse n).par = s.par := by unfold State.elapse; split <;> rfl
@[simp] theorem State.elapse_blk : (s.elapse n).blk = s.blk := by unfold State.elapse; split <;> rfl
@[simp] theorem State.elapse_pending : (s.elapse n).pending = s.pending := by unfold State.elapse; split <;> rfl

/-- Outside OFF the clock advances by the time that passes. -/
theorem State.clkAfter_on (h : s.blk.phase ≠ .off) :
    s.clkAfter n = s.clk.advance (effAddend s.par s.blk 0) (effAddend s.par s.blk 1) (effAddend s.par s.blk 2) n := by
  simp [State.clkAfter, h]

/-- In OFF only the count of VIN absence goes on. -/
theorem State.clkAfter_off (h : s.blk.phase = .off) : s.clkAfter n = { s.clk with away := s.clk.away + n } := by
  simp [State.clkAfter, h]

@[simp] theorem State.elapse_zero : s.elapse 0 = s := rfl

theorem State.elapse_clk (h : n ≠ 0) : (s.elapse n).clk = s.clkAfter n := by simp [State.elapse, h]

/-- A new cycle starts with the clock and the blocks as they stand. -/
theorem State.elapse_start (h : n ≠ 0) : (s.elapse n).start = (s.clkAfter n, s.blk) := by simp [State.elapse, h]

/-- Outside OFF the present time moves on by the time that passes. -/
theorem State.elapse_now (h : s.blk.phase ≠ .off) : (s.elapse n).clk.now = s.clk.now + n := by
  by_cases hn : n = 0
  · simp [hn]
  · rw [s.elapse_clk n hn, s.clkAfter_on n h, Clock.advance]

/-- In OFF the bases stand still and only the count of VIN absence goes on. -/
theorem State.elapse_off (h : s.blk.phase = .off) : (s.elapse n).clk = { s.clk with away := s.clk.away + n } := by
  by_cases hn : n = 0
  · simp [hn]
  · rw [s.elapse_clk n hn, s.clkAfter_off n h]

theorem State.elapse_now_le : s.clk.now ≤ (s.elapse n).clk.now := by
  by_cases h : s.blk.phase = .off
  · simp [s.elapse_off n h]
  · simp [s.elapse_now n h]

@[simp] theorem State.begin_par : (s.begin dt).par = s.par := s.elapse_par dt
@[simp] theorem State.begin_pending : (s.begin dt).pending = s.pending := s.elapse_pending dt
@[simp] theorem State.begin_clk : (s.begin dt).clk = (s.elapse dt).clk := rfl
theorem State.begin_blk : (s.begin dt).blk = { s.blk with tx := [], lastStatus := .ok } := by
  simp [State.begin]
@[simp] theorem State.begin_get (f : Fld) : (s.begin dt).blk.get f = s.blk.get f := by rw [s.begin_blk]; rfl
@[simp] theorem State.begin_tx : (s.begin dt).blk.tx = [] := rfl
@[simp] theorem State.begin_lastStatus : (s.begin dt).blk.lastStatus = .ok := rfl
@[simp] theorem State.begin_sta : (s.begin dt).blk.sta = s.blk.sta := by rw [s.begin_blk]
@[simp] theorem State.begin_mode : (s.begin dt).blk.mode = s.blk.mode := by rw [s.begin_blk]
@[simp] theorem State.begin_prev : (s.begin dt).blk.prev = s.blk.prev := by rw [s.begin_blk]
@[simp] theorem State.begin_phase : (s.begin dt).blk.phase = s.blk.phase := by rw [s.begin_blk]
@[simp] theorem State.begin_role : (s.begin dt).blk.role = s.blk.role := by rw [s.begin_blk]
@[simp] theorem State.begin_twin : (s.begin dt).blk.twin = s.blk.twin := by rw [s.begin_blk]
@[simp] theorem State.begin_unlocked : (s.begin dt).blk.unlocked = s.blk.unlocked := by rw [s.begin_blk]
@[simp] theorem State.begin_free : (s.begin dt).blk.free = s.blk.free := by rw [s.begin_blk]
@[simp] theorem State.begin_watch : (s.begin dt).blk.watch = s.blk.watch := by rw [s.begin_blk]
@[simp] theorem State.begin_pwr : (s.begin dt).blk.pwr = s.blk.pwr := by rw [s.begin_blk]
@[simp] theorem State.begin_seq : (s.begin dt).blk.seq = s.blk.seq := by rw [s.begin_blk]
@[simp] theorem State.begin_therm : (s.begin dt).blk.therm = s.blk.therm := by rw [s.begin_blk]
@[simp] theorem State.begin_safe : (s.begin dt).blk.safe = s.blk.safe := by rw [s.begin_blk]
@[simp] theorem State.begin_psf : (s.begin dt).blk.psf = s.blk.psf := by rw [s.begin_blk]
@[simp] theorem State.begin_keep : (s.begin dt).blk.keep = s.blk.keep := by rw [s.begin_blk]
@[simp] theorem State.begin_tim : (s.begin dt).blk.tim = s.blk.tim := by rw [s.begin_blk]
@[simp] theorem State.begin_hvs : (s.begin dt).blk.hvs = s.blk.hvs := by rw [s.begin_blk]
@[simp] theorem State.begin_trip : (s.begin dt).blk.trip = s.blk.trip := by rw [s.begin_blk]
@[simp] theorem State.begin_chain : (s.begin dt).blk.chain = s.blk.chain := by rw [s.begin_blk]
@[simp] theorem State.begin_ledger : (s.begin dt).blk.ledger = s.blk.ledger := by rw [s.begin_blk]
@[simp] theorem State.begin_shuttle : (s.begin dt).blk.shuttle = s.blk.shuttle := by rw [s.begin_blk]
@[simp] theorem State.begin_tw : (s.begin dt).blk.tw = s.blk.tw := by rw [s.begin_blk]
@[simp] theorem State.begin_ports : (s.begin dt).blk.ports = s.blk.ports := by rw [s.begin_blk]
@[simp] theorem State.begin_rack : (s.begin dt).blk.rack = s.blk.rack := by rw [s.begin_blk]
@[simp] theorem State.begin_sess : (s.begin dt).blk.sess = s.blk.sess := by rw [s.begin_blk]
@[simp] theorem State.begin_running : (s.begin dt).blk.running = s.blk.running := by simp [Blk.running]

@[simp] theorem State.begin_powered : (s.begin dt).blk.powered = s.blk.powered := by simp [Blk.powered]
@[simp] theorem State.begin_holdup : (s.begin dt).blk.holdup = s.blk.holdup := by simp [Blk.holdup]
@[simp] theorem State.begin_owner : (s.begin dt).blk.owner = s.blk.owner := by simp [Blk.owner]
@[simp] theorem State.begin_inExc (a o : Nat) : inExc (s.begin dt).blk a o = inExc s.blk a o := by simp [inExc]
@[simp] theorem State.begin_isActive (a : Nat) : isActive (s.begin dt).blk a = isActive s.blk a := by simp [isActive]
@[simp] theorem State.begin_activeAt (l : Nat) : activeAt (s.begin dt).blk l = activeAt s.blk l := by simp [activeAt]
@[simp] theorem State.begin_commanded (k : Nat) : commanded (s.begin dt).blk k = commanded s.blk k := by simp [commanded]
@[simp] theorem State.begin_fbClosed (k : Nat) : fbClosed (s.begin dt).blk k = fbClosed s.blk k := by simp [fbClosed]
@[simp] theorem State.begin_int (f : Fld) : (s.begin dt).blk.int f = s.blk.int f := by simp [Blk.int_eq]
@[simp] theorem State.begin_env_get (f : Fld) : (s.begin dt).env.get f = s.env.get f := by simp [Env.get, State.env]
@[simp] theorem State.begin_env_int (f : Fld) : (s.begin dt).env.int f = s.env.int f := by simp [Env.int, State.env]
@[simp] theorem State.env_now : s.env.now = s.clk.now := rfl

@[simp] theorem State.reach_par (d : Nat) : (s.reach d).par = s.par := s.elapse_par _
@[simp] theorem State.reach_blk (d : Nat) : (s.reach d).blk = s.blk := s.elapse_blk _
@[simp] theorem State.reach_pending (d : Nat) : (s.reach d).pending = s.pending := s.elapse_pending _

@[simp] theorem State.act_par (f : Env → Blk → Blk) : (s.act f).par = s.par := rfl
@[simp] theorem State.act_clk (f : Env → Blk → Blk) : (s.act f).clk = s.clk := rfl
@[simp] theorem State.act_pending (f : Env → Blk → Blk) : (s.act f).pending = s.pending := rfl
@[simp] theorem State.act_blk (f : Env → Blk → Blk) : (s.act f).blk = f s.env s.blk := rfl
@[simp] theorem State.env_par : s.env.par = s.par := rfl

/-- An engine's command, while scan access does not hold the engines. -/
theorem eng_next (f : Env → Blk → Blk) (h : s.blk.keep.scanned = false) :
    eng dt f s = .next ((s.begin dt).act f) := by
  simp [eng, cmd, h]

/-- Scan access has stopped the engines. -/
theorem eng_scanned (f : Env → Blk → Blk) (h : s.blk.keep.scanned = true) : eng dt f s = .next (s.begin dt) := by
  simp [eng, cmd, h]

theorem pin_next (f : Env → Blk → Blk) : pin dt f s = .next ((s.begin dt).act f) := rfl

theorem cmd_next (f : State → State) : cmd dt f s = .next (f (s.begin dt)) := rfl

/-- A timer that runs expires at its deadline. -/
theorem expire_armed (timer : Blk → Option Nat) (f : Env → Blk → Blk) (d : Nat) (h : s.blk.keep.scanned = false)
    (ht : timer (s.begin dt).blk = some d) : expire dt timer f s = .next (((s.begin dt).reach d).act f) := by
  simp [expire, cmd, h, ht]

/-- A timer that does not run does nothing. -/
theorem expire_idle (timer : Blk → Option Nat) (f : Env → Blk → Blk) (ht : timer (s.begin dt).blk = none) :
    expire dt timer f s = .next (s.begin dt) := by
  simp [expire, cmd, ht]

/-- Every command that engines or timers carry out leaves the settings alone. -/
theorem eng_par {f : Env → Blk → Blk} {t : State} (h : eng dt f s = .next t) : t.par = s.par := by
  simp only [eng, cmd, Host.Outcome.next.injEq] at h
  subst h; split <;> simp

theorem pin_par {f : Env → Blk → Blk} {t : State} (h : pin dt f s = .next t) : t.par = s.par := by
  simp only [pin, cmd, Host.Outcome.next.injEq] at h
  subst h; simp

theorem expire_par {timer : Blk → Option Nat} {f : Env → Blk → Blk} {t : State} (h : expire dt timer f s = .next t) :
    t.par = s.par := by
  simp only [expire, cmd, Host.Outcome.next.injEq] at h
  subst h; split
  · simp
  · split <;> simp

end Sys2Proof.Machine
end

