-- ==== Sys2Proof/Laws/Shared.lean ====
section
/-! SUPPORT. What operations that many meanings share can do: one lemma for each, cited in place of its definition. -/

namespace Sys2Proof.Machine

variable (e : Env) (b : Blk)

/-! ### The guards of host commands -/

/-- A command to the sequencer does nothing outside service, is refused by a STANDBY, and is `f` otherwise. -/
theorem seqHost_cases (f : Blk → Blk) :
    (b.running = false ∧ seqHost f b = b) ∨ (b.role = .standby ∧ seqHost f b = finish .denied b) ∨
      (b.running = true ∧ b.role ≠ .standby ∧ seqHost f b = f b) := by
  unfold seqHost; split
  · exact .inl ⟨by simp_all, rfl⟩
  · split
    · exact .inr (.inl ⟨‹_›, rfl⟩)
    · exact .inr (.inr ⟨by simp_all, ‹_›, rfl⟩)

/-- A host command runs where GRA is answered and the module is no STANDBY. -/
theorem hostCmd_run (f : Blk → Blk) (hr : b.running = true) (hs : b.role ≠ .standby) (hh : b.holdup = false) :
    hostCmd f b = f b := by
  simp [hostCmd, seqHost, hr, hs, hh]

/-- In HOLDUP a host command is refused. -/
theorem hostCmd_holdup (f : Blk → Blk) (hr : b.running = true) (hh : b.holdup = true) : hostCmd f b = finish .denied b := by
  simp [hostCmd, seqHost, hr, hh]

theorem localCmd_run (f : Blk → Blk) (hr : b.running = true) (hh : b.holdup = false) : localCmd f b = f b := by
  simp [localCmd, hr, hh]

/-! ### The insulation monitor's guard -/

/-- The guard changes nothing but whether the monitor injects, and its bad-cycle mark. -/
@[simp] theorem imdGuard_seq : (imdGuard e b).seq = b.seq := by unfold imdGuard; split <;> simp [imdStop]
@[simp] theorem imdGuard_role : (imdGuard e b).role = b.role := by unfold imdGuard; split <;> simp [imdStop]
@[simp] theorem imdGuard_watch : (imdGuard e b).watch = b.watch := by unfold imdGuard; split <;> simp [imdStop]
@[simp] theorem imdGuard_mode : (imdGuard e b).mode = b.mode := by unfold imdGuard; split <;> simp [imdStop]

theorem imdGuard_get_ne (f : Fld) (h : HVS_STA_IMD_INJECTING.key ≠ f.key) : (imdGuard e b).get f = b.get f := by
  unfold imdGuard; split
  · exact Blk.get_put_ne (b := b) 0 h
  · rfl

/-- A contactor's feedback is none of what the guard changes. -/
@[simp] theorem imdGuard_fbClosed (k : Nat) : fbClosed (imdGuard e b) k = fbClosed b k := by
  unfold fbClosed
  rw [imdGuard_get_ne e b _ (by unfold fbFld; split <;> decide)]

/-! ### Frames that leave -/

/-- A received PAUSE holds every frame. -/
theorem ethDrain_paused (p : Nat) (h : e.now < pauseEnd b p) : ethDrain e p b = b := by
  simp [ethDrain, ethDrainFrom, h]

/-- A frame for a port without a link is dropped. -/
theorem ethSend_down (p : Nat) (f : EthF) (h : b.get (PORT_LINK_UP p) ≠ 1) : ethSend e p f b = b := by
  simp [ethSend, h]

end Sys2Proof.Machine
end

