-- ==== Sys2Proof/Laws/Writes.lean ====
section
/-! SUPPORT. What the operations that write settings, boot the module or end in OFF keep, and the form of the settings they leave. -/

section
set_option maxRecDepth 4000

namespace Sys2Proof.Machine

/-- What every write, packet, boot and power-down keeps: the queue, the count of CORE periods, the state's soundness, and TB1 and
TB2, which it may only start from 0. -/
def Carried (s t : State) : Prop := t.pending = s.pending ∧ s.clk.now ≤ t.clk.now ∧ (s.Sound → t.Sound) ∧
  ((t.clk.tb1 = s.clk.tb1 ∧ t.clk.tb2 = s.clk.tb2) ∨ (t.clk.tb1 = 0 ∧ t.clk.tb2 = 0))

theorem Carried.refl (s) : Carried s s := ⟨rfl, Nat.le_refl _, id, .inl ⟨rfl, rfl⟩⟩

theorem Carried.trans {a b c} (h : Carried a b) (k : Carried b c) : Carried a c := by
  obtain ⟨h1,h2,h3,h4⟩ := h; obtain ⟨k1,k2,k3,k4⟩ := k
  refine ⟨k1.trans h1, by omega, k3 ∘ h3, ?_⟩
  rcases k4 with ⟨x,y⟩|k4 
  · rw [x,y]; exact h4
  · exact .inr k4

/-- What leaves settings, clock and queue alone carries all of that over. -/
theorem Carried.same {s t : State} (hq : t.pending = s.pending) (hc : t.clk = s.clk) (hp : t.par = s.par) : Carried s t := by
  refine ⟨hq, by rw [hc], fun h => ?_, .inl (by rw [hc]; exact ⟨rfl, rfl⟩)⟩
  unfold State.Sound at *; rwa [hc, hp]

theorem Carried.blk (s : State) (b : Blk) : Carried s { s with blk := b } := ⟨rfl, Nat.le_refl _, id, .inl ⟨rfl, rfl⟩⟩

theorem Carried.act (s : State) (f) : Carried s (s.act f) := Carried.blk s _

theorem RegMap.wf_foldl {α} (f : RegMap → α → RegMap) (hf : ∀ m x, m.wf → (f m x).wf) (l : List α) : ∀ (m : RegMap), m.wf → RegMap.wf (l.foldl f m) := by
  induction l with
  | nil => intro m h; exact h
  | cons a l ih => intro m h; exact ih _ (hf _ _ h)

theorem par_carried (s : State) (p : RegMap) (h : s.par.wf → p.wf) : Carried s { s with par := p } :=
  ⟨rfl, Nat.le_refl _, fun hs => ⟨hs.1, h hs.2⟩, .inl ⟨rfl, rfl⟩⟩

theorem parWords_wf (e b ws) (h : e.par.wf) : (parWords e b ws).wf := by
  unfold parWords
  apply RegMap.wf_foldl _ _ _ _ h
  intro m w hm; unfold parWord
  apply RegMap.wf_foldl _ _ _ _ hm
  intro m f hm; split
  · exact RegMap.wf_put _ _ hm
  · exact hm

theorem elapse_sound (n) (s : State) (h : s.Sound) : (s.elapse n).Sound := by
  refine ⟨?_, by simpa using h.2⟩
  by_cases hp : s.blk.phase = .off
  · rw [s.elapse_off n hp]; exact h.1
  · by_cases hn : n = 0
    · subst hn; exact h.1
    · rw [s.elapse_clk n hn, s.clkAfter_on n hp]
      simp only [Clock.Sound, Clock.advance]; omega

theorem tb0_carried (d) (s : State) : Carried s (tb0Step d s) := by
  refine ⟨rfl, Nat.le_refl _, fun h => ⟨?_, h.2⟩, .inl ⟨rfl, rfl⟩⟩
  have := h.1
  simp only [tb0Step, Clock.stepTb0, Clock.Sound] at *; omega

theorem applyWords_carried (who ws s) : Carried s (applyWords who ws s) := by
  unfold applyWords; dsimp only
  split
  · refine Carried.trans ?_ (tb0_carried _ _)
    refine Carried.trans (par_carried s (parWords s.env s.blk ws) (parWords_wf s.env s.blk ws)) (Carried.same rfl rfl rfl)
  · exact Carried.trans (par_carried s (parWords s.env s.blk ws) (parWords_wf s.env s.blk ws)) (Carried.same rfl rfl rfl)

theorem writeWords_carried (who ep ws s) : Carried s (writeWords who ep ws s).2 := by
  unfold writeWords; dsimp only; split
  · exact applyWords_carried _ _ _
  · exact Carried.blk _ _

theorem staging_carried (off ep vs s) : Carried s (stagingWords off ep vs s) := by
  unfold stagingWords; split
  · exact Carried.blk _ _
  · exact Carried.act _ _

theorem writeOne_carried (who ep a v s) : Carried s (writeOne who ep a v s) := by
  unfold writeOne; split
  · exact Carried.blk _ _
  · split
    · exact staging_carried _ _ _ _
    · exact writeWords_carried _ _ _ _

theorem hostWrite_carried (who a v s) : Carried s (hostWrite who a v s) := by
  unfold hostWrite; split
  · exact writeOne_carried _ _ _ _ _
  · exact Carried.refl _

theorem hostMasked_carried (who a v m s) : Carried s (hostMasked who a m v s) := by
  unfold hostMasked; split
  · split
    · exact Carried.blk _ _
    · exact writeWords_carried _ _ _ _
  · exact Carried.refl _

theorem hostField_carried (who f v s) : Carried s (hostField who f v s) := by
  unfold hostField; split
  · exact writeWords_carried _ _ _ _
  · exact Carried.refl _

theorem graWrite_carried (r s) : Carried s (graWrite r s).st := by
  unfold graWrite; split
  · exact Carried.blk _ _
  · dsimp only; split
    · split
      · exact staging_carried _ _ _ _
      · exact writeWords_carried _ _ _ _
    · exact writeWords_carried _ _ _ _

theorem graOperation_carried (r s) : Carried s (graOperation r s).st := by
  unfold graOperation; split
  · unfold graRead; split
    · exact Carried.refl _
    · exact Carried.blk _ _
  · unfold graSnap; split
    · exact Carried.blk _ _
    · exact Carried.act _ _
  · exact graWrite_carried _ _

theorem graOperation_par (r s) (h : r.op = 1 ∨ r.op = 4) : (graOperation r s).st.par = s.par := by
  unfold graOperation; split
  · unfold graRead; split <;> rfl
  · unfold graSnap; split <;> rfl
  · rename_i a b; rcases h with h | h
    · exact absurd h a
    · exact absurd h b

theorem graHandle_carried (port f key r s) : Carried s (graHandle port f key r s) := by
  unfold graHandle; dsimp only; split
  · split <;> exact Carried.act _ _
  · split
    · exact Carried.act _ _
    · split
      · exact Carried.act _ _
      · split
        · exact Carried.act _ _
        · unfold graAccept; dsimp only; split
          · exact Carried.act _ _
          · exact ((Carried.act _ _).trans (graOperation_carried _ _)).trans (Carried.act _ _)

theorem graFrame_carried (op port fr s) : Carried s (graFrame op port fr s) := by
  unfold graFrame; split
  · exact Carried.refl _
  · split
    · exact Carried.act _ _
    · split
      · exact Carried.act _ _
      · dsimp only; split
        · exact (Carried.act _ _).trans (Carried.act _ _)
        · split
          · refine Carried.trans (b := State.act (fun _ b => b.bump (PORT_RX_CLASS_LOW port)) s) (Carried.act _ _) ?_
            unfold graCheck; split
            · exact Carried.refl _
            · dsimp only; split
              · split <;> exact Carried.act _ _
              · split
                · exact Carried.act _ _
                · exact graHandle_carried _ _ _ _ _
          · exact Carried.refl _

theorem graFrame_par (op port fr s) (h : op = 1 ∨ op = 4 ∨ op = 5): (graFrame op port fr s).par = s.par := by
  unfold graFrame; split
  · rfl
  · split
    · rfl
    · split
      · rfl
      · dsimp only; split
        · rfl
        · split
          · unfold graCheck; split
            · rfl
            · dsimp only; split
              · split <;> rfl
              · split
                · rfl
                · unfold graHandle; dsimp only; split
                  · split <;> rfl
                  · split
                    · rfl
                    · split
                      · rfl
                      · split
                        · rfl
                        · unfold graAccept; dsimp only; split
                          · rfl
                          · rw [State.act_par, graOperation_par]
                            all_goals (try rfl)
                            all_goals omega
          · rfl

theorem ip_carried (sts rd f s) (h : ∀ s, Carried s (f s).1) : Carried s (ipAccess sts rd f s) := by
  unfold ipAccess; split
  · exact Carried.refl _
  · dsimp only; split
    · exact Carried.blk _ _
    · split
      · exact Carried.blk _ _
      · exact (h s).trans (Carried.blk _ _)

theorem takeBlock_wf (m p : RegMap) (h : p.wf) : (takeBlock m p).wf := by
  unfold takeBlock; apply RegMap.wf_foldl _ _ _ _ h; intro m x hm; exact RegMap.wf_put _ _ hm

theorem regIn_carried (h r s) : Carried s (regIn h r s) := by
  unfold regIn; split
  · exact Carried.refl _
  · dsimp only; split
    · exact Carried.blk _ _
    · have hp : ∀ (p : RegMap), p.wf → (RegMap.wf (match r.block with | some (m, _) => takeBlock m p | none => p)) := by
        intro p hp; split
        · exact takeBlock_wf _ _ hp
        · exact hp
      split
      · refine Carried.trans ?_ (tb0_carried _ _)
        refine Carried.trans (par_carried s _ ?_) (Carried.blk _ _)
        intro hw
        split
        · split
          · apply RegMap.wf_put
            apply RegMap.wf_foldl _ _ _ _ (hp _ hw); intro m x hm; exact RegMap.wf_put _ _ hm
          · apply RegMap.wf_foldl _ _ _ _ (hp _ hw); intro m x hm; exact RegMap.wf_put _ _ hm
        · apply RegMap.wf_foldl _ _ _ _ (hp _ hw); intro m x hm; exact RegMap.wf_put _ _ hm
      · refine Carried.trans (par_carried s _ ?_) (Carried.blk _ _)
        intro hw
        split
        · split
          · apply RegMap.wf_put
            apply RegMap.wf_foldl _ _ _ _ (hp _ hw); intro m x hm; exact RegMap.wf_put _ _ hm
          · apply RegMap.wf_foldl _ _ _ _ (hp _ hw); intro m x hm; exact RegMap.wf_put _ _ hm
        · apply RegMap.wf_foldl _ _ _ _ (hp _ hw); intro m x hm; exact RegMap.wf_put _ _ hm

theorem goOff_carried (s) : Carried s (goOff s) := by
  refine ⟨rfl, Nat.le_refl _, fun h => ⟨?_, RegMap.wf_nil⟩, .inr ⟨rfl, rfl⟩⟩
  have := h.1
  simp only [goOff, Clock.Sound] at *; omega

theorem cycle_carried (s) : Carried s (cyclePower s) := by
  refine ⟨rfl, Nat.le_refl _, fun h => ⟨?_, h.2⟩, .inl ⟨rfl, rfl⟩⟩
  have := h.1
  simp only [cyclePower, Clock.Sound] at *; omega

theorem loadEntries_wf (es) : (loadEntries es).wf := by
  unfold loadEntries; apply RegMap.wf_foldl _ _ _ _ RegMap.wf_nil
  intro m p hm
  apply RegMap.wf_foldl _ _ _ _ hm; intro m x hm; exact RegMap.wf_put _ _ hm

theorem judged_wf (e p b) (h : p.wf) : (blockJudged e p b).1.wf := by
  unfold blockJudged; split
  · exact RegMap.wf_nil
  · exact h

theorem install_wf (e p b) (h : p.wf) : (blockInstall e p b).1.wf := by
  unfold blockInstall; dsimp only; exact judged_wf e p b h

theorem canon_wf (m) : (RegMap.canon m).wf := by
  unfold RegMap.canon; apply RegMap.wf_foldl _ _ _ _ RegMap.wf_nil; intro m x hm; exact RegMap.wf_insert _ _ hm

theorem wf_ite {c : Prop} [Decidable c] {x y : RegMap × Blk} (hx : x.1.wf) (hy : y.1.wf) : (if c then x else y).1.wf := by
  split
  · exact hx
  · exact hy

theorem blockBoot_wf (e : Env) (b : Blk) : (blockBoot e b).1.wf := by
  unfold blockBoot; dsimp only
  split
  · exact wf_ite (install_wf _ _ _ (loadEntries_wf _)) RegMap.wf_nil
  · exact wf_ite (install_wf _ _ _ (loadEntries_wf _)) (wf_ite RegMap.wf_nil (wf_ite RegMap.wf_nil (judged_wf _ _ _ (canon_wf _))))

theorem boot_carried (c p s) : Carried s (bootFrom c p s) := by
  refine ⟨rfl, Nat.le_refl _, fun h => ⟨?_, ?_⟩, .inr ⟨rfl, rfl⟩⟩
  · have := h.1
    simp only [bootFrom, Clock.Sound] at *; omega
  · unfold bootFrom; exact blockBoot_wf _ _

theorem parResume_wf (b p : RegMap) (h : p.wf) : (parResume b p).wf := by
  unfold parResume; dsimp only
  apply RegMap.wf_foldl
  · intro m x hm; split
    · unfold RegMap.set; split
      · exact RegMap.wf_erase _ hm
      · exact RegMap.wf_insert _ _ hm
    · exact hm
  · exact RegMap.wf_filter _ h

theorem resume_carried (x s) : Carried s (resume x s) := by
  unfold resume; split
  · exact Carried.refl _
  · split
    · exact Carried.refl _
    · dsimp only
      exact (par_carried s _ (parResume_wf _ _)).trans (Carried.blk _ _)

end Sys2Proof.Machine

end
end

