-- ==== Sys2Proof/Tests/Build.lean ====
section
/-! SUPPORT. Small states for the tests and the witnesses: a module in service, and changes of it. -/

namespace Sys2Proof.Machine

/-- A module in service in a mode, its settings and registers at their reset values, some of its blocks changed. -/
def runIn (m : Mode) (f : Blk → Blk) : State :=
  { State.reset with blk := f { Blk.reset with phase := .run, mode := m } }

/-- A SOLO module in ISOLATED. -/
def run : State := runIn .isolated (fun b => b)

/-- A SOLO module in ISOLATED with some of its blocks changed. -/
def runWith (f : Blk → Blk) : State := runIn .isolated f

/-- A module that boots cold. -/
def booting (f : Blk → Blk) : State := { State.reset with blk := f { Blk.reset with phase := .coldBoot } }

/-- A state with settings. -/
def State.having (s : State) (l : List (Fld × Nat)) : State :=
  { s with par := l.foldl (fun (m : RegMap) p => m.put p.1 p.2) s.par }

/-- A module in service with a session key, its port A up. -/
def linked (f : Blk → Blk) : State :=
  runWith (fun b => f { b.put (PORT_LINK_UP 0) 1 with keep := { b.keep with keys := [(1, [7#8])] } })

/-- The text of a GRA request of session 0 (R107). -/
def reqText (op n addr seq tag : Nat) (payload : List Nat) : List Byte :=
  [1#8, 1#8, 0#8, 0#8] ++ leBytes 4 seq ++ leBytes 1 tag ++ leBytes 1 op ++ leBytes 2 n ++ leBytes 4 addr ++
    List.replicate 8 0#8 ++ payload.flatMap (leBytes 4)

/-- Its body, with the MAC of the key of `linked`. -/
def reqBody (op n addr seq tag : Nat) (payload : List Nat) : List Byte :=
  reqText op n addr seq tag payload ++ graMac [7#8] (reqText op n addr seq tag payload) 0

/-- A frame's body holds at least 46 bytes. -/
def reqPadded (op n addr seq tag : Nat) (payload : List Nat) : List Byte :=
  let m := reqBody op n addr seq tag payload
  m ++ List.replicate (46 - m.length) 0#8

/-- Its frame, to port A. -/
def reqFrame (op n addr seq tag : Nat) (payload : List Nat) : List Byte :=
  portMac run.blk 0 ++ [2#8, 0#8, 0#8, 0#8, 0#8, 9#8, 0x88#8, 0xB5#8] ++ reqPadded op n addr seq tag payload

/-- The frame as it is parsed, and the request in it. -/
def reqEth (op n addr seq tag : Nat) (payload : List Nat) : EthF :=
  ⟨portMac run.blk 0, [2#8, 0#8, 0#8, 0#8, 0#8, 9#8], none, 0x88B5, reqPadded op n addr seq tag payload⟩

def reqOf (op n addr seq tag : Nat) (payload : List Nat) : GraReq :=
  ⟨0, seq, tag, op, n, addr, 0, payload, reqText op n addr seq tag payload,
    graMac [7#8] (reqText op n addr seq tag payload) 0⟩

end Sys2Proof.Machine
end

