-- ==== Sys2Proof/Tests/Slice0.lean ====
section
/-! SUPPORT. Tests: an ill-formed command for every check of WellFormed, the spec's worked examples and tables, and the check values
of the published codes that the spec names. -/

section
set_option Elab.async false
open Sys2Proof Sys2Proof.Machine

/-! ### Ill-formed commands are refused -/

theorem test_wf_port : (Instr.graRead 0 2 []).wf = false := by decide
theorem test_wf_session : (Instr.graCacheExpiry 0 4).wf = false := by decide
theorem test_wf_page : (Instr.ctlSnap 0 0 17).wf = false := by decide
theorem test_wf_word : (Instr.registerWrite 0 0 0x3060 (2 ^ 32)).wf = false := by decide
theorem test_wf_words : (Instr.stagingWrite 0 0 [1, 2 ^ 32]).wf = false := by decide
theorem test_wf_half : (Instr.lqCancel 0 1 65536).wf = false := by decide
theorem test_wf_frame : (Instr.graWrite 0 0 (List.replicate 1519 0)).wf = false := by decide +kernel
theorem test_wf_coil : (Instr.latchSet 0 3 0).wf = false := by decide
theorem test_wf_position : (Instr.copyOverdue 0 false 40).wf = false := by decide
theorem test_wf_ring : (Instr.breakNotice 0 2 0 false).wf = false := by decide
theorem test_wf_ring_port : (Instr.portSilent 0 5).wf = false := by decide
theorem test_wf_ok : (Instr.registerWrite 0 3 0x3060 0x05000419).wf = true := by decide

/-! ### Codes -/

/-- The check value of CRC-16 with polynomial 0x1021 and start 0xFFFF (R195). -/
theorem test_crc16 : crc16 0xFFFF ((List.range 9).map (fun k => BitVec.ofNat 8 (0x31 + k))) = 0x29B1 := by decide +kernel

/-- The check value of CRC-32C (R332, R454). -/
theorem test_crc32c : crc32c ((List.range 9).map (fun k => BitVec.ofNat 8 (0x31 + k))) = 0xE3069283 := by decide +kernel

/-- The check value of CRC-8 with polynomial 0x07, the PEC of SMBus (R431). -/
theorem test_pec : pec ((List.range 9).map (fun k => BitVec.ofNat 8 (0x31 + k))) = 0xF4 := by decide +kernel

/-- HMAC-SHA-256 of RFC 4231, case 1: its first 16 bytes (R109). -/
theorem test_mac : mac16 (List.replicate 20 0x0b) [0x48, 0x69, 0x20, 0x54, 0x68, 0x65, 0x72, 0x65] =
    [0xb0, 0x34, 0x4c, 0x61, 0xd8, 0xdb, 0x38, 0x53, 0x5c, 0xa8, 0xaf, 0xce, 0xaf, 0x0b, 0xf1, 0x2b] := by decide +kernel

/-- RFC 6979, A.2.5, P-256 with SHA-256: the signature of the message "sample" is good (R11). -/
theorem test_ecdsa :
    ecdsaOk
      (leBytes 32 0x60FED4BA255A9D31C961EB74C6356D68C049B8923B61FA6CE669622E60F29FB6 ++
        leBytes 32 0x7903FE1008B8BC99A41AE9E95628BC64F2F1B20C2D7E9F5177A3C294D4462299)
      (beBytes 32 0xaf2bdbe1aa9b6ec1e2ade1d694f41fc71a831d0268e9891562113d8a62add1bf)
      (leBytes 32 0xEFD48B2AACB6A8FD1140DD9CD45E81D69D2C877B56AAF991C34D0EA84EAF3716 ++
        leBytes 32 0xF7CB1C942D657C41D436C7A1B6E29F65F3E900DBB9AFF4064DC4AB2F843ACDA8) = true := by decide +kernel

/-! ### Worked examples -/

/-- R93's example: 62.0 °C between +1,520 ppb at 55 °C and +2,000 ppb at 65 °C, and its trim. -/
theorem test_ref_ppb : refPpb ((run.blk.put (CLK_COMP_PT_PPB 10) 1520).put (CLK_COMP_PT_PPB 11) 2000) 620 = 1856 := by decide +kernel
theorem test_trim : trimOf 1856 = -156 := by decide

/-- The servo's example in Time Bases: the addend 0x0500_0419 with the trim of −156 moves TB0 by 0x0500_037D a period. -/
theorem test_effective_addend :
    effAddend (run.having [(TIME_TB0_ADDEND, 0x05000419)]).par (run.blk.putInt (TIME_TB_TRIM 0) (-156)) 0 = 0x0500037D := by
  decide +kernel

/-- R88 step 7: HOLD goes from 50 V to 90 V in 1.467 s, so the capacitance is 2,200 µF. -/
theorem test_capacitance :
    (capMeasureComplete { run.env with clk := { run.clk with now := 293400000 } } (runWith (fun b => { b with pwr := { b.pwr with capAt := some 0 } })).blk).get
      PWR_CAP_CAP_UF = 2200 := by decide +kernel

/-- R78 with 2,200 µF: commits end below 50 V. -/
theorem test_commit_volts : commitVolts run.env (run.blk.put PWR_CAP_CAP_UF 2200) = 5000 := by decide +kernel

/-- R162's example: at 1,902.10 V a cell sum of 1,900.80 V passes; 1,887.20 V does not (the record of Fault Handling). -/
theorem test_sum_passes : (sumCheck run.env true 190080 190210 run.blk).1.hvs.sumRun = 0 := by decide +kernel
theorem test_sum_fails : (sumCheck run.env true 188720 190210 run.blk).1.hvs.sumRun = 1 := by decide +kernel

/-- R161: at −800 A the window of the shunt–Hall check is 8 A. -/
theorem test_xchk_window : xchkWindow run.env (-800000) = 8000 := by decide +kernel

/-- The record of the worked example in Fault Handling and Event Recorder, word by word. -/
theorem test_record_words :
    Rec.words ⟨40117, 1000250000, 17, 0x33, 3, false, false, true, false, 0, 188720, 190210, 0, 1, 9, 0⟩ =
      [0x9CB5, 0x3B9E9A90, 0x11, 0x4333, 0x2E130, 0x2E702, 0x9010000, 0] := by decide +kernel

/-- R296's example: KP with COIL_R20 = 12.00 Ω at 15.30 Ω in band 2 is at 90.0 °C and runs at 38 % duty. -/
theorem test_coil_duty : holdDuty (run.having [(THERM_COIL_R20_KP, 1200)]).env 2 0 ⟨0, 0, 1530, 0, 25⟩ = 38 := by decide +kernel
theorem test_coil_temperature :
    (coilUpdate 0 500 (run.having [(THERM_COIL_R20_KP, 1200)]).env
      (((run.blk.put THERM_COIL_KP_DUTY 30).put PWR_SUPPLY_VCOIL 2550).put (cmdFld 0) 1)).get THERM_COIL_KP_TEMP = 900 := by
  decide +kernel

/-- The growth example of Charge Ledger: the bounds of 280 Ah after steps 2, 4 and 5, in 0.01 % of the capacity. -/
theorem test_bound_percent : [604800, 10564800, 20160000].map (fun b =>
    boundPct { LCell.fresh with cap := 1008000, b := b }) = [6, 104, 200] := by decide +kernel

/-! ### The block -/

/-- At reset no word spells a command: the table gives its rows no bits. -/
theorem test_no_words : decodeTableWord 32 0 = none := by decide

/-- R100, R101: the page must be unlocked before an RWL field is written, and LOCK takes 0x4C4B. -/
theorem test_lock_then_write :
    (match exec (.pageLock 1 0 4 0x4C4B) run with
      | .next t => match exec (.registerWrite 0 0 0x4098 7) t, exec (.registerWrite 0 0 0x4098 7) run with
        | .next u, .next v => decide (u.blk.lastStatus ≠ .locked ∧ v.blk.lastStatus = .locked)
        | _, _ => false
      | _ => false) = true := by decide +kernel

end
end

