-- ==== Sys2Proof/Tests/Witnesses.lean ====
section
/-! SUPPORT. For every statement with hypotheses, states and operands that meet them, one for each of its clauses. -/

section
set_option linter.unusedVariables false
set_option Elab.async false
open Sys2Proof Sys2Proof.Machine

theorem witness_IdleStepsLetTimePass :
    (∃ (s : State),
    s.pending = [] ∧ s.blk.phase ≠ .off) ∧
    (∃ (s : State),
    s.pending = [] ∧ s.blk.phase = .off) :=
  ⟨⟨run, by decide +kernel⟩,
   ⟨State.reset, by decide +kernel⟩⟩

theorem witness_CommandsLeaveTheQueue : ∃ (s t : State) (i : Instr),
    exec i s = .next t :=
  ⟨run, run.begin 0, .graCacheExpiry 0 0, by rfl⟩

theorem witness_TimeNeverGoesBack : ∃ (s t : State),
    step s = .next t :=
  ⟨run, run.idle, by rfl⟩

theorem witness_SettingsChangeOnlyByWritesBootsAndForwarding : ∃ (s t : State) (i : Instr),
    setsSettings i = false ∧ exec i s = .next t :=
  ⟨run, run.begin 0, .graCacheExpiry 0 0, by exact ⟨rfl, rfl⟩⟩

theorem witness_SettingsAndClocksStaySound : ∃ (s t : State),
    s.Sound ∧ step s = .next t :=
  ⟨run, run.idle, by exact ⟨⟨⟨by decide, by decide, by decide, by decide⟩, List.Pairwise.nil⟩, rfl⟩⟩

theorem witness_TimeBasesOneAndTwoAreNeverStepped : ∃ (s t : State) (i : Instr),
    s.clk.Sound ∧ exec i s = .next t :=
  ⟨run, run.begin 0, .graCacheExpiry 0 0, by exact ⟨⟨by decide, by decide, by decide, by decide⟩, rfl⟩⟩

theorem witness_AddendsAreWritableInEveryMode :
    (∃ (s : State) (dt who v : Nat),
    s.blk.running = true ∧ s.blk.holdup = false ∧ s.blk.role ≠ .standby ∧ 0x04FF5C29 ≤ v ∧ v ≤ 0x0500A3D7) ∧
    (∃ (s : State) (dt who v : Nat),
    s.blk.running = true ∧ s.blk.holdup = false ∧ s.blk.role ≠ .standby ∧ 0x04FF5C29 ≤ v ∧ v ≤ 0x0500A3D7) ∧
    (∃ (s : State) (dt who v : Nat),
    s.blk.running = true ∧ s.blk.holdup = false ∧ s.blk.role ≠ .standby ∧ (v < 0x04FF5C29 ∨ 0x0500A3D7 < v) ∧ v < 2 ^ 32) ∧
    (∃ (s : State) (dt who v : Nat),
    s.blk.running = true ∧ s.blk.holdup = false ∧ s.blk.role ≠ .standby ∧ (v < 0x04FF5C29 ∨ 0x0500A3D7 < v) ∧ v < 2 ^ 32) :=
  ⟨⟨runIn .connected (fun b => b), 0, 0, 0x04FF5C29, by decide +kernel⟩,
   ⟨runIn .tripped (fun b => b), 0, 3, 0x0500A3D7, by decide +kernel⟩,
   ⟨run, 0, 0, 0x04FF5C28, by decide +kernel⟩,
   ⟨run, 0, 0, 0x0500A3D8, by decide +kernel⟩⟩

theorem witness_WritesTakeEffectInFullOrNotAtAll :
    (∃ (s : State) (r : GraReq) (n : Nat) (st : Status),
    spanOk r.addr r.count = true ∧ (¬ (0x800000 ≤ r.addr ∧ r.addr < 0x900000)) ∧ s.judged r.session r.epoch (graWWords r) = some (n, st)) ∧
    (∃ (s : State) (r : GraReq) (n : Nat) (st : Status),
    spanOk r.addr r.count = true ∧ (¬ (0x800000 ≤ r.addr ∧ r.addr < 0x900000)) ∧ s.judged r.session r.epoch (graWWords r) = some (n, st)) ∧
    (∃ (s : State) (r : GraReq),
    spanOk r.addr r.count = true ∧ (¬ (0x800000 ≤ r.addr ∧ r.addr < 0x900000)) ∧ s.judged r.session r.epoch (graWWords r) = none) ∧
    (∃ (r : GraReq) (st : Status) (index : Nat) (payload : List Nat) (b : Blk),
    st ≠ .ok) :=
  ⟨⟨run, reqOf 2 2 0x3060 1 1 [0x05000001, 5], 1, .conflict, by decide +kernel⟩,
   ⟨run, reqOf 3 1 0x4094 1 1 [255, 7], 0, .locked, by decide +kernel⟩,
   ⟨run, reqOf 2 2 0x3060 1 1 [0x05000001, 0x05000002], by decide +kernel⟩,
   ⟨reqOf 2 1 0x4094 1 1 [0], .locked, 0, [], run.blk, by decide +kernel⟩⟩

theorem witness_RefusedRegisterWritesChangeNothing :
    (∃ (s : State) (dt who a v n : Nat) (st : Status),
    s.blk.running = true ∧ s.blk.holdup = false ∧ a % 4 = 0 ∧ showsRefusal a = false ∧ (s.begin dt).judged who 0 [WWord.whole a v] = some (n, st)) ∧
    (∃ (s : State) (dt who a v n : Nat) (st : Status),
    s.blk.running = true ∧ s.blk.holdup = false ∧ a % 4 = 0 ∧ showsRefusal a = false ∧ (s.begin dt).judged who 0 [WWord.whole a v] = some (n, st)) ∧
    (∃ (s : State) (dt who a v : Nat),
    s.blk.running = true ∧ s.blk.holdup = false ∧ (a % 4 ≠ 0 ∨ (0x11000 ≤ a ∧ a < 0x100000) ∨ (0x112000 ≤ a ∧ a < 0x140000) ∨ (0x142800 ≤ a ∧ a < 0x200000) ∨ (0x600000 ≤ a ∧ a < 0x800000) ∨ 0x900000 ≤ a)) ∧
    (∃ (s : State) (dt who a v : Nat),
    s.blk.running = true ∧ s.blk.holdup = false ∧ (a % 4 ≠ 0 ∨ (0x11000 ≤ a ∧ a < 0x100000) ∨ (0x112000 ≤ a ∧ a < 0x140000) ∨ (0x142800 ≤ a ∧ a < 0x200000) ∨ (0x600000 ≤ a ∧ a < 0x800000) ∨ 0x900000 ≤ a)) ∧
    (∃ (s : State) (dt who a v : Nat),
    s.blk.running = true ∧ s.blk.holdup = false ∧ (a % 4 ≠ 0 ∨ (0x11000 ≤ a ∧ a < 0x100000) ∨ (0x112000 ≤ a ∧ a < 0x140000) ∨ (0x142800 ≤ a ∧ a < 0x200000) ∨ (0x600000 ≤ a ∧ a < 0x800000) ∨ 0x900000 ≤ a)) ∧
    (∃ (s : State) (dt who a v : Nat),
    s.blk.running = true ∧ s.blk.holdup = false ∧ a % 4 = 0 ∧ a < 0x11000 ∧ showsRefusal a = false ∧ (wordFlds a).any (fun f => (WWord.whole a v).covers f && f.locked) = true ∧ s.blk.unlocked.contains (a / 0x1000) = false ∧ (s.begin dt).start.2.mode = s.blk.mode) ∧
    (∃ (s : State) (dt who a v : Nat),
    s.blk.running = true ∧ s.blk.holdup = false ∧ s.blk.role = .standby ∧ who < 4 ∧ a % 4 = 0 ∧ a < 0x11000 ∧ showsRefusal a = false ∧ standbyMay a = false ∧ (wordFlds a).any (fun f => (WWord.whole a v).covers f && f.locked) = false) ∧
    (∃ (s : State) (dt who a v : Nat),
    s.blk.running = true ∧ s.blk.holdup = false ∧ a % 4 = 0 ∧ a < 0x11000 ∧ showsRefusal a = false ∧ (wordFlds a).any (fun f => (WWord.whole a v).covers f && f.locked) = true ∧ s.blk.unlocked.contains (a / 0x1000) = true ∧ modeMay s.blk.mode a = false) ∧
    (∃ (s : State) (who a v : Nat),
    s.blk.running = true ∧ s.blk.holdup = false ∧ (a = 0x30C0 ∨ a = 0x30D0 ∨ a = 0x30E0) ∧ s.blk.mode = .connecting ∧ s.start.2.mode ≠ .connecting ∧ s.start.2.unlocked.contains 3 = true) :=
  ⟨⟨run, 0, 0, 0x11000, 1, 0, .badaddr, by decide +kernel⟩,
   ⟨run, 0, 0, 0x4098, 1, 0, .locked, by decide +kernel⟩,
   ⟨run, 0, 0, 0x41, 1, by decide +kernel⟩,
   ⟨run, 0, 0, 0x11000, 1, by decide +kernel⟩,
   ⟨run, 0, 0, 0x900000, 1, by decide +kernel⟩,
   ⟨run, 1, 0, 0x4098, 7, by decide +kernel⟩,
   ⟨runWith (fun b => { b with twin := true, role := .standby }), 0, 3, 0x3060, 83886080, by decide +kernel⟩,
   ⟨runIn .connected (fun b => { b with unlocked := [4] }), 0, 0, 0x4098, 7, by decide +kernel⟩,
   ⟨{ runIn .connecting (fun b => b) with start := (⟨0, 0, 0, 0, 0, 0⟩, { run.blk with unlocked := [3] }) }, 0, 0x30D0, 1, by decide +kernel⟩⟩

theorem witness_ReservedOffsetsReadZeroAndIgnoreWrites :
    (∃ (e : Env) (b : Blk) (who page k : Nat),
    page ≤ 16 ∧ k < 8) ∧
    (∃ (s : State) (dt who page k v : Nat),
    s.blk.running = true ∧ s.blk.holdup = false ∧ s.blk.role ≠ .standby ∧ page ≤ 16 ∧ k < 8) :=
  ⟨⟨run.env, run.blk, 0, 16, 7, by decide +kernel⟩,
   ⟨run, 0, 0, 16, 7, 0xFFFFFFFF, by decide +kernel⟩⟩

theorem witness_LocksGovernOnlyLockedFields :
    (∃ (e : Env) (m : Mode) (b : Blk),
    b.mode ≠ m) ∧
    (∃ (s : State) (dt who page : Nat),
    s.blk.running = true ∧ s.blk.holdup = false ∧ page ≤ 16) ∧
    (∃ (s : State) (dt who a v : Nat),
    s.blk.running = true ∧ s.blk.holdup = false ∧ a % 4 = 0 ∧ a < 0x11000 ∧ showsRefusal a = false ∧ (wordFlds a).any (fun f => (WWord.whole a v).covers f && f.locked) = false ∧ actionWord who (WWord.whole a v) = none) :=
  ⟨⟨run.env, .tripped, { run.blk with unlocked := [3] }, by decide +kernel⟩,
   ⟨runIn .connected (fun b => { b with twin := true, role := .standby }), 0, 2, 16, by decide +kernel⟩,
   ⟨run, 0, 0, 0xC060, 5, by decide +kernel⟩⟩

theorem witness_SnapsLatchTheirPageForTheirSession :
    (∃ (s : State) (dt who n off x : Nat),
    s.blk.running = true ∧ s.blk.holdup = false ∧ s.blk.role ≠ .standby ∧ who < 4 ∧ who < s.blk.sess.length ∧ n < 576 ∧ cellWide (s.begin dt).start.2 n off = some x ∧ x < 2 ^ 32) ∧
    (∃ (s : State) (dt who page a k : Nat),
    s.blk.running = true ∧ s.blk.holdup = false ∧ s.blk.role ≠ .standby ∧ page ≤ 16 ∧ page ≠ 7 ∧ (page ≠ 14 ∨ s.blk.twin = true) ∧ 0x100000 ≤ a) :=
  ⟨⟨runWith (fun b => { b with ledger := { b.ledger with cells := modAt b.ledger.cells 575 (fun c => { c with q := 5 }) } }), 1, 3, 575, 0x28, 5, by decide +kernel⟩,
   ⟨run, 0, 0, 16, 0x100028, 0, by decide +kernel⟩⟩

theorem witness_CancelsRemoveUnarmedEntriesOfTheirTag :
    (∃ (s : State) (dt p tag : Nat),
    s.blk.running = true ∧ s.blk.holdup = false ∧ s.blk.role ≠ .standby ∧ p < 2 ∧ tag ≠ 0xFFFF) ∧
    (∃ (s : State) (dt p ns frac k : Nat) (x : LqE),
    s.blk.running = true ∧ p < 2 ∧ wayEnd s.blk p ≤ (s.begin dt).clk.now ∧ firstEntry (s.begin dt).env (fun x => x.unit.isSome && decide (lqAhead (s.begin dt).env x ≤ 0)) (portQ s.blk p) = some (k, x) ∧ s.blk.get (PORT_LINK_UP p) = 1 ∧ x.imm = false ∧ x.telem = false ∧ -(lqAhead (s.begin dt).env x) ≤ 1000 * s.env.get TIME_LQ_CFG_SLIP) ∧
    (∃ (time : Nat) (bytes : List Byte) (q : PortQ) (x : LqE),
    x ∈ (placePsf time bytes q).lq ∧ x ∉ q.lq) ∧
    (∃ (s : State) (dt who p w : Nat),
    s.blk.running = true ∧ s.blk.holdup = false ∧ s.blk.role ≠ .standby ∧ (pushC w).tag = 0xFFFF) :=
  ⟨⟨runWith (fun b => { b with tim := { b.tim with qb := { b.tim.qb with lq := [⟨7, 0, 1000, [], false, false, false, false, none, false⟩] } } }), 0, 1, 7, by decide +kernel⟩,
   ⟨{ runWith (fun b => { b.put (PORT_LINK_UP 1) 1 with tim := { b.tim with qb := { b.tim.qb with lq := [⟨7, 0, 0, [1#8], false, false, false, false, some 4, false⟩] } } }) with clk := ⟨0, 0, 0, 0, 0, 0⟩ }, 0, 1, 0, 0, 0, ⟨7, 0, 0, [1#8], false, false, false, false, some 4, false⟩, by decide +kernel⟩,
   ⟨5, [], ⟨[], [], [], none⟩, ⟨0xFFFF, 1, 5, [], false, false, false, true, none, true⟩, by decide +kernel⟩,
   ⟨run, 0, 0, 0, 0xFFFF0040, by decide +kernel⟩⟩

theorem witness_TransmitTimestampsAreQueued :
    (∃ (s : State) (dt p ns frac k : Nat) (x : LqE),
    s.blk.running = true ∧ p < 2 ∧ wayEnd s.blk p ≤ (s.begin dt).clk.now ∧ launchNext (s.begin dt).env (s.begin dt).blk p = some (k, x) ∧ s.blk.get (PORT_LINK_UP p) = 1 ∧ x.telem = false ∧ x.tsReq = true ∧ (x.imm = true → portTxq s.blk p = []) ∧ (x.imm = true ∨ -(lqAhead (s.begin dt).env x) ≤ 1000 * s.env.get TIME_LQ_CFG_SLIP) ∧ (portQ s.blk p).txts.length ≤ 16) ∧
    (∃ (e : Env) (b : Blk) (who p : Nat) (r : Txts) (l : List Txts),
    p < 2 ∧ (portQ b p).txts = r :: l ∧ r.tag < 2 ^ 16 ∧ r.ns < 2 ^ 32 ∧ r.frac < 2 ^ 24) ∧
    (∃ (s : State) (dt p : Nat) (r : Txts) (l : List Txts),
    s.blk.running = true ∧ s.blk.holdup = false ∧ s.blk.role ≠ .standby ∧ (portQ s.blk p).txts = r :: l) :=
  ⟨⟨runWith (fun b => { b.put (PORT_LINK_UP 0) 1 with tim := { b.tim with qa := { b.tim.qa with lq := [⟨7, 0, 1000, [], true, true, false, false, none, false⟩], txts := List.replicate 16 ⟨0, 0, 0, 0⟩ } } }), 0, 0, 9, 1, 0, ⟨7, 0, 1000, [], true, true, false, false, none, false⟩, by decide +kernel⟩,
   ⟨run.env, (runWith (fun b => { b with tim := { b.tim with qa := { b.tim.qa with txts := [⟨7, 9, 1, 0⟩] } } })).blk, 0, 0, ⟨7, 9, 1, 0⟩, [], by decide +kernel⟩,
   ⟨runWith (fun b => { b with tim := { b.tim with qa := { b.tim.qa with txts := [⟨7, 9, 1, 0⟩] } } }), 0, 0, ⟨7, 9, 1, 0⟩, [], by decide +kernel⟩⟩

theorem witness_CommandTelegramsHoldTwoFlags :
    (∃ (e : Env) (b : Blk) (port : Nat) (m : List Byte),
    (4 ≤ leVal (slice m 20 2) ∨ leVal (slice m 22 2) ≠ 0)) ∧
    (∃ (e : Env) (b : Blk) (port : Nat) (m : List Byte),
    (4 ≤ leVal (slice m 20 2) ∨ leVal (slice m 22 2) ≠ 0)) ∧
    (∃ (e : Env) (b : Blk) (port flags : Nat) (m : List Byte),
    28 ≤ m.length ∧ m.take 4 = [2#8, 1#8, 2#8, 0#8] ∧ leVal (slice m 18 2) = 4 ∧ leVal (slice m 20 2) = flags ∧ flags < 4 ∧ leVal (slice m 22 2) = 0 ∧ e.get SAFE_PSF_CID_CMD ≠ 0 ∧ leVal (slice m 4 4) = e.get SAFE_PSF_CID_CMD ∧ leVal (slice m 24 4) = scrc (e.get SAFE_PSF_CID_CMD) (m.take 24) ∧ b.psf.rxSeq = none) :=
  ⟨⟨run.env, run.blk, 0, List.replicate 20 0#8 ++ [4#8, 0#8, 0#8, 0#8], by decide +kernel⟩,
   ⟨run.env, run.blk, 0, List.replicate 20 0#8 ++ [1#8, 0#8, 0#8, 1#8], by decide +kernel⟩,
   ⟨(run.having [(SAFE_PSF_CID_CMD, 7)]).env, run.blk, 0, 1, [2#8, 1#8, 2#8, 0#8] ++ leBytes 4 7 ++ leBytes 4 5 ++ leBytes 6 0 ++ leBytes 2 4 ++ leBytes 2 1 ++ leBytes 2 0 ++ leBytes 4 (scrc 7 ([2#8, 1#8, 2#8, 0#8] ++ leBytes 4 7 ++ leBytes 4 5 ++ leBytes 6 0 ++ leBytes 2 4 ++ leBytes 2 1 ++ leBytes 2 0)), by decide +kernel⟩⟩

theorem witness_CommitRequestsKeepTheirOrder : ∃ (j : NvJob) (b : Blk),
    nvOrdered b.pwr.queued ∧ nvOrdered b.pwr.waiting ∧ b.pwr.queued.length ≤ 8 :=
  ⟨.log, run.blk, by exact ⟨List.Pairwise.nil, List.Pairwise.nil, by decide⟩⟩

theorem witness_RaisesNeedTheirEnableAndAService :
    (∃ (e : Env) (b : Blk) (src code d0 d1 : Nat),
    b.phase = .run ∧ evtEnabled e src = false) ∧
    (∃ (e : Env) (b : Blk) (src code d0 d1 : Nat),
    b.phase = .coldBoot) ∧
    (∃ (e : Env) (b : Blk) (src code d0 d1 : Nat),
    b.phase = .off) :=
  ⟨⟨(run.having [(EVT_EN_BIT SRC_VIN_HIGH, 0)]).env, run.blk, SRC_VIN_HIGH, 0, 1, 2, by decide +kernel⟩,
   ⟨run.env, (booting (fun b => b)).blk, SRC_VIN_HIGH, 0, 0, 0, by decide +kernel⟩,
   ⟨run.env, State.reset.blk, SRC_VIN_HIGH, 0, 0, 0, by decide +kernel⟩⟩

theorem witness_ReactionsFollowTheMode :
    (∃ (e : Env) (b : Blk) (src : Nat),
    b.mode = .connected ∧ b.seq.dis = none ∧ b.seq.tctrl = none) ∧
    (∃ (e : Env) (b : Blk) (src : Nat),
    b.mode = .connected ∧ b.seq.dis = none) ∧
    (∃ (e : Env) (b : Blk) (src : Nat),
    b.mode = .connected ∧ b.seq.dis = none) ∧
    (∃ (e : Env) (b : Blk) (src lvl : Nat),
    b.mode = .connecting ∧ b.seq.dis = none ∧ (lvl = 3 ∨ lvl = 4)) ∧
    (∃ (e : Env) (b : Blk) (src lvl : Nat),
    (b.mode = .commissioning ∨ b.mode = .isolated ∨ b.mode = .maintenance) ∧ (lvl = 3 ∨ lvl = 4)) ∧
    (∃ (e : Env) (b : Blk) (src lvl : Nat),
    b.mode = .tripped ∧ (lvl = 3 ∨ lvl = 4)) :=
  ⟨⟨run.env, (runIn .connected (fun b => b)).blk, 5, by decide +kernel⟩,
   ⟨run.env, (runIn .connected (fun b => b)).blk, 5, by decide +kernel⟩,
   ⟨run.env, (runIn .connected (fun b => b)).blk, 5, by decide +kernel⟩,
   ⟨run.env, (runIn .connecting (fun b => b)).blk, 5, 3, by decide +kernel⟩,
   ⟨run.env, run.blk, 5, 4, by decide +kernel⟩,
   ⟨run.env, (runIn .tripped (fun b => b)).blk, 5, 4, by decide +kernel⟩⟩

theorem witness_SupplyInputsAct :
    (∃ (s : State) (dt vin held : Nat),
    s.blk.powered = true ∧ 7700 < vin ∧ 10 ≤ held) ∧
    (∃ (s : State) (dt v : Nat),
    s.blk.powered = true ∧ s.blk.get PWR_STA_VCOIL_OK = 1 ∧ v < 1800) ∧
    (∃ (s : State) (dt v : Nat),
    s.blk.powered = true ∧ 1800 ≤ v) ∧
    (∃ (s : State) (dt v held : Nat),
    s.blk.powered = true ∧ s.blk.holdup = false ∧ s.blk.pwr.chargeBy = none ∧ s.blk.pwr.holdSup = true ∧ v < 8500 ∧ 100 ≤ held) ∧
    (∃ (s : State) (dt : Nat),
    s.blk.powered = true ∧ s.blk.holdup = false) ∧
    (∃ (s : State) (dt vin : Nat),
    s.blk.phase = .run ∧ s.blk.keep.scanned = false ∧ s.blk.holdup = false ∧ vin < 3300) ∧
    (∃ (s : State) (dt vin : Nat),
    s.blk.powered = true ∧ s.blk.holdup = true ∧ 3500 ≤ vin) ∧
    (∃ (s : State) (dt : Nat),
    (s.blk.phase = .run ∨ s.blk.phase = .warmBoot) ∧ s.blk.keep.scanned = false) ∧
    (∃ (s : State) (dt : Nat),
    (s.blk.phase = .run ∨ s.blk.phase = .warmBoot) ∧ s.blk.keep.scanned = false) :=
  ⟨⟨run, 0, 8000, 10, by decide +kernel⟩,
   ⟨runWith (fun b => b.put PWR_STA_VCOIL_OK 1), 0, 1799, by decide +kernel⟩,
   ⟨run, 0, 1800, by decide +kernel⟩,
   ⟨runWith (fun b => { b with pwr := { b.pwr with holdSup := true } }), 0, 8000, 100, by decide +kernel⟩,
   ⟨run, 0, by decide +kernel⟩,
   ⟨run, 0, 3000, by decide +kernel⟩,
   ⟨runWith (fun b => b.put PWR_STA_PSTATE 1), 0, 3500, by decide +kernel⟩,
   ⟨run, 0, by decide +kernel⟩,
   ⟨runWith (fun b => { b with phase := .warmBoot }), 0, by decide +kernel⟩⟩

theorem witness_HoldUpEndsInOff :
    (∃ (s : State) (dt d : Nat),
    s.blk.running = true ∧ s.blk.pwr.rideBy = some d ∧ s.blk.mode = .isolated ∧ s.blk.seq.dis = none) ∧
    (∃ (s : State) (dt : Nat),
    s.blk.running = true ∧ s.blk.holdup = true ∧ s.blk.pwr.holdupAt + ms 100 ≤ s.clk.now) ∧
    (∃ (s : State) (dt : Nat),
    s.blk.powered = true ∧ s.blk.holdup = true) ∧
    (∃ (s : State) (dt : Nat),
    s.blk.phase = .off) ∧
    (∃ (s : State) (dt : Nat),
    s.blk.phase = .coldBoot) ∧
    (∃ (s : State) (dt t : Nat),
    s.blk.powered = true ∧ s.blk.holdup = false ∧ s.blk.pwr.capAt = some t) ∧
    (∃ (s : State) (dt : Nat),
    s.blk.running = true ∧ s.blk.holdup = false ∧ s.blk.role ≠ .standby ∧ s.blk.mode = .isolated ∧ s.blk.pwr.remeasure = false) :=
  ⟨⟨runWith (fun b => { b with pwr := { b.pwr with rideBy := some 5 } }), 0, 5, by decide +kernel⟩,
   ⟨{ runWith (fun b => b.put PWR_STA_PSTATE 1) with clk := ⟨ms 100, 0, 0, 0, 0, 0⟩ }, 0, by decide +kernel⟩,
   ⟨runWith (fun b => b.put PWR_STA_PSTATE 1), 0, by decide +kernel⟩,
   ⟨State.reset, 0, by decide +kernel⟩,
   ⟨booting (fun b => b), 0, by decide +kernel⟩,
   ⟨runWith (fun b => { b with pwr := { b.pwr with capAt := some 0 } }), 0, 0, by decide +kernel⟩,
   ⟨run, 0, by decide +kernel⟩⟩

theorem witness_CommitsAndBoots :
    (∃ (s : State) (dt : Nat) (pins : BootPins),
    s.blk.phase = .off ∧ s.blk.pwr.stopped = false ∧ 3500 ≤ pins.vin) ∧
    (∃ (s : State) (dt : Nat) (bad : List Nat),
    s.blk.phase = .coldBoot) ∧
    (∃ (s : State) (dt hold : Nat),
    s.blk.phase = .coldBoot ∧ 9500 ≤ hold) ∧
    (∃ (s : State) (dt hold : Nat) (j : NvJob) (q : List NvJob),
    s.blk.keep.scanned = false ∧ s.blk.powered = true ∧ (holdLost (s.begin dt).env 0 (holdRead hold (s.begin dt).env (s.begin dt).blk)).pwr.running = none ∧ (holdLost (s.begin dt).env 0 (holdRead hold (s.begin dt).env (s.begin dt).blk)).pwr.queued = j :: q ∧ commitVolts (s.begin dt).env (holdLost (s.begin dt).env 0 (holdRead hold (s.begin dt).env (s.begin dt).blk)) ≤ hold) ∧
    (∃ (s : State) (dt : Nat) (j : NvJob),
    s.blk.keep.scanned = false ∧ s.blk.powered = true ∧ s.blk.pwr.running = some j) ∧
    (∃ (s : State) (dt hold : Nat) (j : NvJob),
    s.blk.keep.scanned = false ∧ s.blk.powered = true ∧ (holdLost (s.begin dt).env 0 (holdRead hold (s.begin dt).env (s.begin dt).blk)).holdup = true ∧ (holdLost (s.begin dt).env 0 (holdRead hold (s.begin dt).env (s.begin dt).blk)).pwr.queued = [j] ∧ (holdLost (s.begin dt).env 0 (holdRead hold (s.begin dt).env (s.begin dt).blk)).pwr.waiting = [] ∧ jobFails j (holdLost (s.begin dt).env 0 (holdRead hold (s.begin dt).env (s.begin dt).blk)) = false ∧ hold < commitVolts (s.begin dt).env (holdLost (s.begin dt).env 0 (holdRead hold (s.begin dt).env (s.begin dt).blk))) ∧
    (∃ (s : State) (dt : Nat) (a : Activate),
    s.blk.running = true ∧ s.blk.keep.act = some a ∧ 1 ≤ a.stage ∧ activateReady s.blk = true ∧ warmCommitted s.blk = true ∧ s.blk.chain.flight = []) ∧
    (∃ (s : State) (dt : Nat) (sound : Bool) (a : Activate),
    s.blk.phase = .warmBoot ∧ s.blk.keep.act = some a) :=
  ⟨⟨State.reset, 0, ⟨0, 0, false, 4800, 2400, 9500, []⟩, by decide +kernel⟩,
   ⟨booting (fun b => b), 0, [], by decide +kernel⟩,
   ⟨booting (fun b => b), 0, 9500, by decide +kernel⟩,
   ⟨runWith (fun b => { b with pwr := { b.pwr with queued := [.log] } }), 0, 9500, .log, [], by decide +kernel⟩,
   ⟨runWith (fun b => { b with pwr := { b.pwr with running := some .retained } }), 0, .retained, by decide +kernel⟩,
   ⟨runWith (fun b => { b.put PWR_STA_PSTATE 1 with pwr := { b.pwr with queued := [.log] } }), 0, 1000, .log, by decide +kernel⟩,
   ⟨runWith (fun b => { b.put PWR_STA_HOLD_READY 1 with keep := { b.keep with act := some ⟨0, false, 0, false, 0, 1⟩ } }), 0, ⟨0, false, 0, false, 0, 1⟩, by decide +kernel⟩,
   ⟨runWith (fun b => { b with phase := .warmBoot, keep := { b.keep with act := some ⟨0, false, 0, false, 0, 2⟩ } }), 0, true, ⟨0, false, 0, false, 0, 2⟩, by decide +kernel⟩⟩

theorem witness_ClocksAndReference :
    (∃ (s : State) (dt : Nat),
    s.blk.powered = true ∧ s.blk.get CLK_STA_REF_OK = 1) ∧
    (∃ (s : State) (dt : Nat),
    s.blk.powered = true ∧ s.blk.get CLK_STA_PLLC_LOCK = 1) ∧
    (∃ (s : State) (dt : Nat),
    s.blk.powered = true ∧ s.blk.get CLK_STA_PLLN_LOCK = 1) ∧
    (∃ (s : State) (dt : Nat) (t : Int),
    s.blk.keep.scanned = false ∧ s.blk.powered = true ∧ -450 ≤ t ∧ t ≤ 1050) ∧
    (∃ (s : State) (dt : Nat) (t : Int),
    s.blk.keep.scanned = false ∧ s.blk.powered = true ∧ -450 ≤ t ∧ t ≤ 1050) ∧
    (∃ (s : State) (dt : Nat) (t : Int),
    s.blk.keep.scanned = false ∧ s.blk.powered = true ∧ (t < -450 ∨ 1050 < t)) ∧
    (∃ (s : State) (dt : Nat) (t : Int),
    s.blk.keep.scanned = false ∧ s.blk.powered = true ∧ (t < -450 ∨ 1050 < t)) ∧
    (∃ (s : State) (dt : Nat),
    s.blk.keep.scanned = false ∧ s.blk.powered = true) :=
  ⟨⟨runWith (fun b => b.put CLK_STA_REF_OK 1), 0, by decide +kernel⟩,
   ⟨runWith (fun b => b.put CLK_STA_PLLC_LOCK 1), 0, by decide +kernel⟩,
   ⟨runWith (fun b => b.put CLK_STA_PLLN_LOCK 1), 0, by decide +kernel⟩,
   ⟨run, 0, -450, by decide +kernel⟩,
   ⟨run, 0, 1050, by decide +kernel⟩,
   ⟨run, 0, -451, by decide +kernel⟩,
   ⟨run, 0, 1051, by decide +kernel⟩,
   ⟨run, 0, by decide +kernel⟩⟩

theorem witness_RequestsAreCheckedAndAnswered :
    (∃ (s : State) (dt port : Nat) (frame key : List Byte) (f : EthF) (r : GraReq),
    graServes port s.blk = true ∧ ethParse frame = some f ∧ f.etype = 0x88B5 ∧ f.dst = portMac s.blk port ∧ f.body.take 1 = [1#8] ∧ graParse f.body = some r ∧ r.op = 1 ∧ keyOf s.blk (r.session + 1) = some key ∧ r.mac = graMac key r.text (sessOf s.blk r.session).ctr ∧ (liveCache (s.begin dt).env (sessOf s.blk r.session)).find? (fun c => c.seq == r.seq && c.tag == r.tag) = none ∧ seqNew (sessOf s.blk r.session) r.seq = true ∧ (sessOf s.blk r.session).outs = [] ∧ (liveCache (s.begin dt).env (sessOf s.blk r.session)).length < 2048 ∧ spanOk r.addr r.count = true ∧ s.blk.keep.sec ≠ .service ∧ r.session < s.blk.sess.length ∧ pauseEnd s.blk port ≤ (s.begin dt).clk.now ∧ portTxq s.blk port = [] ∧ gapFor (s.begin dt).env s.blk port (5 * (wireEnd s.blk port - (s.begin dt).clk.now) + wireNs s.blk port 314) = true) ∧
    (∃ (s : State) (dt port : Nat) (frame key : List Byte) (f : EthF) (r : GraReq),
    graServes port s.blk = true ∧ ethParse frame = some f ∧ f.etype = 0x88B5 ∧ f.dst = portMac s.blk port ∧ f.body.take 1 = [1#8] ∧ graParse f.body = some r ∧ r.op = 2 ∧ keyOf s.blk (r.session + 1) = some key ∧ r.mac = graMac key r.text (sessOf s.blk r.session).ctr ∧ (liveCache (s.begin dt).env (sessOf s.blk r.session)).find? (fun c => c.seq == r.seq && c.tag == r.tag) = none ∧ seqNew (sessOf s.blk r.session) r.seq = true ∧ (sessOf s.blk r.session).outs = [] ∧ (liveCache (s.begin dt).env (sessOf s.blk r.session)).length < 2048) ∧
    (∃ (s : State) (dt port : Nat) (frame key : List Byte) (f : EthF) (r : GraReq),
    graServes port s.blk = true ∧ ethParse frame = some f ∧ f.etype = 0x88B5 ∧ f.dst = portMac s.blk port ∧ f.body.take 1 = [1#8] ∧ graParse f.body = some r ∧ r.op = 3 ∧ keyOf s.blk (r.session + 1) = some key ∧ r.mac = graMac key r.text (sessOf s.blk r.session).ctr ∧ (liveCache (s.begin dt).env (sessOf s.blk r.session)).find? (fun c => c.seq == r.seq && c.tag == r.tag) = none ∧ seqNew (sessOf s.blk r.session) r.seq = true ∧ (sessOf s.blk r.session).outs = [] ∧ (liveCache (s.begin dt).env (sessOf s.blk r.session)).length < 2048) ∧
    (∃ (s : State) (dt port page : Nat) (frame key : List Byte) (f : EthF) (r : GraReq),
    graServes port s.blk = true ∧ ethParse frame = some f ∧ f.etype = 0x88B5 ∧ f.dst = portMac s.blk port ∧ f.body.take 1 = [1#8] ∧ graParse f.body = some r ∧ r.op = 4 ∧ keyOf s.blk (r.session + 1) = some key ∧ r.mac = graMac key r.text (sessOf s.blk r.session).ctr ∧ (liveCache (s.begin dt).env (sessOf s.blk r.session)).find? (fun c => c.seq == r.seq && c.tag == r.tag) = none ∧ seqNew (sessOf s.blk r.session) r.seq = true ∧ (sessOf s.blk r.session).outs = [] ∧ (liveCache (s.begin dt).env (sessOf s.blk r.session)).length < 2048 ∧ page ≤ 16 ∧ r.addr = 0x1000 * page ∧ r.session < s.blk.sess.length) ∧
    (∃ (s : State) (dt port : Nat) (frame key : List Byte) (f : EthF) (r : GraReq),
    graServes port s.blk = true ∧ ethParse frame = some f ∧ f.etype = 0x88B5 ∧ f.dst = portMac s.blk port ∧ f.body.take 1 = [1#8] ∧ graParse f.body = some r ∧ r.op = 5 ∧ keyOf s.blk (r.session + 1) = some key ∧ r.mac = graMac key r.text 0) ∧
    (∃ (s : State) (dt port : Nat) (frame key : List Byte) (f : EthF) (r : GraReq),
    graServes port s.blk = true ∧ ethParse frame = some f ∧ f.etype = 0x88B5 ∧ f.dst = portMac s.blk port ∧ f.body.take 1 = [1#8] ∧ graParse f.body = some r ∧ r.op = 1 ∧ keyOf s.blk (r.session + 1) = some key ∧ r.mac ≠ graMac key r.text (sessOf s.blk r.session).ctr) ∧
    (∃ (s : State) (dt port : Nat) (frame key : List Byte) (f : EthF) (r : GraReq) (x : CacheE),
    graServes port s.blk = true ∧ ethParse frame = some f ∧ f.etype = 0x88B5 ∧ f.dst = portMac s.blk port ∧ f.body.take 1 = [1#8] ∧ graParse f.body = some r ∧ r.op = 2 ∧ keyOf s.blk (r.session + 1) = some key ∧ r.mac = graMac key r.text (sessOf s.blk r.session).ctr ∧ (liveCache (s.begin dt).env (sessOf s.blk r.session)).find? (fun c => c.seq == r.seq && c.tag == r.tag) = some x ∧ x.mac = r.mac) ∧
    (∃ (s : State) (dt n d : Nat),
    s.blk.keep.scanned = false ∧ cacheTimer n s.blk = some d) :=
  ⟨⟨linked (fun b => b), 0, 0, reqFrame 1 1 0xC060 5 9 [], [7#8], reqEth 1 1 0xC060 5 9 [], reqOf 1 1 0xC060 5 9 [], by decide +kernel⟩,
   ⟨linked (fun b => b), 0, 0, reqFrame 2 1 0xC060 5 9 [77], [7#8], reqEth 2 1 0xC060 5 9 [77], reqOf 2 1 0xC060 5 9 [77], by decide +kernel⟩,
   ⟨linked (fun b => b), 0, 0, reqFrame 3 1 0xC060 5 9 [255, 77], [7#8], reqEth 3 1 0xC060 5 9 [255, 77], reqOf 3 1 0xC060 5 9 [255, 77], by decide +kernel⟩,
   ⟨linked (fun b => b), 0, 0, 12, reqFrame 4 0 0xC000 5 9 [], [7#8], reqEth 4 0 0xC000 5 9 [], reqOf 4 0 0xC000 5 9 [], by decide +kernel⟩,
   ⟨linked (fun b => b), 0, 0, reqFrame 5 2 0 5 9 [1, 2], [7#8], reqEth 5 2 0 5 9 [1, 2], reqOf 5 2 0 5 9 [1, 2], by decide +kernel⟩,
   ⟨linked (fun b => { b with keep := { b.keep with keys := [(1, [8#8])] } }), 0, 0, reqFrame 1 1 0xC060 5 9 [], [8#8], reqEth 1 1 0xC060 5 9 [], reqOf 1 1 0xC060 5 9 [], by decide +kernel⟩,
   ⟨linked (fun b => { b with sess := modAt b.sess 0 (fun x => { x with cache := [⟨5, 9, (reqOf 2 1 0xC060 5 9 [77]).mac, [1#8], 100, 100, true⟩] }) }), 0, 0, reqFrame 2 1 0xC060 5 9 [77], [7#8], reqEth 2 1 0xC060 5 9 [77], reqOf 2 1 0xC060 5 9 [77], ⟨5, 9, (reqOf 2 1 0xC060 5 9 [77]).mac, [1#8], 100, 100, true⟩, by decide +kernel⟩,
   ⟨runWith (fun b => { b with sess := modAt b.sess 2 (fun x => { x with cache := [⟨5, 9, [], [1#8], 100, 100, true⟩] }) }), 0, 2, 100, by decide +kernel⟩⟩

theorem witness_InspectionPortAndStaging :
    (∃ (s : State) (dt a : Nat),
    s.blk.running = true ∧ (ipState s.blk = 1 ∨ ipState s.blk = 2) ∧ spanOk a 1 = true) ∧
    (∃ (s : State) (dt v : Nat),
    s.blk.running = true ∧ ipState s.blk = 2 ∧ v < 2 ^ 32) ∧
    (∃ (s : State) (dt a v : Nat),
    s.blk.running = true ∧ ipState s.blk = 1) ∧
    (∃ (s : State) (dt n : Nat),
    s.blk.running = true ∧ (ipState s.blk = 1 ∨ ipState s.blk = 2)) ∧
    (∃ (s : State) (dt : Nat),
    s.blk.running = true ∧ ipState s.blk = 2 ∧ s.blk.mode = .commissioning) ∧
    (∃ (s : State) (dt : Nat),
    s.blk.mode ≠ .commissioning) ∧
    (∃ (s : State) (dt : Nat),
    s.blk.powered = true) ∧
    (∃ (s : State) (dt : Nat),
    s.blk.powered = true ∧ s.blk.keep.sec = .service) ∧
    (∃ (s : State) (dt off : Nat) (ws : List Nat) (x : Stream),
    s.blk.running = true ∧ s.blk.holdup = false ∧ s.blk.keep.stream = some x ∧ off = s.blk.get KEEP_STREAM_POS % 0x100000 ∧ x.pend.length + 4 * ws.length ≤ bankSize) ∧
    (∃ (s : State) (dt off : Nat) (ws : List Nat),
    s.blk.running = true ∧ s.blk.holdup = false ∧ s.blk.keep.stream = none) :=
  ⟨⟨runWith (fun b => b.put KEEP_STA_IP_EN 1), 0, 0xC060, by decide +kernel⟩,
   ⟨runWith (fun b => b.put KEEP_STA_IP_EN 1), 0, 77, by decide +kernel⟩,
   ⟨runWith (fun b => { b.put KEEP_STA_IP_EN 1 with keep := { b.keep with sec := .service } }), 0, 0xC060, 77, by decide +kernel⟩,
   ⟨runWith (fun b => b.put KEEP_STA_IP_EN 1), 0, 3, by decide +kernel⟩,
   ⟨runIn .commissioning (fun b => b.put KEEP_STA_IP_EN 1), 0, by decide +kernel⟩,
   ⟨run, 0, by decide +kernel⟩,
   ⟨run, 0, by decide +kernel⟩,
   ⟨runWith (fun b => { b with keep := { b.keep with sec := .service } }), 0, by decide +kernel⟩,
   ⟨runWith (fun b => { b with keep := { b.keep with stream := some ⟨1, [], false, 0, none⟩ } }), 0, 0, [5], ⟨1, [], false, 0, none⟩, by decide +kernel⟩,
   ⟨run, 0, 0, [5], by decide +kernel⟩⟩

theorem witness_HostWritesTakeEffect :
    (∃ (s : State) (dt who page : Nat),
    s.blk.running = true ∧ s.blk.holdup = false ∧ s.blk.role ≠ .standby ∧ page ≤ 16 ∧ (page ≠ 14 ∨ s.blk.twin = true) ∧ who < s.blk.sess.length) ∧
    (∃ (s : State) (dt who page : Nat),
    s.blk.running = true ∧ s.blk.holdup = false ∧ s.blk.role ≠ .standby ∧ page ≤ 16 ∧ (page ≠ 14 ∨ s.blk.twin = true) ∧ who < s.blk.sess.length) ∧
    (∃ (s : State) (dt who page : Nat),
    s.blk.running = true ∧ s.blk.holdup = false ∧ s.blk.role ≠ .standby ∧ page ≤ 16 ∧ (page ≠ 14 ∨ s.blk.twin = true) ∧ who < s.blk.sess.length) ∧
    (∃ (s : State) (dt who a v p w g : Nat),
    s.blk.running = true ∧ s.blk.holdup = true) ∧
    (∃ (s : State) (dt who page key : Nat),
    s.blk.running = true ∧ s.blk.holdup = false ∧ page ≤ 16) ∧
    (∃ (s : State) (dt who page key : Nat),
    s.blk.running = true ∧ s.blk.holdup = false ∧ page ≤ 16) ∧
    (∃ (s : State) (dt who v : Nat),
    s.blk.running = true ∧ s.blk.holdup = false ∧ v < 2 ^ 32) ∧
    (∃ (s : State) (dt who n lo hi : Nat),
    s.blk.running = true ∧ s.blk.holdup = false ∧ s.blk.role ≠ .standby ∧ s.blk.unlocked.contains 11 = true ∧ (s.blk.mode = .commissioning ∨ s.blk.mode = .maintenance) ∧ n < 256 ∧ (srcRow n).fixed = false ∧ (srcRow n).kind ≠ .unused ∧ lo ≤ hi ∧ hi ≤ 4 ∧ (srcRow n).floor ≤ lo ∧ (if s.env.get (FAULT_REACT_UNIT n) = 0 then s.env.get (FAULT_REACT_W n) = 0 else 1 ≤ s.env.get (FAULT_REACT_W n) ∧ (s.env.get (FAULT_REACT_UNIT n) < 5 ∨ s.env.get (FAULT_REACT_W n) ≤ 90))) ∧
    (∃ (s : State) (dt who n w u : Nat),
    s.blk.running = true ∧ s.blk.holdup = false ∧ s.blk.role ≠ .standby ∧ s.blk.unlocked.contains 11 = true ∧ (s.blk.mode = .commissioning ∨ s.blk.mode = .maintenance) ∧ n < 256 ∧ (srcRow n).fixed = false ∧ (srcRow n).kind ≠ .unused ∧ 1 ≤ w ∧ w ≤ 1000 ∧ 1 ≤ u ∧ u ≤ 4 ∧ s.env.get (FAULT_REACT_MINOR n) ≤ s.env.get (FAULT_REACT_SEVERE n) ∧ (srcRow n).floor ≤ s.env.get (FAULT_REACT_MINOR n) ∧ s.env.get (FAULT_REACT_SEVERE n) < 5) ∧
    (∃ (s : State) (dt who v : Nat),
    s.blk.running = true ∧ s.blk.holdup = false ∧ s.blk.role ≠ .standby ∧ 83844137 ≤ v ∧ v ≤ 83928023) ∧
    (∃ (s : State) (dt who v : Nat),
    s.blk.running = true ∧ s.blk.holdup = false ∧ s.blk.role ≠ .standby ∧ 83844137 ≤ v ∧ v ≤ 83928023) ∧
    (∃ (s : State) (dt who v : Nat),
    s.blk.running = true ∧ s.blk.holdup = false ∧ s.blk.role ≠ .standby ∧ (v < 83844137 ∨ 83928023 < v) ∧ v < 2 ^ 32 ∧ v ≠ s.env.get TIME_TB0_ADDEND) ∧
    (∃ (s : State) (dt who v : Nat),
    s.blk.running = true ∧ s.blk.holdup = false ∧ s.blk.role ≠ .standby ∧ (v < 83844137 ∨ 83928023 < v) ∧ v < 2 ^ 32 ∧ v ≠ s.env.get TIME_TB0_ADDEND) ∧
    (∃ (s : State) (dt who v : Nat),
    s.blk.running = true ∧ s.blk.holdup = false ∧ s.blk.role ≠ .standby ∧ 83844137 ≤ v ∧ v ≤ 83928023) ∧
    (∃ (s : State) (dt who v : Nat),
    s.blk.running = true ∧ s.blk.holdup = false ∧ s.blk.role ≠ .standby ∧ v < 2 ^ 32) ∧
    (∃ (s : State) (dt who v : Nat),
    s.blk.running = true ∧ s.blk.holdup = false ∧ s.blk.role ≠ .standby ∧ v < 2 ^ 32) ∧
    (∃ (s : State) (dt who g : Nat),
    s.blk.running = true ∧ s.blk.holdup = false ∧ s.blk.role ≠ .standby ∧ g < 2 ∧ s.blk.unlocked.contains 3 = true ∧ (s.blk.mode = .commissioning ∨ s.blk.mode = .maintenance ∨ s.blk.mode = .isolated ∨ s.blk.mode = .tripped) ∧ tpUnits s.env s.blk g = 2 ∧ (tpOf s.blk g).go = false ∧ inPast (s.begin dt).env (s.env.get (TIME_TP_CTL_BASE g)) (s.env.get (TIME_TP_START g)) = false) ∧
    (∃ (s : State) (dt who g : Nat),
    s.blk.running = true ∧ s.blk.holdup = false ∧ s.blk.role ≠ .standby ∧ g < 2 ∧ s.blk.unlocked.contains 3 = true ∧ (s.blk.mode = .commissioning ∨ s.blk.mode = .maintenance ∨ s.blk.mode = .isolated ∨ s.blk.mode = .tripped) ∧ (tpOf s.blk g).go = true) ∧
    (∃ (s : State) (dt who v : Nat),
    s.blk.running = true ∧ s.blk.holdup = false ∧ s.blk.twin = false) ∧
    (∃ (s : State) (dt who v : Nat),
    s.blk.running = true ∧ s.blk.holdup = false ∧ s.blk.twin = true ∧ s.blk.role = .active ∧ 83844137 ≤ v ∧ v ≤ 83928023) ∧
    (∃ (s : State) (dt who v : Nat),
    s.blk.running = true ∧ s.blk.holdup = false ∧ s.blk.twin = true ∧ s.blk.role = .active ∧ v < 2 ^ 32) :=
  ⟨⟨run, 0, 0, 16, by decide +kernel⟩,
   ⟨run, 0, 3, 8, by decide +kernel⟩,
   ⟨runWith (fun b => { b with twin := true, role := .active }), 0, 3, 14, by decide +kernel⟩,
   ⟨runWith (fun b => b.put PWR_STA_PSTATE 1), 0, 0, 0x3060, 83886080, 0, 0, 1, by decide +kernel⟩,
   ⟨run, 0, 0, 14, 0x4C4B, by decide +kernel⟩,
   ⟨runWith (fun b => { b with role := .standby, unlocked := [3, 7] }), 0, 0, 7, 0, by decide +kernel⟩,
   ⟨run, 0, 0, 0xFFFFFFFF, by decide +kernel⟩,
   ⟨runIn .commissioning (fun b => { b with unlocked := [11] }), 0, 0, SRC_LINK_DOWN_A, 2, 3, by decide +kernel⟩,
   ⟨runIn .maintenance (fun b => { b with unlocked := [11] }), 0, 0, SRC_LINK_DOWN_A, 7, 2, by decide +kernel⟩,
   ⟨run, 0, 0, 83844137, by decide +kernel⟩,
   ⟨run, 0, 0, 83928023, by decide +kernel⟩,
   ⟨run, 0, 0, 83844136, by decide +kernel⟩,
   ⟨run, 0, 0, 83928024, by decide +kernel⟩,
   ⟨run, 0, 0, 83928023, by decide +kernel⟩,
   ⟨run, 0, 0, 0xFFFFFFFF, by decide +kernel⟩,
   ⟨run, 0, 0, 5, by decide +kernel⟩,
   ⟨(runWith (fun b => { b with unlocked := [3] })).having [(TIME_TP_START 1, 5000), (TIME_MU_OWN 6, 3), (TIME_MU_OWN 7, 3)], 0, 0, 1, by decide +kernel⟩,
   ⟨runWith (fun b => { b with unlocked := [3], tim := { b.tim with tp1 := ⟨true, true, 7, some 9, true⟩ } }), 0, 0, 1, by decide +kernel⟩,
   ⟨run, 0, 0, 83886080, by decide +kernel⟩,
   ⟨runWith (fun b => { b with twin := true, role := .active }), 0, 0, 83844137, by decide +kernel⟩,
   ⟨runWith (fun b => { b with twin := true, role := .active }), 0, 0, 0xFFFFFFFF, by decide +kernel⟩⟩

theorem witness_LockedFieldsOfTheChainLedgerAndBuses :
    (∃ (s : State) (dt who p k : Nat),
    s.blk.running = true ∧ s.blk.holdup = false ∧ s.blk.role ≠ .standby ∧ s.blk.unlocked.contains 6 = true ∧ chainWritable s.blk = true ∧ p < 36 ∧ s.blk.chain.retire.any (fun r => r.1 == p) = false ∧ [36 + 2 * ringOf p, 37 + 2 * ringOf p].find? (fun k => !(s.blk.chain.retire.any (fun r => r.2 == k))) = some k) ∧
    (∃ (s : State) (dt who n cap : Nat) (x : LCell),
    s.blk.running = true ∧ s.blk.holdup = false ∧ s.blk.role ≠ .standby ∧ s.blk.unlocked.contains 7 = true ∧ chainWritable s.blk = true ∧ n < 576 ∧ s.blk.ledger.cells[n]? = some x ∧ x.capUnk = true ∧ ((s.begin dt).start.2.ledger.cells[n]?).map LCell.cap = some x.cap ∧ cap < 2 ^ 32) ∧
    (∃ (s : State) (dt who : Nat),
    s.blk.running = true ∧ s.blk.holdup = false ∧ s.blk.role ≠ .standby ∧ s.blk.unlocked.contains 8 = true ∧ chainWritable s.blk = true ∧ s.env.get SHUTTLE_CTL_EN = 1) ∧
    (∃ (s : State) (dt who : Nat),
    s.blk.running = true ∧ s.blk.holdup = false ∧ s.blk.role ≠ .standby ∧ s.blk.unlocked.contains 15 = true ∧ chainWritable s.blk = true ∧ s.env.get RACK_CTL_EN = 1) ∧
    (∃ (s : State) (dt who p n cap : Nat),
    s.blk.running = true ∧ s.blk.holdup = false ∧ s.blk.unlocked = [] ∧ n < 576) :=
  ⟨⟨runWith (fun b => { b with unlocked := [6] }), 0, 0, 35, 38, by decide +kernel⟩,
   ⟨runWith (fun b => { b with unlocked := [7], ledger := { b.ledger with cells := [{ LCell.fresh with capUnk := true }] } }), 1, 0, 0, 5, { LCell.fresh with capUnk := true }, by decide +kernel⟩,
   ⟨runWith (fun b => { b with unlocked := [8] }), 0, 0, by decide +kernel⟩,
   ⟨runWith (fun b => { b with unlocked := [15], rack := { b.rack with cur := some ⟨3, true, [], 0⟩ } }), 0, 0, by decide +kernel⟩,
   ⟨run, 0, 0, 0, 575, 1, by decide +kernel⟩⟩

theorem witness_SequencerCommandsRun :
    (∃ (s : State) (dt : Nat),
    s.blk.running = true ∧ s.blk.role ≠ .standby ∧ connectRefuse (s.begin dt).blk = 0 ∧ s.blk.get SAFE_WELD_RESULT_KP = 1 ∧ s.blk.get SAFE_WELD_RESULT_KN = 1 ∧ s.blk.get SAFE_WELD_RESULT_KC = 1) ∧
    (∃ (s : State) (dt : Nat),
    s.blk.running = true ∧ s.blk.role ≠ .standby ∧ connectRefuse (s.begin dt).blk = 0 ∧ s.blk.get SAFE_WELD_RESULT_KP = 2) ∧
    (∃ (s : State) (dt : Nat),
    s.blk.running = true ∧ s.blk.role ≠ .standby ∧ s.blk.mode = .connected ∧ s.blk.seq.dis = none) ∧
    (∃ (s : State) (dt : Nat),
    s.blk.running = true ∧ s.blk.role ≠ .standby ∧ s.blk.mode = .tripped ∧ maintKey (s.begin dt).env (s.begin dt).blk = true ∧ s.blk.holdup = false ∧ s.blk.pwr.latch = false ∧ s.blk.seq.dis = none ∧ (s.begin dt).start.2.mode = .tripped) ∧
    (∃ (s : State) (dt : Nat),
    s.blk.running = true ∧ s.blk.role ≠ .standby ∧ s.blk.mode = .maintenance) ∧
    (∃ (s : State) (dt : Nat),
    s.blk.running = true ∧ s.blk.role ≠ .standby ∧ s.blk.mode = .isolated ∧ s.blk.seq.dis = none) ∧
    (∃ (s : State) (dt : Nat),
    s.blk.running = true ∧ s.blk.role ≠ .standby ∧ testAllowed (s.begin dt).blk = true) ∧
    (∃ (s : State) (dt arg : Nat),
    s.blk.running = true ∧ s.blk.role ≠ .standby ∧ testAllowed (s.begin dt).blk = true ∧ arg ≤ 2) ∧
    (∃ (s : State) (dt arg : Nat),
    s.blk.running = true ∧ s.blk.role ≠ .standby ∧ testAllowed (s.begin dt).blk = true ∧ arg ≤ 2) ∧
    (∃ (s : State) (dt arg : Nat),
    s.blk.running = true ∧ s.blk.role ≠ .standby ∧ (s.blk.mode = .isolated ∨ s.blk.mode = .maintenance)) ∧
    (∃ (s : State) (dt arg : Nat),
    s.blk.running = true ∧ s.blk.role ≠ .standby ∧ (s.blk.mode = .isolated ∨ s.blk.mode = .maintenance)) :=
  ⟨⟨runWith (fun b => { ((((((b.put SAFE_WELD_RESULT_KP 1).put SAFE_WELD_RESULT_KN 1).put SAFE_WELD_RESULT_KC 1).put SAFE_STA_PERMIT 1).put PWR_STA_HOLD_READY 1).put PWR_STA_VCOIL_OK 1) with keep := { b.keep with sec := .isSealed } }), 0, by decide +kernel⟩,
   ⟨runWith (fun b => { ((((b.put SAFE_WELD_RESULT_KP 2).put SAFE_STA_PERMIT 1).put PWR_STA_HOLD_READY 1).put PWR_STA_VCOIL_OK 1) with keep := { b.keep with sec := .isSealed } }), 0, by decide +kernel⟩,
   ⟨runIn .connected (fun b => b), 0, by decide +kernel⟩,
   ⟨(runIn .tripped (fun b => { b with safe := { b.safe with pairs := b.safe.pairs.map (fun p => { p with dem := true }) } })).having [(SAFE_SI_FUNC_P 0, 4)], 1, by decide +kernel⟩,
   ⟨runIn .maintenance (fun b => b), 0, by decide +kernel⟩,
   ⟨run, 0, by decide +kernel⟩,
   ⟨runIn .maintenance (fun b => b), 0, by decide +kernel⟩,
   ⟨runIn .maintenance (fun b => b), 0, 0, by decide +kernel⟩,
   ⟨runIn .maintenance (fun b => b), 0, 2, by decide +kernel⟩,
   ⟨run, 0, 7, by decide +kernel⟩,
   ⟨runIn .maintenance (fun b => b), 0, 1, by decide +kernel⟩⟩

theorem witness_SequencerCommandsRefused :
    (∃ (s : State) (dt : Nat),
    s.blk.running = true ∧ s.blk.role ≠ .standby ∧ connectRefuse (s.begin dt).blk ≠ 0) ∧
    (∃ (s : State),
    s.blk.running = true ∧ s.blk.role ≠ .standby ∧ s.blk.mode = .tripped ∧ s.start.2.mode ≠ .tripped) ∧
    (∃ (s : State) (dt arg : Nat),
    s.blk.running = true ∧ s.blk.role ≠ .standby ∧ 2 < arg) ∧
    (∃ (s : State) (dt : Nat),
    s.blk.running = true ∧ s.blk.role = .standby) ∧
    (∃ (s : State) (dt : Nat),
    s.blk.running = true ∧ s.blk.role = .standby) ∧
    (∃ (s : State) (dt : Nat),
    s.blk.running = true ∧ s.blk.role = .standby) :=
  ⟨⟨run, 0, by decide +kernel⟩,
   ⟨{ runIn .tripped (fun b => b) with start := (⟨0, 0, 0, 0, 0, 0⟩, run.blk) }, by decide +kernel⟩,
   ⟨run, 0, 3, by decide +kernel⟩,
   ⟨runWith (fun b => { b with role := .standby, twin := true }), 0, by decide +kernel⟩,
   ⟨runWith (fun b => { b with role := .standby, twin := true }), 0, by decide +kernel⟩,
   ⟨runWith (fun b => { b with role := .standby, twin := true }), 0, by decide +kernel⟩⟩

theorem witness_ConnectStepsAdvance :
    (∃ (s : State) (dt d : Nat),
    s.blk.running = true ∧ s.blk.seq.fbBy = some d ∧ s.blk.seq.await = [1, 2] ∧ s.blk.get SAFE_SEQ_STA_STEP = 2 ∧ s.blk.role ≠ .standby ∧ s.blk.get HVS_STA_IMD_INJECTING = 0 ∧ commanded s.blk 1 = true ∧ commanded s.blk 2 = true) ∧
    (∃ (s : State) (dt d : Nat),
    s.blk.running = true ∧ s.blk.seq.fbBy = some d ∧ s.blk.get SAFE_SEQ_STA_STEP = 2) ∧
    (∃ (s : State) (dt d : Nat) (maxI : Nat) (midp hvp midn hvn : Int),
    s.blk.running = true ∧ s.blk.seq.ssbTest = some d ∧ s.blk.get SAFE_SEQ_STA_STEP = 3 ∧ 50 * iabs (midp - hvp) ≤ hvp - hvn ∧ maxI ≤ 1000) ∧
    (∃ (s : State) (dt d : Nat) (maxI : Nat) (midp hvp midn hvn : Int),
    s.blk.running = true ∧ s.blk.seq.ssbTest = some d ∧ s.blk.get SAFE_SEQ_STA_STEP = 3 ∧ 50 * iabs (midp - hvp) ≤ hvp - hvn ∧ 1000 < maxI) ∧
    (∃ (s : State) (dt d : Nat),
    s.blk.running = true ∧ s.blk.seq.stagger = some (d, .ssbN)) ∧
    (∃ (s : State) (dt d : Nat),
    s.blk.running = true ∧ s.blk.seq.stagger = some (d, .precharge)) ∧
    (∃ (s : State) (dt d : Nat) (dv : Int) (held peak : Nat),
    s.blk.running = true ∧ s.blk.get SAFE_SEQ_STA_STEP = 5 ∧ s.blk.seq.pcBy = some d ∧ s.blk.seq.picks = [] ∧ iabs dv ≤ s.env.get SAFE_PC_DV_DV ∧ 1000 * s.env.get SAFE_PC_HOLD_HOLD ≤ held) ∧
    (∃ (s : State) (dt d peak : Nat),
    s.blk.running = true ∧ s.blk.get SAFE_SEQ_STA_STEP = 5 ∧ s.blk.seq.pcBy = some d) ∧
    (∃ (s : State) (dt : Nat) (i dv : Int) (n peak : Nat),
    s.blk.running = true ∧ s.blk.get SAFE_SEQ_STA_STEP = 5 ∧ pcLimit dv (s.env.get SAFE_PC_R_RPC) < iabs i ∧ 20 ≤ n ∧ s.blk.role ≠ .standby) ∧
    (∃ (s : State) (dt d : Nat),
    s.blk.running = true ∧ s.blk.seq.coolBy = some d) ∧
    (∃ (s : State) (dt d : Nat),
    s.blk.running = true ∧ s.blk.seq.fbBy = some d ∧ s.blk.seq.await = [2] ∧ s.blk.get SAFE_SEQ_STA_STEP = 7 ∧ s.blk.role ≠ .standby) ∧
    (∃ (s : State) (dt d : Nat),
    s.blk.running = true ∧ s.blk.seq.fbBy = some d ∧ s.blk.get SAFE_SEQ_STA_STEP = 7) ∧
    (∃ (s : State) (dt : Nat),
    s.blk.running = true ∧ s.blk.seq.await = [] ∧ s.blk.owner = true ∧ inExc s.blk SRC_SEQ_FB_LOST 0 = false ∧ commanded s.blk 0 = true ∧ commanded s.blk 1 = false ∧ commanded s.blk 2 = false) :=
  ⟨⟨runIn .connecting (fun b => { ((b.put SAFE_SW_STATE_KN_CMD 1).put SAFE_SW_STATE_KC_CMD 1).put SAFE_SEQ_STA_STEP 2 with seq := { b.seq with fbBy := some 5, await := [1, 2] } }), 0, 5, by decide +kernel⟩,
   ⟨runIn .connecting (fun b => { b.put SAFE_SEQ_STA_STEP 2 with seq := { b.seq with fbBy := some 5, await := [1, 2] } }), 0, 5, by decide +kernel⟩,
   ⟨runIn .connecting (fun b => { b.put SAFE_SEQ_STA_STEP 3 with seq := { b.seq with ssbTest := some 5 } }), 0, 5, 1000, 78400, 80000, 0, 0, by decide +kernel⟩,
   ⟨runIn .connecting (fun b => { b.put SAFE_SEQ_STA_STEP 3 with seq := { b.seq with ssbTest := some 5 } }), 0, 5, 1001, 78400, 80000, 0, 0, by decide +kernel⟩,
   ⟨runIn .connecting (fun b => { b with seq := { b.seq with stagger := some (5, .ssbN) } }), 0, 5, by decide +kernel⟩,
   ⟨runIn .connecting (fun b => { b with seq := { b.seq with stagger := some (5, .precharge) } }), 0, 5, by decide +kernel⟩,
   ⟨runIn .connecting (fun b => { b.put SAFE_SEQ_STA_STEP 5 with seq := { b.seq with pcBy := some 5 } }), 0, 5, 0, 1000000, 1000, by decide +kernel⟩,
   ⟨runIn .connecting (fun b => { b.put SAFE_SEQ_STA_STEP 5 with seq := { b.seq with pcBy := some 5 } }), 0, 5, 1000, by decide +kernel⟩,
   ⟨runIn .connecting (fun b => b.put SAFE_SEQ_STA_STEP 5), 0, 2001, 0, 20, 2, by decide +kernel⟩,
   ⟨runWith (fun b => { b with seq := { b.seq with coolBy := some 5 } }), 0, 5, by decide +kernel⟩,
   ⟨runIn .connecting (fun b => { b.put SAFE_SEQ_STA_STEP 7 with seq := { b.seq with fbBy := some 5, await := [2] } }), 0, 5, by decide +kernel⟩,
   ⟨runIn .connecting (fun b => { b.put SAFE_SEQ_STA_STEP 7 with seq := { b.seq with fbBy := some 5, await := [2] } }), 0, 5, by decide +kernel⟩,
   ⟨runIn .connected (fun b => (b.put SAFE_SW_STATE_KP_CMD 1).put SAFE_SW_STATE_KP_FB 1), 0, by decide +kernel⟩⟩

theorem witness_CoilsPickAndHold :
    (∃ (s : State) (dt k i d : Nat),
    s.blk.running = true ∧ s.blk.seq.picks = [(k, d)] ∧ s.blk.seq.waitPick = [] ∧ s.blk.seq.pcDone = false ∧ 100 ≤ i ∧ i ≤ 6000 ∧ seriesMode s.blk = false) ∧
    (∃ (s : State) (dt k i d : Nat),
    s.blk.running = true ∧ s.blk.seq.picks = [(k, d)] ∧ s.blk.seq.waitPick = [] ∧ s.blk.seq.pcDone = false ∧ 100 ≤ i ∧ i ≤ 6000 ∧ seriesMode s.blk = false) ∧
    (∃ (s : State) (dt i held : Nat),
    s.blk.running = true ∧ commanded s.blk 0 = true ∧ s.blk.seq.picks = [] ∧ s.blk.therm.coils = [⟨1000, 0, 0, 0, 0⟩, ⟨0, 0, 0, 0, 0⟩, ⟨0, 0, 0, 0, 0⟩] ∧ s.blk.get THERM_STA_BAND = 2 ∧ i < 200 ∧ 100000 ≤ held ∧ seriesMode s.blk = false) ∧
    (∃ (s : State) (dt k t c d : Nat),
    s.blk.running = true ∧ s.blk.seq.coilTestBy = some d ∧ s.blk.seq.coilTest = some (k, t, c)) :=
  ⟨⟨runIn .connecting (fun b => { b with seq := { b.seq with picks := [(1, 5)] } }), 0, 1, 100, 5, by decide +kernel⟩,
   ⟨runIn .connecting (fun b => { b with seq := { b.seq with picks := [(1, 5)] } }), 0, 1, 6000, 5, by decide +kernel⟩,
   ⟨runIn .connected (fun b => { (b.put SAFE_SW_STATE_KP_CMD 1).put THERM_STA_BAND 2 with therm := { b.therm with coils := [⟨1000, 0, 0, 0, 0⟩, ⟨0, 0, 0, 0, 0⟩, ⟨0, 0, 0, 0, 0⟩] } }), 0, 199, 100000, by decide +kernel⟩,
   ⟨runIn .maintenance (fun b => { b with seq := { b.seq with coilTestBy := some 5, coilTest := some (1, 0, 20) } }), 0, 1, 0, 20, 5, by decide +kernel⟩⟩

theorem witness_DisconnectOpensTheString :
    (∃ (s : State) (dt maxI n : Nat),
    s.blk.running = true ∧ s.blk.get SAFE_SEQ_STA_STEP = 8 ∧ maxI ≤ s.env.get SAFE_I_ZERO ∧ 50 ≤ n ∧ s.blk.seq.dis.isSome = true) ∧
    (∃ (s : State) (dt d : Nat) (i : Int) (x : Dis),
    s.blk.running = true ∧ s.blk.seq.confirmBy = some d ∧ s.blk.get SAFE_SEQ_STA_STEP = 8 ∧ s.blk.seq.dis = some x ∧ x.fault = false ∧ (s.env.get SAFE_I_ZERO : Int) < iabs i ∧ closedNow s.blk 0 = true ∧ closedNow s.blk 1 = true ∧ closedNow s.blk 2 = false) ∧
    (∃ (s : State) (dt t : Nat) (x : Dis),
    s.blk.running = true ∧ s.blk.seq.fbBy = some t ∧ s.blk.seq.await = [0, 1, 2] ∧ s.blk.get SAFE_SEQ_STA_STEP = 9 ∧ s.blk.seq.dis = some x ∧ s.blk.role ≠ .standby) ∧
    (∃ (s : State) (dt d : Nat),
    s.blk.running = true ∧ s.blk.seq.tctrl = some d ∧ s.blk.mode = .connected ∧ s.blk.seq.dis = none ∧ s.blk.role ≠ .standby) ∧
    (∃ (s : State) (dt d : Nat) (i : Int),
    s.blk.running = true ∧ s.blk.seq.tctrl = some d ∧ s.blk.mode = .connected ∧ s.blk.seq.dis = none ∧ (s.begin dt).clk.now < d ∧ iabs i ≤ (s.env.get SAFE_I_ZERO : Int) ∧ s.blk.role ≠ .standby) ∧
    (∃ (s : State) (dt d : Nat),
    s.blk.running = true ∧ s.blk.seq.partnerRideBy = some d ∧ s.blk.mode = .connected ∧ s.blk.seq.dis = none ∧ s.blk.role = .active) :=
  ⟨⟨runIn .connected (fun b => { b.put SAFE_SEQ_STA_STEP 8 with seq := { b.seq with dis := some ⟨false, false, false, 0, false⟩ } }), 0, 0, 50, by decide +kernel⟩,
   ⟨runIn .connected (fun b => { ((b.put SAFE_SEQ_STA_STEP 8).put SAFE_SW_STATE_KP_FB 1).put SAFE_SW_STATE_KN_FB 1 with seq := { b.seq with confirmBy := some 5, dis := some ⟨false, false, false, 0, false⟩ } }), 0, 5, 1000000, ⟨false, false, false, 0, false⟩, by decide +kernel⟩,
   ⟨runIn .connected (fun b => { b.put SAFE_SEQ_STA_STEP 9 with seq := { b.seq with fbBy := some 5, await := [0, 1, 2], dis := some ⟨false, false, false, 0, false⟩ } }), 0, 5, ⟨false, false, false, 0, false⟩, by decide +kernel⟩,
   ⟨runIn .connected (fun b => { b with seq := { b.seq with tctrl := some 5 } }), 0, 5, by decide +kernel⟩,
   ⟨runIn .connected (fun b => { b with seq := { b.seq with tctrl := some 5 } }), 0, 5, 0, by decide +kernel⟩,
   ⟨runIn .connected (fun b => { b with role := .active, seq := { b.seq with partnerRideBy := some 5 } }), 0, 5, by decide +kernel⟩⟩

theorem witness_WeldTestVerdicts :
    (∃ (s : State) (dt t : Nat) (d ee midE : Int) (w : Weld),
    s.blk.running = true ∧ s.blk.seq.pulseBy = some t ∧ s.blk.seq.weld = some w ∧ w.pulse = 1 ∧ w.kp ≠ 3 ∧ w.kc ≠ 3 ∧ w.kn = 0 ∧ s.blk.get HVS_STA_IMD_INJECTING = 0 ∧ 5000 ≤ iabs d ∧ iabs d < 2 * iabs ee) ∧
    (∃ (s : State) (dt t : Nat) (w : Weld),
    s.blk.running = true ∧ s.blk.seq.weld = some w ∧ w.retryBy = some t ∧ s.blk.seq.pulseBy = none ∧ s.blk.seq.stagger = none) ∧
    (∃ (s : State) (dt t : Nat) (w : Weld),
    s.blk.running = true ∧ s.blk.seq.weld = some w ∧ w.windowBy = some t ∧ w.kp = 1 ∧ w.kn = 1 ∧ w.kc = 1) :=
  ⟨⟨runIn .maintenance (fun b => { b with seq := { b.seq with pulseBy := some 5, weld := some ⟨false, true, 1, none, none, 0, 0, 0⟩ } }), 0, 5, 5000, 5000, 0, ⟨false, true, 1, none, none, 0, 0, 0⟩, by decide +kernel⟩,
   ⟨runIn .maintenance (fun b => { b with seq := { b.seq with weld := some ⟨false, true, 2, some 5, none, 0, 0, 0⟩ } }), 0, 5, ⟨false, true, 2, some 5, none, 0, 0, 0⟩, by decide +kernel⟩,
   ⟨runIn .maintenance (fun b => { b with seq := { b.seq with weld := some ⟨false, true, 2, none, some 5, 1, 1, 1⟩ } }), 0, 5, ⟨false, true, 2, none, some 5, 1, 1, 1⟩, by decide +kernel⟩⟩

theorem witness_IslandLinkAndInputs :
    (∃ (s : State) (dt : Nat),
    s.blk.phase = .run ∧ s.blk.keep.scanned = false ∧ s.blk.get HVS_STA_ISLAND_OK = 1) ∧
    (∃ (s : State) (dt : Nat),
    s.blk.keep.scanned = false) ∧
    (∃ (s : State) (dt k d : Nat) (x : Int) (sat : Bool),
    s.blk.phase = .warmBoot ∧ k ≠ 3 ∧ limitBeyond (s.begin dt).env (s.begin dt).blk k x sat = true ∧ limitTime (s.begin dt).env k ≤ d ∧ s.blk.get HVS_STA_LIMIT_LATCH = 0) ∧
    (∃ (s : State) (dt k d : Nat) (x : Int) (sat : Bool),
    s.blk.phase = .warmBoot ∧ k ≠ 3 ∧ limitBeyond (s.begin dt).env (s.begin dt).blk k x sat = true ∧ limitTime (s.begin dt).env k ≤ d ∧ s.blk.get HVS_STA_LIMIT_LATCH = 0) ∧
    (∃ (s : State) (dt held : Nat) (a h : Int),
    s.blk.keep.scanned = false ∧ zeroDue (s.begin dt).env (s.begin dt).blk held = true ∧ iabs a ≤ 200 ∧ iabs h ≤ 50000) ∧
    (∃ (s : State) (dt d : Nat) (uv : Int),
    s.blk.keep.scanned = false ∧ 510000 < iabs uv ∧ 1000 ≤ d ∧ s.blk.get HVS_STA_SHUNT_OK = 1) ∧
    (∃ (s : State) (dt ma d : Nat) (uv : Int),
    s.blk.keep.scanned = false ∧ (ma < 5 ∨ 150 < ma) ∧ s.blk.get HVS_STA_HALL_OK = 1) ∧
    (∃ (s : State) (dt ma d : Nat) (uv : Int),
    s.blk.keep.scanned = false ∧ (ma < 5 ∨ 150 < ma) ∧ s.blk.get HVS_STA_HALL_OK = 1) ∧
    (∃ (s : State) (dt : Nat),
    s.blk.keep.scanned = false ∧ s.blk.get HVS_STA_SHUNT_OK = 0) ∧
    (∃ (s : State) (dt d : Nat) (a h : Int),
    s.blk.keep.scanned = false ∧ xchkRuns (s.begin dt).blk = true ∧ xchkWindow (s.begin dt).env a < iabs (a - h) ∧ 1000 * s.env.get HVS_XCHK_WIN_TIME ≤ d) ∧
    (∃ (s : State) (dt d : Nat) (a h : Int),
    s.blk.keep.scanned = false ∧ xchkRuns (s.begin dt).blk = true ∧ iabs (a - h) ≤ xchkWindow (s.begin dt).env a ∧ 1000 * s.env.get HVS_XCHK_WIN_TIME ≤ d) ∧
    (∃ (s : State) (dt d : Nat) (v : List Int),
    s.blk.phase = .run ∧ s.blk.keep.scanned = false ∧ s.blk.mode = .connected ∧ commanded s.blk 0 = true ∧ commanded s.blk 1 = true ∧ s.blk.get SAFE_SW_STATE_SSBP_CMD = 1 ∧ s.blk.get SAFE_SW_STATE_SSBN_CMD = 1 ∧ v = [100000, 97999, 97999, 0, 0, 0] ∧ 100 ≤ d ∧ inExc s.blk SRC_MID_MISMATCH 0 = false ∧ s.env.get TRIP_CAP_CTL_HVS_L4 = 0) ∧
    (∃ (s : State) (dt : Nat) (a c x : Int),
    s.blk.keep.scanned = false ∧ calibrated (s.begin dt).blk 8 a = x ∧ -400 ≤ x ∧ x ≤ 1500 ∧ (calibrated (s.begin dt).blk 9 c < -400 ∨ 1500 < calibrated (s.begin dt).blk 9 c)) ∧
    (∃ (s : State) (dt : Nat) (a c x : Int),
    s.blk.keep.scanned = false ∧ calibrated (s.begin dt).blk 8 a = x ∧ -400 ≤ x ∧ x ≤ 1500 ∧ (calibrated (s.begin dt).blk 9 c < -400 ∨ 1500 < calibrated (s.begin dt).blk 9 c)) ∧
    (∃ (s : State) (dt : Nat),
    s.blk.keep.scanned = false) :=
  ⟨⟨runWith (fun b => b.put HVS_STA_ISLAND_OK 1), 0, by decide +kernel⟩,
   ⟨run, 0, by decide +kernel⟩,
   ⟨runWith (fun b => { b with phase := .warmBoot }), 0, 1, 1000000, 1000000000, false, by decide +kernel⟩,
   ⟨runWith (fun b => { b with phase := .warmBoot }), 0, 2, 1000000, 0, true, by decide +kernel⟩,
   ⟨run, 0, 100, 200, -50000, by decide +kernel⟩,
   ⟨runWith (fun b => b.put HVS_STA_SHUNT_OK 1), 0, 1000, -510001, by decide +kernel⟩,
   ⟨runWith (fun b => b.put HVS_STA_HALL_OK 1), 0, 4, 0, 0, by decide +kernel⟩,
   ⟨runWith (fun b => b.put HVS_STA_HALL_OK 1), 0, 151, 0, 0, by decide +kernel⟩,
   ⟨runWith (fun b => b.put HVS_STA_SHUNT_OK 0), 0, by decide +kernel⟩,
   ⟨run, 0, 1000000, 0, 1000000, by decide +kernel⟩,
   ⟨run, 0, 1000000, 0, 0, by decide +kernel⟩,
   ⟨(runIn .connected (fun b => (((b.put SAFE_SW_STATE_KP_CMD 1).put SAFE_SW_STATE_KN_CMD 1).put SAFE_SW_STATE_SSBP_CMD 1).put SAFE_SW_STATE_SSBN_CMD 1)).having [(TRIP_CAP_CTL_HVS_L4, 0)], 0, 100, [100000, 97999, 97999, 0, 0, 0], by decide +kernel⟩,
   ⟨run, 0, -400, 1501, -400, by decide +kernel⟩,
   ⟨run, 0, 1500, -401, 1500, by decide +kernel⟩,
   ⟨run, 0, by decide +kernel⟩⟩

theorem witness_LimitsBeyondTheClickPath :
    (∃ (s : State) (dt d : Nat) (x : Int),
    s.blk.phase = .run ∧ s.blk.keep.scanned = false ∧ 0 ≤ x ∧ limitValue s.env 1 < x ∧ 1000 * s.env.get HVS_LIM_OC_TIME_TIME ≤ d ∧ inExc s.blk SRC_OVERCURRENT 0 = false ∧ inExc s.blk SRC_OVERCURRENT 1 = false ∧ s.env.get TRIP_CAP_CTL_HVS_L4 = 0) ∧
    (∃ (s : State) (dt d : Nat) (x : Int),
    s.blk.phase = .run ∧ s.blk.keep.scanned = false ∧ limitValue s.env 5 < iabs x ∧ s.env.get HVS_LIM_DIDT_COUNT ≤ d ∧ inExc s.blk SRC_DIDT 5 = false ∧ s.env.get TRIP_CAP_CTL_HVS_L4 = 0) ∧
    (∃ (s : State) (dt d : Nat) (x : Int) (sat : Bool),
    s.blk.phase = .run ∧ s.blk.keep.scanned = false ∧ (sat = true ∨ limitValue s.env 2 < x) ∧ 1000 ≤ d ∧ inExc s.blk SRC_STRING_OV 2 = false ∧ s.env.get TRIP_CAP_CTL_HVS_L4 = 0) ∧
    (∃ (s : State) (dt d : Nat) (x : Int) (sat : Bool),
    s.blk.phase = .run ∧ s.blk.keep.scanned = false ∧ (sat = true ∨ limitValue s.env 2 < x) ∧ 1000 ≤ d ∧ inExc s.blk SRC_STRING_OV 2 = false ∧ s.env.get TRIP_CAP_CTL_HVS_L4 = 0) ∧
    (∃ (s : State) (dt d : Nat) (x : Int) (sat : Bool),
    s.blk.phase = .run ∧ s.blk.keep.scanned = false ∧ s.env.get HVS_LIM_V_UV ≠ 0 ∧ (sat = true ∨ x < limitValue s.env 3) ∧ 1000 ≤ d ∧ inExc s.blk SRC_STRING_UV 3 = false) ∧
    (∃ (s : State) (dt d : Nat) (x : Int) (sat : Bool),
    s.blk.phase = .run ∧ s.blk.keep.scanned = false ∧ s.env.get HVS_LIM_V_UV ≠ 0 ∧ (sat = true ∨ x < limitValue s.env 3) ∧ 1000 ≤ d ∧ inExc s.blk SRC_STRING_UV 3 = false) ∧
    (∃ (s : State) (dt d : Nat) (x : Int) (sat : Bool),
    s.blk.phase = .run ∧ s.blk.keep.scanned = false ∧ s.blk.mode = .connected ∧ s.blk.holdup = false ∧ (sat = true ∨ limitValue s.env 4 < x) ∧ 1000 ≤ d ∧ inExc s.blk SRC_BUS_OV 4 = false ∧ s.env.get TRIP_CAP_CTL_HVS_L4 = 0) ∧
    (∃ (s : State) (dt d : Nat) (x : Int) (sat : Bool),
    s.blk.phase = .run ∧ s.blk.keep.scanned = false ∧ s.blk.mode = .connected ∧ s.blk.holdup = false ∧ (sat = true ∨ limitValue s.env 4 < x) ∧ 1000 ≤ d ∧ inExc s.blk SRC_BUS_OV 4 = false ∧ s.env.get TRIP_CAP_CTL_HVS_L4 = 0) ∧
    (∃ (s : State) (dt d : Nat) (x : Int) (sat : Bool),
    s.blk.phase = .run ∧ s.blk.keep.scanned = false ∧ s.blk.mode = .isolated) :=
  ⟨⟨run.having [(TRIP_CAP_CTL_HVS_L4, 0)], 0, 10000000, 100000000, by decide +kernel⟩,
   ⟨run.having [(TRIP_CAP_CTL_HVS_L4, 0)], 0, 1000, 1000000000, by decide +kernel⟩,
   ⟨run.having [(TRIP_CAP_CTL_HVS_L4, 0)], 0, 1000, 1000000, false, by decide +kernel⟩,
   ⟨run.having [(TRIP_CAP_CTL_HVS_L4, 0)], 0, 1000, 0, true, by decide +kernel⟩,
   ⟨run.having [(HVS_LIM_V_UV, 10000)], 0, 1000, -5, false, by decide +kernel⟩,
   ⟨run.having [(HVS_LIM_V_UV, 10000)], 0, 1000, 0, true, by decide +kernel⟩,
   ⟨(runIn .connected (fun b => b)).having [(TRIP_CAP_CTL_HVS_L4, 0)], 0, 1000, 1000000, false, by decide +kernel⟩,
   ⟨(runIn .connected (fun b => b)).having [(TRIP_CAP_CTL_HVS_L4, 0)], 0, 1000, 0, true, by decide +kernel⟩,
   ⟨run, 0, 1000, 1000000, false, by decide +kernel⟩⟩

theorem witness_InsulationAndClickPath :
    (∃ (s : State) (dt step : Nat),
    s.blk.phase = .run ∧ s.blk.keep.scanned = false ∧ s.env.get HVS_IMD_CFG_ROLE ≠ 0 ∧ step ≤ 20 ∧ imdMay (s.begin dt).env (s.begin dt).blk = true) ∧
    (∃ (s : State) (dt capp capm : Nat) (vp vm ip im : Int),
    s.blk.keep.scanned = false ∧ s.blk.get HVS_STA_IMD_INJECTING = 1 ∧ imdMay (s.begin dt).env (s.begin dt).blk = true ∧ s.blk.hvs.imdBad = true) ∧
    (∃ (s : State) (dt capp capm : Nat) (vp vm ip im : Int),
    s.blk.keep.scanned = false ∧ s.blk.get HVS_STA_IMD_INJECTING = 1 ∧ imdMay (s.begin dt).env (s.begin dt).blk = true ∧ s.blk.hvs.imdBad = false ∧ s.blk.hvs.imdW = 0 ∧ s.blk.hvs.imdF = 0 ∧ inExc s.blk SRC_IMD_WARN 0 = false ∧ inExc s.blk SRC_IMD_FAULT 0 = false ∧ s.env.get HVS_IMD_THR_WARN ≤ 800 ∧ s.env.get HVS_IMD_THR_FAULT ≤ 800 ∧ calibrated s.blk 10 vp - calibrated s.blk 10 vm = 100000 ∧ calibrated s.blk 11 ip - calibrated s.blk 11 im = 100000 ∧ capm < 2 ^ 16) ∧
    (∃ (s : State) (dt sub : Nat),
    s.blk.phase = .run ∧ s.blk.get TRIP_STA_ON_PATH_A = 1 ∧ s.blk.get TRIP_STA_LATCH_A = 0 ∧ s.blk.trip.at_ = none) ∧
    (∃ (s : State) (dt r : Nat) (meas : Int),
    s.blk.keep.scanned = false ∧ s.blk.get CLK_STA_TRIP_FWD_OK = 1 ∧ nextLane (s.begin dt).blk = some 0 ∧ s.blk.get TRIP_STA_LATCH_C = 0 ∧ s.blk.get TRIP_STA_C_ROLE = 0 ∧ s.blk.get TRIP_STA_LATCH_A = 0 ∧ s.blk.get TRIP_STA_LATCH_B = 0 ∧ r ≤ 32) ∧
    (∃ (s : State) (dt : Nat),
    s.blk.keep.scanned = false) ∧
    (∃ (s : State) (dt : Nat),
    s.blk.keep.scanned = false) ∧
    (∃ (s : State) (dt d : Nat),
    s.blk.keep.scanned = false ∧ bkOn (s.begin dt).env (s.begin dt).blk 0 = false ∧ s.env.get TRIP_BK_TIME_FALL < d) ∧
    (∃ (s : State) (dt : Nat),
    s.blk.running = true ∧ s.blk.holdup = false ∧ s.blk.role ≠ .standby ∧ s.blk.watch.bufs = [] ∧ s.clk.Sound) ∧
    (∃ (s : State) (dt : Nat) (c : CapBuf),
    s.blk.running = true ∧ s.blk.watch.bufs = [c] ∧ c.frozen = false ∧ c.trig ≠ SRC_CLICK_TRIP ∧ s.blk.watch.caps = []) ∧
    (∃ (s : State) (dt : Nat) (c : Cap),
    s.blk.keep.scanned = false ∧ captureReady (s.begin dt).blk = some c) :=
  ⟨⟨(runWith (fun b => b.put HVS_STA_ISLAND_OK 1)).having [(HVS_IMD_CFG_ROLE, 1)], 0, 20, by decide +kernel⟩,
   ⟨(runWith (fun b => { (b.put HVS_STA_ISLAND_OK 1).put HVS_STA_IMD_INJECTING 1 with hvs := { b.hvs with imdBad := true } })).having [(HVS_IMD_CFG_ROLE, 1)], 0, 10, 10, 0, 0, 0, 0, by decide +kernel⟩,
   ⟨(runWith (fun b => (b.put HVS_STA_ISLAND_OK 1).put HVS_STA_IMD_INJECTING 1)).having [(HVS_IMD_CFG_ROLE, 1), (HVS_IMD_THR_WARN, 500), (HVS_IMD_THR_FAULT, 100)], 0, 10, 20, 50000, -50000, 50000, -50000, by decide +kernel⟩,
   ⟨runIn .connected (fun b => b.put TRIP_STA_ON_PATH_A 1), 0, 3, by decide +kernel⟩,
   ⟨runWith (fun b => (b.put CLK_STA_TRIP_FWD_OK 1)), 0, 32, 0, by decide +kernel⟩,
   ⟨run, 0, by decide +kernel⟩,
   ⟨run, 0, by decide +kernel⟩,
   ⟨run, 0, 100000, by decide +kernel⟩,
   ⟨run, 0, by exact ⟨rfl, rfl, by decide, rfl, by decide, by decide, by decide, by decide⟩⟩,
   ⟨runWith (fun b => { b with watch := { b.watch with bufs := [⟨0, 0, 0, 0, [], 0, 5, false, [], 0, false, 0, false⟩] } }), 0, ⟨0, 0, 0, 0, [], 0, 5, false, [], 0, false, 0, false⟩, by decide +kernel⟩,
   ⟨runWith (fun b => { b with watch := { b.watch with caps := [⟨0, 1, ⟨0, 0, 0, 0, [], 0, 5, true, [], 0, false, 0, false⟩, 0, false, false, 35⟩] } }), 0, ⟨0, 1, ⟨0, 0, 0, 0, [], 0, 5, true, [], 0, false, 0, false⟩, 0, false, false, 35⟩, by decide +kernel⟩⟩

theorem witness_SweepsAreAnnouncedAndSampled :
    (∃ (s : State) (dt t : Nat),
    s.blk.keep.scanned = false ∧ s.blk.twin = false ∧ announces (commitStep (s.begin dt).env (s.begin dt).blk) = true ∧ nextInstant (s.begin dt).env (commitStep (s.begin dt).env (s.begin dt).blk) = some t ∧ judgeInstant (s.begin dt).env (commitStep (s.begin dt).env (s.begin dt).blk) t = .go) ∧
    (∃ (s : State) (dt t : Nat),
    s.blk.keep.scanned = false ∧ s.blk.twin = false ∧ announces (commitStep (s.begin dt).env (s.begin dt).blk) = true ∧ nextInstant (s.begin dt).env (commitStep (s.begin dt).env (s.begin dt).blk) = some t ∧ judgeInstant (s.begin dt).env (commitStep (s.begin dt).env (s.begin dt).blk) t = .late) ∧
    (∃ (s : State) (dt p : Nat),
    s.blk.keep.scanned = false ∧ s.blk.twin = false ∧ announces (commitStep (s.begin dt).env (s.begin dt).blk) = true ∧ (commitStep (s.begin dt).env (s.begin dt).blk).chain.base = some p ∧ s.env.get CHAIN_SWEEP_CTL_SRC = 1 ∧ (commitStep (s.begin dt).env (s.begin dt).blk).chain.pred = [] ∧ 950000 ≤ sdiff32 (s.begin dt).env.clk.ns1 p ∧ 50000 ≤ sdiff32 ((p + 1000000) % 2 ^ 32) (s.begin dt).env.clk.ns1 ∧ (commitStep (s.begin dt).env (s.begin dt).blk).chain.flight.length < 4) ∧
    (∃ (s : State) (dt : Nat) (x : Sweep) (nv uv dqS dqH : Int) (v : List Int),
    s.blk.keep.scanned = false ∧ s.blk.chain.flight.find? (fun y => y.lat.isNone) = some x ∧ seqStep s.blk ≠ 2) ∧
    (∃ (s : State) (dt : Nat),
    s.blk.running = true) ∧
    (∃ (e : Env) (b : Blk),
    mappedEnds b = [0] ∧ b.get CLK_STA_PLLN_LOCK = 1) ∧
    (∃ (s : State) (dt : Nat),
    s.blk.keep.scanned = false ∧ s.blk.chain.edgeT = none ∧ s.blk.get CHAIN_STA_SYNC_LOCKED = 0) ∧
    (∃ (s : State) (dt d : Nat),
    s.blk.keep.scanned = false ∧ syncTimer (s.begin dt).blk = some d ∧ s.env.get CHAIN_SWEEP_CTL_SRC = 1) :=
  ⟨⟨runWith (fun b => b.put CHAIN_ENUM_STA_RESULT 1), 0, 10000 * (CHAIN_SWEEP_CTL_LEAD).reset, by decide +kernel⟩,
   ⟨{ runWith (fun b => { b.put CHAIN_ENUM_STA_RESULT 1 with chain := { b.chain with base := some 0 } }) with clk := ⟨0, 0, 960000 * 2 ^ 24, 0, 0, 0⟩ }, 0, 1000000, by decide +kernel⟩,
   ⟨{ (runWith (fun b => { b.put CHAIN_ENUM_STA_RESULT 1 with chain := { b.chain with base := some 0 } })).having [(CHAIN_SWEEP_CTL_SRC, 1)] with clk := ⟨0, 0, 950000 * 2 ^ 24, 0, 0, 0⟩ }, 0, 0, by decide +kernel⟩,
   ⟨runWith (fun b => { b with chain := { b.chain with flight := [⟨0, 5, false, false, [], false, false, none, [], [], [], [], none⟩] } }), 0, ⟨0, 5, false, false, [], false, false, none, [], [], [], [], none⟩, 0, 0, 0, 0, [1, 2, 3, 4, 5, 6], by decide +kernel⟩,
   ⟨runWith (fun b => { b with chain := { b.chain with map := [1, 0, 0, 0] } }), 0, by decide +kernel⟩,
   ⟨run.env, (runWith (fun b => { b.put CLK_STA_PLLN_LOCK 1 with chain := { b.chain with map := [1, 0, 0, 0] } })).blk, by decide +kernel⟩,
   ⟨run, 0, by decide +kernel⟩,
   ⟨(runWith (fun b => { b.put CHAIN_SYNC_PERIOD_VALUE 1000 with chain := { b.chain with edgeT := some 0 } })).having [(CHAIN_SWEEP_CTL_SRC, 1)], 0, 400, by decide +kernel⟩⟩

theorem witness_SweepDataIsCollectedAndClosed :
    (∃ (s : State) (dt p id : Nat) (endB : Bool) (isup : Option (Nat × Int)) (f : List Byte) (d : SwData) (x : Sweep),
    s.blk.running = true ∧ s.blk.twin = false ∧ sweepParse isup f = some (p, id, d) ∧ s.blk.chain.flight.find? (fun y => y.id == id && y.lat.isSome) = some x ∧ x.has p = false ∧ chainRoom s.blk = true) ∧
    (∃ (s : State) (dt p : Nat) (endB : Bool),
    s.blk.running = true ∧ (ringEnds s.blk (ringOf p)).contains (2 * ringOf p + boolBit endB) = true ∧ reaches s.blk (2 * ringOf p + boolBit endB) p = true) ∧
    (∃ (e : Env) (b : Blk) (p : Nat) (endB : Bool) (x : Sweep),
    b.chain.flight.find? (fun y => y.lat.isSome && !y.has p) = some x ∧ x.retries = [] ∧ retryNs (countBad endB p b) p ≤ 20000) ∧
    (∃ (s : State) (dt p : Nat) (x : Sweep),
    s.blk.keep.scanned = false ∧ s.blk.chain.flight.find? (fun y => y.retries.any (fun r => r.pos == p && !r.done && (decide (4 ≤ r.n) || decide (r.at_ + us 20 ≤ (s.begin dt).clk.now)))) = some x) ∧
    (∃ (s : State) (dt p id : Nat) (hd : TwHdr) (f : List Byte) (d : SwData) (l : TwLane),
    s.blk.keep.scanned = false ∧ s.blk.running = true ∧ s.blk.twin = true ∧ s.blk.tw.lanes[hd.lane]? = some l ∧ 2 ≤ s.blk.get (laneFld hd.lane) ∧ hd.crcOk = true ∧ hd.seq = (l.rxSeq + 1) % 65536 ∧ sweepParse none f = some (p, id, d)) ∧
    (∃ (s : State) (dt : Nat) (x : Sweep),
    s.blk.running = true ∧ s.blk.chain.flight = [x] ∧ x.lat ≠ none ∧ closable (s.begin dt).env (s.begin dt).blk x = true) :=
  ⟨⟨runWith (fun b => { b with chain := { b.chain with flight := [⟨7, 5, false, false, [], false, false, some ⟨5, 0, 0, 0, 0, 0, []⟩, [], [], [], [], none⟩] } }), 0, 3, 7, false, none, chainFrame 3 0x83 0 ([7#8] ++ List.replicate 42 0#8), ⟨0, 0, List.replicate 16 0, 0, 0, 0, 0, none⟩, ⟨7, 5, false, false, [], false, false, some ⟨5, 0, 0, 0, 0, 0, []⟩, [], [], [], [], none⟩, by decide +kernel⟩,
   ⟨runWith (fun b => { b with chain := { b.chain with map := [1, 2, 0, 0], cmus := [{ CmuRec.absent with index := some 0 }] } }), 0, 0, false, by decide +kernel⟩,
   ⟨run.env, (runWith (fun b => { b with chain := { b.chain with flight := [⟨7, 5, false, false, [], false, false, some ⟨5, 0, 0, 0, 0, 0, []⟩, [], [], [], [], none⟩] } })).blk, 3, true, ⟨7, 5, false, false, [], false, false, some ⟨5, 0, 0, 0, 0, 0, []⟩, [], [], [], [], none⟩, by decide +kernel⟩,
   ⟨runWith (fun b => { b with chain := { b.chain with flight := [⟨7, 5, false, false, [], false, false, some ⟨5, 0, 0, 0, 0, 0, []⟩, [], [], [⟨3, 0, 4, false⟩], [], none⟩] } }), 0, 3, ⟨7, 5, false, false, [], false, false, some ⟨5, 0, 0, 0, 0, 0, []⟩, [], [], [⟨3, 0, 4, false⟩], [], none⟩, by decide +kernel⟩,
   ⟨runWith (fun b => { b.put TWIN_LANE_STA_L0 2 with twin := true, tw := { b.tw with lanes := [⟨0, 0, 0, [], [], [], [], none, none⟩] } }), 0, 3, 7, ⟨0, 1, 0, (0, 0), true⟩, chainFrame 3 0x83 0 ([7#8] ++ List.replicate 42 0#8), ⟨0, 0, List.replicate 16 0, 0, 0, 0, 0, none⟩, ⟨0, 0, 0, [], [], [], [], none, none⟩, by decide +kernel⟩,
   ⟨runWith (fun b => { b with chain := { b.chain with flight := [⟨7, 5, false, false, [], false, false, some ⟨5, 0, 0, 0, 0, 0, []⟩, [], [], [], [], none⟩] } }), 0, ⟨7, 5, false, false, [], false, false, some ⟨5, 0, 0, 0, 0, 0, []⟩, [], [], [], [], none⟩, by decide +kernel⟩⟩

theorem witness_ChainBreaksAndTones :
    (∃ (s : State) (dt port n : Nat),
    s.blk.running = true ∧ endOfPort s.blk port = some n) ∧
    (∃ (s : State) (dt port n : Nat),
    s.blk.phase = .warmBoot ∧ s.blk.keep.scanned = false ∧ endOfPort s.blk port = some n) ∧
    (∃ (s : State) (dt : Nat),
    s.blk.keep.scanned = false ∧ s.blk.get CHAIN_BREAK_1_FIRST = 255 ∧ s.blk.get CHAIN_BREAK_1_SECOND = 255 ∧ s.blk.chain.notices = [] ∧ seenTwice s.blk 0 4 = false) ∧
    (∃ (s : State) (dt : Nat),
    s.blk.keep.scanned = false ∧ s.blk.get CHAIN_BREAK_1_FIRST = 255 ∧ s.blk.get CHAIN_BREAK_1_SECOND = 255 ∧ s.blk.chain.notices = [] ∧ seenTwice s.blk 0 4 = true) ∧
    (∃ (s : State) (dt a : Nat) (found : List (Nat × Nat × Nat × Nat × Nat)),
    s.blk.running = true ∧ s.blk.role = .standby ∧ s.blk.chain.noticeAt = [(0, a)] ∧ a + ms 1 ≤ (s.begin dt).clk.now ∧ s.blk.get CHAIN_BREAK_1_FIRST = 4 ∧ s.blk.get CHAIN_BREAK_1_SECOND = 255) ∧
    (∃ (s : State) (dt a : Nat),
    s.blk.running = true ∧ s.blk.role ≠ .standby ∧ s.blk.holdup = false ∧ s.blk.chain.noticeAt = [(0, a)] ∧ a + ms 1 ≤ (s.begin dt).clk.now ∧ s.blk.get CHAIN_BREAK_1_FIRST = 4 ∧ s.blk.get CHAIN_BREAK_1_SECOND = 255 ∧ s.blk.get CHAIN_BREAK_2_FIRST = 255) ∧
    (∃ (s : State) (dt p : Nat) (m : CmuRec),
    s.blk.keep.scanned = false ∧ cmuAt s.blk p = some m ∧ m.tones = 0 ∧ m.serves = none) :=
  ⟨⟨runWith (fun b => { b with chain := { b.chain with map := [1, 2, 3, 4] } }), 0, 4, 3, by decide +kernel⟩,
   ⟨runWith (fun b => { b with phase := .warmBoot, chain := { b.chain with map := [1, 2, 3, 4] } }), 0, 4, 3, by decide +kernel⟩,
   ⟨runWith (fun b => (b.put CHAIN_BREAK_1_FIRST 255).put CHAIN_BREAK_1_SECOND 255), 0, by decide +kernel⟩,
   ⟨runWith (fun b => { (b.put CHAIN_BREAK_1_FIRST 255).put CHAIN_BREAK_1_SECOND 255 with chain := { b.chain with count := 36, map := [1, 2, 3, 4] } }), 0, by decide +kernel⟩,
   ⟨runWith (fun b => { (b.put CHAIN_BREAK_1_FIRST 4).put CHAIN_BREAK_1_SECOND 255 with role := .standby, twin := true, chain := { b.chain with noticeAt := [(0, 0)] } }), 200000, 0, [], by decide +kernel⟩,
   ⟨runWith (fun b => { ((b.put CHAIN_BREAK_1_FIRST 4).put CHAIN_BREAK_1_SECOND 255).put CHAIN_BREAK_2_FIRST 255 with chain := { b.chain with noticeAt := [(0, 0)] } }), 200000, 0, by decide +kernel⟩,
   ⟨run, 0, 36, (run.blk.chain.cmus[36]?).getD CmuRec.absent, by decide +kernel⟩⟩

theorem witness_EnumerationAndAuthentication :
    (∃ (s : State) (dt : Nat),
    s.blk.running = true ∧ s.blk.role ≠ .standby ∧ s.blk.mode = .isolated ∧ s.blk.holdup = false ∧ s.blk.get TWIN_STA_TAKEOVER_HOLD = 0 ∧ s.blk.chain.enum = none) ∧
    (∃ (s : State) (dt a : Nat),
    s.blk.keep.scanned = false ∧ s.blk.chain.enum = some ⟨a, none⟩ ∧ s.env.get CHAIN_CMU_COUNT_COUNT = 36 ∧ s.blk.get CHAIN_ENUM_STA_RESULT = 0 ∧ s.blk.chain.wait = [] ∧ s.blk.holdup = false ∧ s.blk.phase = .run) ∧
    (∃ (s : State) (dt a : Nat),
    s.blk.keep.scanned = false ∧ s.blk.chain.enum = some ⟨a, none⟩ ∧ s.blk.get CHAIN_ENUM_STA_RESULT = 1 ∧ s.env.get CHAIN_CMU_COUNT_COUNT = 36 ∧ s.blk.phase = .run) ∧
    (∃ (e : Env) (b : Blk) (c : AddrCommit) (a t res n1 n2 : Nat),
    b.chain.commit = some c ∧ c.at_ = some t ∧ t ≤ e.now ∧ b.chain.enum = some ⟨a, some (res, n1, n2)⟩ ∧ res ≤ 4 ∧ n1 ≤ 63 ∧ n2 ≤ 63) ∧
    (∃ (s : State) (dt p ra rb ta : Nat) (m : CmuRec),
    s.blk.running = true ∧ s.blk.chain.echo = [] ∧ s.blk.role ≠ .standby ∧ cmuAt s.blk p = some m ∧ m.hopA = echoLatency ra ta ∧ m.hopB = echoLatency rb ta) ∧
    (∃ (s : State) (dt p serial n d : Nat) (mac : List Byte) (m : CmuRec),
    s.blk.keep.scanned = false ∧ cmuAt s.blk p = some m ∧ m.nonce = some (n, d) ∧ s.blk.keep.keys = []) ∧
    (∃ (s : State) (dt p n d : Nat) (m : CmuRec),
    s.blk.keep.scanned = false ∧ cmuAt s.blk p = some m ∧ m.nonce = some (n, d)) ∧
    (∃ (s : State) (dt p : Nat) (m : CmuRec),
    s.blk.running = true ∧ s.blk.holdup = false ∧ s.blk.role ≠ .standby ∧ s.blk.mode = .isolated ∧ cmuAt s.blk p = some m ∧ m.state = 4) ∧
    (∃ (s : State) (dt p w : Nat) (m : CmuRec),
    s.blk.running = true ∧ s.blk.holdup = false ∧ s.blk.role ≠ .standby ∧ s.blk.mode = .isolated ∧ cmuAt s.blk p = some m ∧ m.state = 4 ∧ m.serial % 65536 ≠ w) :=
  ⟨⟨run, 0, by decide +kernel⟩,
   ⟨run |> (fun s => { s with blk := { s.blk with chain := { s.blk.chain with enum := some ⟨0, none⟩ } } }), 0, 0, by decide +kernel⟩,
   ⟨runWith (fun b => { b.put CHAIN_ENUM_STA_RESULT 1 with chain := { b.chain with enum := some ⟨0, none⟩ } }), 0, 0, by decide +kernel⟩,
   ⟨run.env, { run.blk with chain := { run.blk.chain with commit := some ⟨some 0, [], 36, [1, 2, 3, 4]⟩, enum := some ⟨0, some (2, 0, 0)⟩ } }, ⟨some 0, [], 36, [1, 2, 3, 4]⟩, 0, 0, 2, 0, 0, by decide +kernel⟩,
   ⟨run, 0, 36, 0, 0, 0, (run.blk.chain.cmus[36]?).getD CmuRec.absent, by decide +kernel⟩,
   ⟨runWith (fun b => { b with chain := { b.chain with cmus := [{ CmuRec.absent with nonce := some (0, 5) }] } }), 0, 0, 1, 0, 5, [], { CmuRec.absent with nonce := some (0, 5) }, by decide +kernel⟩,
   ⟨runWith (fun b => { b with chain := { b.chain with cmus := [{ CmuRec.absent with nonce := some (0, 5) }] } }), 0, 0, 0, 5, { CmuRec.absent with nonce := some (0, 5) }, by decide +kernel⟩,
   ⟨runWith (fun b => { b with chain := { b.chain with cmus := [{ CmuRec.absent with state := 4, serial := 70000 }] } }), 0, 0, { CmuRec.absent with state := 4, serial := 70000 }, by decide +kernel⟩,
   ⟨runWith (fun b => { b with chain := { b.chain with cmus := [{ CmuRec.absent with state := 4, serial := 70000 }] } }), 0, 0, 1, { CmuRec.absent with state := 4, serial := 70000 }, by decide +kernel⟩⟩

theorem witness_DiagnosticSlots :
    (∃ (s : State) (dt t : Nat) (b1 : Blk),
    s.blk.keep.scanned = false ∧ diagRuns (s.begin dt).blk = true ∧ s.blk.chain.owPlan = none ∧ s.blk.chain.owSince + ms (10 * s.env.get CHAIN_OW_CFG_PERIOD) ≤ (s.begin dt).clk.now ∧ owFree (s.begin dt).env (s.begin dt).blk t = true ∧ chainNow (s.begin dt).env (owReq (s.begin dt).blk t (owPositions (s.begin dt).blk)) (s.begin dt).blk = (true, b1)) ∧
    (∃ (s : State) (dt t : Nat),
    s.blk.keep.scanned = false ∧ diagRuns (s.begin dt).blk = true ∧ s.blk.chain.owPlan = none ∧ s.blk.chain.owSince + ms (10 * s.env.get CHAIN_OW_CFG_PERIOD) ≤ (s.begin dt).clk.now ∧ owFree (s.begin dt).env (s.begin dt).blk t = false) ∧
    (∃ (s : State) (dt : Nat) (x : Sweep) (b1 : Blk),
    s.blk.keep.scanned = false ∧ diagRuns (s.begin dt).blk = true ∧ s.blk.chain.owPlan = none ∧ s.blk.chain.owSince + ms (10 * s.env.get CHAIN_OW_CFG_PERIOD) + sec (s.env.get CHAIN_OW_CFG_DEFER) ≤ (s.begin dt).clk.now ∧ s.blk.chain.flight.find? (fun y => y.lat.isNone && decide (50000 ≤ sdiff32 y.t (s.begin dt).env.clk.ns1)) = some x ∧ chainNow (s.begin dt).env (owReq (s.begin dt).blk x.t (owPositions (s.begin dt).blk)) (s.begin dt).blk = (true, b1)) ∧
    (∃ (s : State) (dt t : Nat) (took : Bool),
    s.blk.keep.scanned = false ∧ s.blk.chain.owPlan = some (t, took)) ∧
    (∃ (s : State) (dt t p : Nat) (b1 : Blk),
    s.blk.keep.scanned = false ∧ diagRuns (s.begin dt).blk = true ∧ s.env.get LEDGER_RIPPLE_F ≠ 0 ∧ s.blk.chain.burst = none ∧ 50000 ≤ sdiff32 t (s.begin dt).env.clk.ns1 ∧ s.blk.chain.capFrom + sec 10 ≤ (s.begin dt).clk.now ∧ chainNow (s.begin dt).env (reqAll (s.begin dt).blk 0x0A (leBytes 4 t ++ leBytes 8 (posBits [p]))) (s.begin dt).blk = (true, b1)) ∧
    (∃ (s : State) (dt p g : Nat) (cells : List (Nat × List Nat)) (cur : List Int) (u : BurstRun),
    s.blk.keep.scanned = false ∧ s.blk.chain.burst = some u ∧ u.poss = [p] ∧ (cmuAt s.blk p).bind CmuRec.serves = some g ∧ rippleAmp (s.env.get LEDGER_RIPPLE_F) (burstSamples cells cur) < 1000 * s.env.get LEDGER_RIPPLE_MIN) :=
  ⟨⟨runWith (fun b => { b.put CLK_STA_PLLN_LOCK 1 with chain := { b.chain with map := [1, 2, 0, 0] } }), ms (10 * CHAIN_OW_CFG_PERIOD.reset), ((run.begin (ms (10 * CHAIN_OW_CFG_PERIOD.reset))).env.clk.ns1 + 50000) % 2 ^ 32, (chainNow ((runWith (fun b => { b.put CLK_STA_PLLN_LOCK 1 with chain := { b.chain with map := [1, 2, 0, 0] } })).begin (ms (10 * CHAIN_OW_CFG_PERIOD.reset))).env (owReq ((runWith (fun b => { b.put CLK_STA_PLLN_LOCK 1 with chain := { b.chain with map := [1, 2, 0, 0] } })).begin 0).blk (((run.begin (ms (10 * CHAIN_OW_CFG_PERIOD.reset))).env.clk.ns1 + 50000) % 2 ^ 32) []) ((runWith (fun b => { b.put CLK_STA_PLLN_LOCK 1 with chain := { b.chain with map := [1, 2, 0, 0] } })).begin 0).blk).2, by decide +kernel⟩,
   ⟨run, ms (10 * CHAIN_OW_CFG_PERIOD.reset), (run.begin (ms (10 * CHAIN_OW_CFG_PERIOD.reset))).env.clk.ns1 % 2 ^ 32, by decide +kernel⟩,
   ⟨(runWith (fun b => { b.put CLK_STA_PLLN_LOCK 1 with chain := { b.chain with map := [1, 2, 0, 0], flight := [⟨0, ((run.begin (ms (10 * CHAIN_OW_CFG_PERIOD.reset) + sec CHAIN_OW_CFG_DEFER.reset)).env.clk.ns1 + 400000) % 2 ^ 32, false, false, [], false, false, none, [], [], [], [], none⟩] } })), (ms (10 * CHAIN_OW_CFG_PERIOD.reset) + sec CHAIN_OW_CFG_DEFER.reset), ⟨0, ((run.begin (ms (10 * CHAIN_OW_CFG_PERIOD.reset) + sec CHAIN_OW_CFG_DEFER.reset)).env.clk.ns1 + 400000) % 2 ^ 32, false, false, [], false, false, none, [], [], [], [], none⟩, (chainNow ((runWith (fun b => { b.put CLK_STA_PLLN_LOCK 1 with chain := { b.chain with map := [1, 2, 0, 0], flight := [⟨0, ((run.begin (ms (10 * CHAIN_OW_CFG_PERIOD.reset) + sec CHAIN_OW_CFG_DEFER.reset)).env.clk.ns1 + 400000) % 2 ^ 32, false, false, [], false, false, none, [], [], [], [], none⟩] } })).begin (ms (10 * CHAIN_OW_CFG_PERIOD.reset) + sec CHAIN_OW_CFG_DEFER.reset)).env (owReq ((runWith (fun b => { b.put CLK_STA_PLLN_LOCK 1 with chain := { b.chain with map := [1, 2, 0, 0], flight := [⟨0, ((run.begin (ms (10 * CHAIN_OW_CFG_PERIOD.reset) + sec CHAIN_OW_CFG_DEFER.reset)).env.clk.ns1 + 400000) % 2 ^ 32, false, false, [], false, false, none, [], [], [], [], none⟩] } })).begin 0).blk (((run.begin (ms (10 * CHAIN_OW_CFG_PERIOD.reset) + sec CHAIN_OW_CFG_DEFER.reset)).env.clk.ns1 + 400000) % 2 ^ 32) []) ((runWith (fun b => { b.put CLK_STA_PLLN_LOCK 1 with chain := { b.chain with map := [1, 2, 0, 0], flight := [⟨0, ((run.begin (ms (10 * CHAIN_OW_CFG_PERIOD.reset) + sec CHAIN_OW_CFG_DEFER.reset)).env.clk.ns1 + 400000) % 2 ^ 32, false, false, [], false, false, none, [], [], [], [], none⟩] } })).begin 0).blk).2, by decide +kernel⟩,
   ⟨runWith (fun b => { b with chain := { b.chain with owPlan := some (5, true) } }), 0, 5, true, by decide +kernel⟩,
   ⟨(runWith (fun b => { b.put CLK_STA_PLLN_LOCK 1 with chain := { b.chain with map := [1, 2, 0, 0] } })).having [(LEDGER_RIPPLE_F, 1000)], 2000000000, ((run.begin 2000000000).env.clk.ns1 + 50000) % 2 ^ 32, 3, (chainNow (((runWith (fun b => { b.put CLK_STA_PLLN_LOCK 1 with chain := { b.chain with map := [1, 2, 0, 0] } })).having [(LEDGER_RIPPLE_F, 1000)]).begin 2000000000).env (reqAll ((runWith (fun b => { b.put CLK_STA_PLLN_LOCK 1 with chain := { b.chain with map := [1, 2, 0, 0] } })).begin 0).blk 0x0A (leBytes 4 (((run.begin 2000000000).env.clk.ns1 + 50000) % 2 ^ 32) ++ leBytes 8 (posBits [3]))) ((runWith (fun b => { b.put CLK_STA_PLLN_LOCK 1 with chain := { b.chain with map := [1, 2, 0, 0] } })).begin 0).blk).2, by decide +kernel⟩,
   ⟨(runWith (fun b => { b with chain := { b.chain with burst := some ⟨0, 0, [0], true⟩, cmus := [{ CmuRec.absent with serves := some 0 }] } })).having [(LEDGER_RIPPLE_MIN, 10)], 0, 0, 0, [], [], ⟨0, 0, [0], true⟩, by decide +kernel⟩⟩

theorem witness_LedgerAndShuttleCommands :
    (∃ (s : State) (dt held : Nat) (i : Int),
    s.blk.keep.scanned = false ∧ s.blk.mode = .connected ∧ 0 ≤ i ∧ 105 * (s.blk.get LEDGER_LIM_CHG_LIMIT : Int) + 1000000 < 100 * i ∧ 2000000 ≤ held) ∧
    (∃ (s : State) (dt d : Nat),
    s.blk.running = true ∧ s.blk.holdup = false ∧ s.blk.ledger.jrnAt = some d) ∧
    (∃ (s : State) (dt : Nat),
    s.blk.running = true ∧ 100 ≤ s.blk.shuttle.frames ∧ s.blk.role ≠ .standby) ∧
    (∃ (s : State) (dt : Nat),
    s.blk.running = true ∧ 100 ≤ s.blk.shuttle.frames ∧ s.blk.role = .standby ∧ s.blk.tw.mir = none) ∧
    (∃ (s : State) (dt : Nat),
    s.blk.keep.scanned = false ∧ s.blk.shuttle.frames < 100 ∧ s.blk.role ≠ .standby) ∧
    (∃ (s : State) (dt p : Nat) (endB : Bool) (f q : List Byte) (x : Xfer),
    s.blk.keep.scanned = false ∧ shFrame s.blk endB p 0x90 4 f = some q ∧ leVal (slice q 3 1) = 0 ∧ s.blk.shuttle.xfers.find? (fun y => y.tid == leVal (slice q 0 2) && y.poss.contains p) = some x ∧ x.slotD.map (· / 4) = some p) ∧
    (∃ (s : State) (dt p : Nat) (endB : Bool) (f q : List Byte) (x : Xfer),
    s.blk.keep.scanned = false ∧ shFrame s.blk endB p 0x91 6 f = some q ∧ s.blk.shuttle.xfers.find? (fun y => y.tid == leVal (slice q 0 2) && y.poss.contains p) = some x ∧ leVal (slice q 2 4) < x.q ∧ x.whole = true) ∧
    (∃ (s : State) (dt p g : Nat) (endB : Bool) (f q : List Byte) (m : CmuRec),
    s.blk.keep.scanned = false ∧ shFrame s.blk endB p 0x92 145 f = some q ∧ cmuAt s.blk p = some m ∧ m.serves = some g ∧ s.blk.shuttle.reps = [] ∧ s.blk.shuttle.xfers = []) ∧
    (∃ (s : State) (dt p : Nat) (m : CmuRec),
    s.blk.running = true ∧ s.blk.role ≠ .standby ∧ cmuAt s.blk p = some m ∧ m.state = 2 ∧ reportDue (s.begin dt).env (s.begin dt).blk p = true) ∧
    (∃ (s : State) (dt tid : Nat) (x : Xfer),
    s.blk.keep.scanned = false ∧ s.blk.shuttle.xfers.find? (fun y => y.tid == tid) = some x ∧ x.ackD = false ∧ x.st = 1 ∧ x.startAt ≤ (s.begin dt).clk.now + us 100) ∧
    (∃ (s : State) (dt t : Nat),
    s.blk.keep.scanned = false ∧ s.blk.shuttle.spreadAt = some t ∧ t ≤ (s.begin dt).clk.now) ∧
    (∃ (s : State) (dt : Nat),
    s.blk.keep.scanned = false ∧ (∀ t, s.blk.shuttle.spreadAt = some t → (s.begin dt).clk.now < t)) ∧
    (∃ (s : State) (dt port n : Nat),
    s.blk.keep.scanned = false ∧ endOfPort s.blk port = some n) :=
  ⟨⟨runIn .connected (fun b => b), 0, 2000000, 10001, by decide +kernel⟩,
   ⟨runWith (fun b => { b with ledger := { b.ledger with jrnAt := some 5 } }), 0, 5, by decide +kernel⟩,
   ⟨runWith (fun b => { b with shuttle := { b.shuttle with frames := 100 } }), 0, by decide +kernel⟩,
   ⟨runWith (fun b => { b with role := .standby, shuttle := { b.shuttle with frames := 100 } }), 0, by decide +kernel⟩,
   ⟨runWith (fun b => { b with shuttle := { b.shuttle with frames := 99 } }), 0, by decide +kernel⟩,
   ⟨runWith (fun b => { b with chain := { b.chain with map := [1, 2, 0, 0] }, shuttle := { b.shuttle with xfers := [⟨5, 0, 1, 100, 0, 0, 0, 0, false, 1, some 0, none, false, true, 0, 0, false, false, true, false, false, false⟩] } }), 0, 0, false, chainFrame 0 0x90 0 [5#8, 0#8, 1#8, 0#8], [5#8, 0#8, 1#8, 0#8], ⟨5, 0, 1, 100, 0, 0, 0, 0, false, 1, some 0, none, false, true, 0, 0, false, false, true, false, false, false⟩, by decide +kernel⟩,
   ⟨runWith (fun b => { b with chain := { b.chain with map := [1, 2, 0, 0] }, shuttle := { b.shuttle with xfers := [⟨5, 0, 1, 100, 0, 0, 0, 0, false, 1, some 0, none, false, true, 0, 0, false, false, true, false, false, false⟩] } }), 0, 0, false, chainFrame 0 0x91 0 [5#8, 0#8, 99#8, 0#8, 0#8, 0#8], [5#8, 0#8, 99#8, 0#8, 0#8, 0#8], ⟨5, 0, 1, 100, 0, 0, 0, 0, false, 1, some 0, none, false, true, 0, 0, false, false, true, false, false, false⟩, by decide +kernel⟩,
   ⟨runWith (fun b => { b with chain := { b.chain with map := [1, 2, 0, 0], cmus := [{ CmuRec.absent with serves := some 0 }] } }), 0, 0, 0, false, chainFrame 0 0x92 0 (List.replicate 145 0#8), List.replicate 145 0#8, { CmuRec.absent with serves := some 0 }, by decide +kernel⟩,
   ⟨{ runWith (fun b => { b with chain := { b.chain with cmus := [{ CmuRec.absent with state := 2 }] } }) with clk := ⟨sec 1000, 0, 0, 0, 0, 0⟩ }, 0, 0, { CmuRec.absent with state := 2 }, by decide +kernel⟩,
   ⟨runWith (fun b => { b with shuttle := { b.shuttle with xfers := [⟨5, 0, 1, 100, 0, 0, 0, 0, false, 1, some 0, none, false, true, 0, 0, false, false, true, false, false, false⟩] } }), 0, 5, ⟨5, 0, 1, 100, 0, 0, 0, 0, false, 1, some 0, none, false, true, 0, 0, false, false, true, false, false, false⟩, by decide +kernel⟩,
   ⟨runWith (fun b => { b with shuttle := { b.shuttle with spreadAt := some 5 } }), 5, 5, by decide +kernel⟩,
   ⟨run, 0, by decide +kernel⟩,
   ⟨runWith (fun b => { b with chain := { b.chain with map := [1, 2, 3, 4] } }), 0, 4, 3, by decide +kernel⟩⟩

theorem witness_ThermalEvaluations :
    (∃ (s : State) (dt : Nat),
    s.blk.keep.scanned = false ∧ thermRuns s.blk = true) ∧
    (∃ (s : State) (dt : Nat),
    s.blk.running = true ∧ s.blk.therm.relatch = [] ∧ s.blk.therm.partnerBus = none ∧ s.blk.chain.count = 0 ∧ busReads s.blk = [(0, 250), (1, 260)]) ∧
    (∃ (s : State) (dt : Nat),
    thermRuns s.blk = false) ∧
    (∃ (s : State) (dt : Nat) (ts : List (Option Int)) (m : Option Int),
    s.blk.keep.scanned = false ∧ thermRuns s.blk = true ∧ m = (hottest ((mapIdx (fun n (t : Option Int) => (n, t.filter (fun x => decide (-550 ≤ x) && decide (x ≤ 1500)))) 0 ts).filterMap
       (fun p => p.2.map (fun t => (p.1, t))))).map Prod.snd) ∧
    (∃ (s : State) (dt : Nat) (ts : List (Option Int)) (m : Option Int),
    s.blk.keep.scanned = false ∧ thermRuns s.blk = true ∧ m = (hottest ((mapIdx (fun n (t : Option Int) => (n, t.filter (fun x => decide (-550 ≤ x) && decide (x ≤ 1500)))) 0 ts).filterMap
       (fun p => p.2.map (fun t => (p.1, t))))).map Prod.snd) ∧
    (∃ (s : State) (dt : Nat),
    s.blk.running = true ∧ s.blk.therm.relatch = [] ∧ s.blk.therm.bandSet = false) ∧
    (∃ (s : State) (dt : Nat) (ts : List (Option Int)),
    thermRuns s.blk = false) ∧
    (∃ (s : State) (dt k i : Nat),
    s.blk.keep.scanned = false ∧ thermRuns s.blk = true ∧ inHold s.blk k = true ∧ seriesMode s.blk = false ∧ s.env.get (coilR20 k) = 0) ∧
    (∃ (s : State) (dt k i : Nat) (t : Int),
    s.blk.keep.scanned = false ∧ thermRuns s.blk = true ∧ inHold s.blk k = true ∧ seriesMode s.blk = false ∧ s.env.get (coilR20 k) ≠ 0 ∧ t = 200 + divRound ((((if i = 0 then 65535 else min 65535 (s.blk.get (dutyFld k) * s.blk.get PWR_SUPPLY_VCOIL * 10 / i) : Nat) : Int) -
       s.env.get (coilR20 k)) * 1000000) (s.env.get (coilR20 k) * 393)) ∧
    (∃ (s : State) (dt k i : Nat),
    (thermRuns s.blk = false ∨ inHold s.blk k = false ∨ seriesMode s.blk = true)) ∧
    (∃ (s : State) (dt : Nat) (s0 s4 : Int),
    s.blk.phase = .warmBoot ∧ s.blk.therm.aonDrop = false ∧ ((modCfg s.env).shutdown ≤ s0 ∨ (modCfg s.env).shutdown ≤ s4)) ∧
    (∃ (s : State) (dt : Nat) (s0 s4 : Int),
    s.blk.phase = .warmBoot ∧ s.blk.therm.aonDrop = false ∧ ((modCfg s.env).shutdown ≤ s0 ∨ (modCfg s.env).shutdown ≤ s4)) ∧
    (∃ (s : State) (dt : Nat) (s0 s4 : Int),
    (s.blk.phase ≠ .warmBoot ∨ s.blk.therm.aonDrop = true ∨ (s0 < (modCfg s.env).shutdown ∧ s4 < (modCfg s.env).shutdown))) ∧
    (∃ (s : State) (dt : Nat) (s0 s4 : Int),
    (s.blk.phase ≠ .warmBoot ∨ s.blk.therm.aonDrop = true ∨ (s0 < (modCfg s.env).shutdown ∧ s4 < (modCfg s.env).shutdown))) :=
  ⟨⟨(runWith fun b => (({ b with hvs := { b.hvs with ntcRead := true } }).putInt HVS_NTC_NTC_A 250).putInt HVS_NTC_NTC_B 260), 0, by decide +kernel⟩,
   ⟨(runWith fun b => (({ b with hvs := { b.hvs with ntcRead := true } }).putInt HVS_NTC_NTC_A 250).putInt HVS_NTC_NTC_B 260), 0, by decide +kernel⟩,
   ⟨runWith (fun b => { b with phase := .warmBoot }), 0, by decide +kernel⟩,
   ⟨run, 0, [some 250, none], some 250, by decide +kernel⟩,
   ⟨run, 0, [none, some 1501], none, by decide +kernel⟩,
   ⟨run, 0, by decide +kernel⟩,
   ⟨runWith (fun b => { b with phase := .warmBoot }), 0, [], by decide +kernel⟩,
   ⟨runIn .connected (fun b => b.put SAFE_SW_STATE_KP_CMD 1), 0, 0, 500, by decide +kernel⟩,
   ⟨(runIn .connected (fun b => b.put SAFE_SW_STATE_KN_CMD 1)).having [(THERM_COIL_R20_KN, 1000)], 0, 1, 0, 200 + divRound ((65535 - 1000) * 1000000) (1000 * 393), by decide +kernel⟩,
   ⟨run, 0, 0, 500, by decide +kernel⟩,
   ⟨runWith (fun b => { b with phase := .warmBoot }), 0, 10000, 0, by decide +kernel⟩,
   ⟨runWith (fun b => { b with phase := .warmBoot }), 0, 0, 10000, by decide +kernel⟩,
   ⟨run, 0, 10000, 0, by decide +kernel⟩,
   ⟨runWith (fun b => { b with phase := .warmBoot }), 0, -100, -100, by decide +kernel⟩⟩

theorem witness_SafetyInputsAndReset :
    (∃ (s : State) (dt : Nat) (chs : List (Nat × Bool × Nat)),
    s.blk.phase = .run ∧ s.blk.keep.scanned = false) ∧
    (∃ (s : State) (dt src d : Nat) (rs : List TpsRead),
    s.blk.running = true ∧ s.blk.get SAFE_SI_STATE_EVALUATING = 1 ∧ s.blk.safe.tps = .pulsing ∧ s.blk.safe.tpsBy[src]? = some d) ∧
    (∃ (s : State) (dt src d : Nat) (rs : List TpsRead),
    s.blk.keep.scanned = false ∧ s.blk.get SAFE_SI_STATE_EVALUATING = 0 ∧ s.blk.safe.tps = .pulsing ∧ s.blk.safe.tpsBy[src]? = some d) ∧
    (∃ (s : State) (dt src : Nat) (rs : List TpsRead),
    (s.blk.safe.tps ≠ .pulsing ∨ s.blk.safe.tpsBy[src]? = none)) ∧
    (∃ (s : State) (dt n d : Nat) (p : Pair),
    s.blk.running = true ∧ s.blk.safe.pairs[n]? = some p ∧ p.discBy = some d) ∧
    (∃ (s : State) (dt d : Nat),
    s.blk.running = true ∧ s.blk.safe.evalBy = some d) ∧
    (∃ (s : State) (dt : Nat),
    s.blk.running = true ∧ resetValid (s.begin dt).env (s.begin dt).blk = true) ∧
    (∃ (s : State) (dt t : Nat),
    s.blk.running = true ∧ s.blk.safe.a.high = true ∧ s.blk.safe.a.pressAt = some t ∧ t + sec 3 < (s.begin dt).clk.now) ∧
    (∃ (s : State) (dt : Nat),
    s.blk.running = true ∧ s.blk.safe.a.high = false ∧ s.blk.safe.b.high = false ∧ s.blk.safe.a.lowAt + ms 100 ≤ (s.begin dt).clk.now ∧ s.blk.safe.b.lowAt + ms 100 ≤ (s.begin dt).clk.now) ∧
    (∃ (s : State) (dt t : Nat),
    s.blk.running = true ∧ s.blk.safe.a.high = true ∧ s.blk.safe.a.pressAt = some t ∧ s.blk.safe.b.high = false ∧ t + sec 60 ≤ (s.begin dt).clk.now) ∧
    (∃ (s : State) (dt src held : Nat),
    s.blk.running = true ∧ 1000 ≤ held ∧ tpsPulse (s.begin dt).env (s.begin dt).blk src = false) :=
  ⟨⟨run, 0, [(0, true, 3)], by decide +kernel⟩,
   ⟨runWith (fun b => { b.put SAFE_SI_STATE_EVALUATING 1 with safe := { b.safe with tps := .pulsing, tpsBy := [5, 10] } }), 0, 0, 5, [⟨0, false, false, true, true, true⟩], by decide +kernel⟩,
   ⟨runWith (fun b => { b with safe := { b.safe with tps := .pulsing, tpsBy := [5, 10] } }), 0, 0, 5, [], by decide +kernel⟩,
   ⟨run, 0, 0, [], by decide +kernel⟩,
   ⟨runWith (fun b => { b with safe := { b.safe with pairs := [⟨true, false, false, false, false, some 5⟩] } }), 0, 0, 5, ⟨true, false, false, false, false, some 5⟩, by decide +kernel⟩,
   ⟨runWith (fun b => { b with safe := { b.safe with evalBy := some 5 } }), 0, 5, by decide +kernel⟩,
   ⟨{ runIn .tripped (fun b => { b with safe := { b.safe with a := ⟨false, some 0, some 40000000, false, 0⟩, b := ⟨false, some 0, some 40000000, false, 0⟩ } }) with clk := ⟨40000000, 0, 0, 0, 0, 0⟩ }, 0, by decide +kernel⟩,
   ⟨runWith (fun b => { b with safe := { b.safe with a := ⟨true, some 0, none, false, 0⟩ } }), sec 3 + 1, 0, by decide +kernel⟩,
   ⟨runWith (fun b => { b.put SAFE_SRST_STA_BLOCKED 1 with safe := { b.safe with a := ⟨false, none, some 0, false, 0⟩, b := ⟨false, none, some 5, false, 5⟩ } }), ms 101, by decide +kernel⟩,
   ⟨runWith (fun b => { b with safe := { b.safe with a := ⟨true, some 0, none, false, 0⟩ } }), sec 60, 0, by decide +kernel⟩,
   ⟨run, 0, 1, 1000, by decide +kernel⟩⟩

theorem witness_SafetyOutputsAndCoilChecks :
    (∃ (s : State) (dt n : Nat) (q : Nat × Nat),
    s.blk.running = true ∧ n < 8 ∧ s.blk.role ≠ .standby ∧ s.blk.safe.soBy[n]? = some q ∧ q.1 + q.2 ≤ (s.begin dt).clk.now ∧ soOn (s.begin dt).env (s.begin dt).blk n = true ∧ pulseNear (s.begin dt).env (s.begin dt).blk = false ∧ lsNear (s.begin dt).env (s.begin dt).blk = false) ∧
    (∃ (s : State) (dt n : Nat) (q : Nat × Nat),
    s.blk.running = true ∧ s.blk.role ≠ .standby ∧ s.blk.safe.soBy[n]? = some q ∧ q.1 + q.2 ≤ (s.begin dt).clk.now ∧ (pulseNear (s.begin dt).env (s.begin dt).blk = true ∨ lsNear (s.begin dt).env (s.begin dt).blk = true)) ∧
    (∃ (s : State) (dt n run v : Nat),
    s.blk.running = true ∧ n < 8 ∧ soOn (s.begin dt).env (s.begin dt).blk n = true ∧ 3 ≤ run ∧ v ≤ 300 ∧ v + 300 < s.blk.get PWR_SUPPLY_VCOIL) ∧
    (∃ (s : State) (dt n run v place : Nat),
    s.blk.running = true ∧ n < 8 ∧ soOn (s.begin dt).env (s.begin dt).blk n = false ∧ 100 ≤ run ∧ 300 < v ∧ s.blk.get PWR_SUPPLY_VCOIL ≤ v + 300) ∧
    (∃ (s : State) (dt : Nat),
    s.blk.running = true ∧ s.blk.holdup = false ∧ s.blk.role ≠ .standby ∧ s.blk.mode = .maintenance) ∧
    (∃ (s : State) (dt : Nat),
    s.blk.running = true ∧ s.blk.holdup = false ∧ s.blk.role ≠ .standby ∧ s.blk.mode ≠ .maintenance) ∧
    (∃ (s : State) (dt k : Nat) (high low : Bool) (q : Nat × Nat),
    s.blk.running = true ∧ s.blk.seq.picks = [] ∧ s.blk.role ≠ .standby ∧ s.blk.safe.lsBy = some q ∧ q.1 + q.2 ≤ (s.begin dt).clk.now ∧ nextTestCoil (s.begin dt).blk = some k ∧ testWindow (s.begin dt).env (s.begin dt).blk k = false ∧ pulseNear (s.begin dt).env (s.begin dt).blk = false) ∧
    (∃ (s : State) (dt k : Nat) (low high : Bool),
    s.blk.running = true ∧ k < 3 ∧ readsBack (s.begin dt).env (s.begin dt).blk k = true ∧ seriesMode s.blk = false ∧ inHold s.blk k = true) :=
  ⟨⟨(runWith (fun b => { b.put PWR_STA_VCOIL_OK 1 with safe := { b.safe with soBy := [(0, 0)] } })).having [(SAFE_SO_FUNC_SO 0, 5), (SAFE_SO_HOST_ON, 1)], 0, 0, (0, 0), by decide +kernel⟩,
   ⟨runWith (fun b => { b with seq := { b.seq with pulseEnd := some 0 }, safe := { b.safe with soBy := [(0, 0)] } }), 0, 0, (0, 0), by decide +kernel⟩,
   ⟨(runWith (fun b => (b.put PWR_STA_VCOIL_OK 1).put PWR_SUPPLY_VCOIL 2400)).having [(SAFE_SO_FUNC_SO 0, 5), (SAFE_SO_HOST_ON, 1)], 0, 0, 3, 300, by decide +kernel⟩,
   ⟨runWith (fun b => b.put PWR_SUPPLY_VCOIL 2400), 0, 7, 100, 2100, 0, by decide +kernel⟩,
   ⟨runIn .maintenance (fun b => b), 0, by decide +kernel⟩,
   ⟨run, 0, by decide +kernel⟩,
   ⟨runIn .connected (fun b => { b.put SAFE_SW_STATE_KP_CMD 1 with safe := { b.safe with lsBy := some (0, 0) } }), 0, 0, true, true, (0, 0), by decide +kernel⟩,
   ⟨runIn .connected (fun b => b.put SAFE_SW_STATE_KP_CMD 1), 0, 0, true, true, by decide +kernel⟩⟩

theorem witness_ProcessSafeFrames :
    (∃ (s : State) (dt t : Nat),
    s.blk.running = true ∧ s.blk.holdup = false ∧ s.env.get SAFE_PSF_CID_STA ≠ 0 ∧ s.blk.psf.lastT = none ∧ s.blk.ledger.last.map Lat.t = some t) ∧
    (∃ (s : State) (dt port : Nat),
    s.blk.running = true ∧ s.blk.holdup = false ∧ s.blk.get (PORT_LINK_UP port) = 1) ∧
    (∃ (s : State) (dt port : Nat) (frame : List Byte) (f : EthF),
    s.blk.running = true ∧ s.blk.holdup = false ∧ s.blk.get (PORT_LINK_UP port) = 1 ∧ ethParse frame = some f ∧ f.etype = 0x88B5 ∧ f.dst = portMac s.blk port ∧ f.body.take 1 = [2#8]) ∧
    (∃ (s : State) (dt d : Nat),
    s.blk.running = true ∧ s.blk.psf.skewBy = some d ∧ s.blk.psf.rxPort = 0 ∧ s.blk.psf.lostPort = none) ∧
    (∃ (s : State) (dt d : Nat),
    s.blk.running = true ∧ s.blk.holdup = false ∧ s.blk.psf.wdBy = some d) ∧
    (∃ (s : State) (dt d : Nat),
    s.blk.running = true ∧ s.blk.holdup = false ∧ s.blk.psf.wdStartBy = some d ∧ s.blk.psf.wdBy = none) ∧
    (∃ (s : State) (dt t : Nat),
    s.blk.running = true ∧ s.blk.holdup = false ∧ s.blk.psf.seenB = none ∧ s.blk.psf.seenA = some t ∧ (s.begin dt).clk.now < t + ms (s.env.get SAFE_PSF_TIME_T_SF) ∧ s.blk.psf.lostPort = none) ∧
    (∃ (s : State) (dt t : Nat),
    s.blk.running = true ∧ s.blk.holdup = false ∧ s.blk.psf.singleAt = some t) ∧
    (∃ (s : State) (dt t p : Nat),
    s.blk.keep.scanned = false ∧ s.blk.psf.matchAt = some t ∧ s.blk.psf.lostPort = some p ∧ t + sec 1 ≤ (s.begin dt).clk.now) ∧
    (∃ (s : State) (dt : Nat),
    s.blk.running = true ∧ s.blk.role ≠ .standby ∧ s.blk.mode = .commissioning ∧ s.blk.get SYS_STA_CFG_DEFAULTED = 0 ∧ s.blk.holdup = false) ∧
    (∃ (s : State) (dt v : Nat),
    s.blk.running = true ∧ s.blk.role ≠ .standby ∧ s.blk.mode = .commissioning ∧ s.blk.get SYS_STA_CFG_DEFAULTED = 0 ∧ s.blk.holdup = false ∧ v ≠ s.blk.get SAFE_PCV) ∧
    (∃ (s : State) (dt d : Nat),
    s.blk.running = true ∧ s.blk.twin = false ∧ s.blk.role ≠ .standby ∧ s.blk.safe.pcvBy = some d ∧ s.blk.get SAFE_STA_PCV_CONFIRMED = 0) :=
  ⟨⟨(runWith (fun b => { b with ledger := { b.ledger with last := some ⟨5, 0, 0, 0, 0, 0, []⟩ } })).having [(SAFE_PSF_CID_STA, 1)], 0, 5, by decide +kernel⟩,
   ⟨runWith (fun b => b.put (PORT_LINK_UP 0) 1), 0, 0, by decide +kernel⟩,
   ⟨runWith (fun b => b.put (PORT_LINK_UP 0) 1), 0, 0, (EthF.mk (portMac Blk.reset 0) (portMac Blk.reset 0) none 0x88B5 (2#8 :: List.replicate 45 0#8)).bytes, (ethParse (EthF.mk (portMac Blk.reset 0) (portMac Blk.reset 0) none 0x88B5 (2#8 :: List.replicate 45 0#8)).bytes).getD ⟨[], [], none, 0, []⟩, by decide +kernel⟩,
   ⟨runWith (fun b => { b with psf := { b.psf with skewBy := some 5 } }), 0, 5, by decide +kernel⟩,
   ⟨runWith (fun b => { b with psf := { b.psf with wdBy := some 5 } }), 0, 5, by decide +kernel⟩,
   ⟨runWith (fun b => { b with psf := { b.psf with wdStartBy := some 5 } }), 0, 5, by decide +kernel⟩,
   ⟨runWith (fun b => { b with psf := { b.psf with seenA := some 0 } }), 0, 0, by decide +kernel⟩,
   ⟨runWith (fun b => { b with psf := { b.psf with singleAt := some 0 } }), 0, 0, by decide +kernel⟩,
   ⟨runWith (fun b => { b with psf := { b.psf with matchAt := some 0, lostPort := some 1 } }), sec 1, 0, 1, by decide +kernel⟩,
   ⟨runIn .commissioning (fun b => b), 0, by decide +kernel⟩,
   ⟨runIn .commissioning (fun b => b), 0, 1, by decide +kernel⟩,
   ⟨runWith (fun b => { b with safe := { b.safe with pcvBy := some 5 } }), 0, 5, by decide +kernel⟩⟩

theorem witness_EventsReleasesAndRecords :
    (∃ (s : State) (dt src d : Nat),
    s.blk.keep.scanned = false ∧ holdTimer src s.blk = some d) ∧
    (∃ (s : State) (dt : Nat),
    s.blk.running = true ∧ s.blk.holdup = false ∧ s.blk.watch.errOn = true ∧ s.blk.watch.errSince ≠ (s.begin dt).clk.now) ∧
    (∃ (s : State) (dt : Nat),
    s.blk.running = true ∧ s.blk.holdup = false ∧ s.blk.watch.errSince = (s.begin dt).clk.now ∧ cycleSeen (s.begin dt).env s.blk.watch = true) ∧
    (∃ (s : State) (dt : Nat),
    s.blk.running = true ∧ s.blk.holdup = false ∧ s.blk.watch.errOn = false) ∧
    (∃ (s : State) (dt : Nat),
    s.blk.running = true ∧ s.blk.watch.errOn = true ∧ s.blk.watch.errArmed = true ∧ activeAt s.blk 1 = false ∧ s.blk.watch.errSince + ms 2 ≤ (s.begin dt).clk.now) ∧
    (∃ (s : State) (dt : Nat),
    s.blk.keep.scanned = false ∧ (s.blk.watch.errArmed = false ∨ activeAt s.blk 1 = true ∨ (s.begin dt).clk.now < s.blk.watch.errSince + ms 2)) ∧
    (∃ (s : State) (dt v : Nat) (r : Rec),
    s.blk.running = true ∧ s.blk.holdup = false ∧ s.blk.watch.rrRun = false ∧ s.blk.watch.rrEnd = none ∧ s.blk.watch.cyc = none ∧ s.blk.watch.ffValid = true ∧ s.blk.watch.ff = some r ∧ r.seq = v) ∧
    (∃ (s : State) (dt v : Nat) (r : Rec),
    s.blk.running = true ∧ s.blk.holdup = false ∧ s.blk.watch.rrRun = false ∧ s.blk.watch.rrEnd = none ∧ s.blk.watch.cyc = none ∧ s.blk.watch.ff = some r ∧ r.seq ≠ v) ∧
    (∃ (s : State) (dt n code d0 : Nat),
    s.blk.running = true ∧ s.blk.holdup = false ∧ s.blk.role ≠ .standby ∧ n < 16 ∧ s.env.get (FAULT_SPARE_MAP_PRODUCER n) = 1) ∧
    (∃ (s : State) (dt src code d0 : Nat),
    s.blk.running = true ∧ s.blk.holdup = false ∧ (src < 0xF0 ∨ 0xFF < src ∨ s.env.get (FAULT_SPARE_MAP_PRODUCER (src - 0xF0)) ≠ 1)) ∧
    (∃ (s : State) (dt src code d0 : Nat),
    s.blk.running = true ∧ s.blk.holdup = false ∧ (src < 0xF0 ∨ 0xFF < src ∨ s.env.get (FAULT_SPARE_MAP_PRODUCER (src - 0xF0)) ≠ 1)) ∧
    (∃ (s : State) (dt d : Nat),
    s.blk.keep.scanned = false ∧ s.blk.watch.logAt = some d ∧ s.blk.watch.cache ≠ []) ∧
    (∃ (s : State) (dt who v : Nat),
    s.blk.running = true ∧ s.blk.holdup = false) ∧
    (∃ (s : State) (dt v : Nat),
    s.blk.running = true ∧ s.blk.holdup = false ∧ v ≤ (s.begin dt).clk.ns0 ∧ (s.begin dt).clk.ns0 ≤ v + 1000000000 ∧ (s.begin dt).clk.ns0 < 2 ^ 32) ∧
    (∃ (s : State) (dt v : Nat),
    s.blk.running = true ∧ s.blk.holdup = false ∧ 1000000000 < ((s.begin dt).clk.ns0 + 2 ^ 32 - v % 2 ^ 32) % 2 ^ 32) ∧
    (∃ (s : State) (dt : Nat) (key : List Byte),
    s.blk.running = true ∧ s.blk.holdup = false ∧ s.env.get FAULT_PUSH_CFG_EN = 1 ∧ s.blk.watch.push ≠ [] ∧ (s.blk.watch.pushAt = none ∨ ∃ d, s.blk.watch.pushAt = some d ∧ d + ms 1 ≤ (s.begin dt).clk.now) ∧ keyOf s.blk (s.env.get FAULT_PUSH_CFG_SESSION + 1) = some key) ∧
    (∃ (s : State) (dt : Nat),
    s.blk.keep.scanned = false ∧ s.env.get FAULT_PUSH_CFG_EN = 0) :=
  ⟨⟨runWith (fun b => { b with watch := { b.watch with act := [⟨SRC_SWEEP_LATE, 1, some 5, false⟩] } }), 0, SRC_SWEEP_LATE, 5, by decide +kernel⟩,
   ⟨runWith (fun b => { b with watch := { b.watch with errOn := true } }), 1, by decide +kernel⟩,
   ⟨runWith (fun b => { b with watch := { b.watch with errOn := true, cyc := some ⟨0, false, false, [], none⟩ } }), 0, by decide +kernel⟩,
   ⟨run, 0, by decide +kernel⟩,
   ⟨runWith (fun b => { b with watch := { b.watch with errOn := true, errArmed := true } }), 1000000, by decide +kernel⟩,
   ⟨runWith (fun b => { b with watch := { b.watch with errOn := true } }), 0, by decide +kernel⟩,
   ⟨runWith (fun b => { b with watch := { b.watch with ffValid := true, ff := some ⟨7, 0, 0, 0, 0, false, false, false, false, 0, 0, 0, 0, 0, 0, 0⟩ } }), 0, 7, ⟨7, 0, 0, 0, 0, false, false, false, false, 0, 0, 0, 0, 0, 0, 0⟩, by decide +kernel⟩,
   ⟨runWith (fun b => { b with watch := { b.watch with ffValid := true, ff := some ⟨7, 0, 0, 0, 0, false, false, false, false, 0, 0, 0, 0, 0, 0, 0⟩ } }), 0, 8, ⟨7, 0, 0, 0, 0, false, false, false, false, 0, 0, 0, 0, 0, 0, 0⟩, by decide +kernel⟩,
   ⟨run.having [(FAULT_SPARE_MAP_PRODUCER 3, 1)], 0, 3, 9, 17, by decide +kernel⟩,
   ⟨run, 0, 0x10, 9, 17, by decide +kernel⟩,
   ⟨run, 0, 0xF0, 9, 17, by decide +kernel⟩,
   ⟨runWith (fun b => { b with watch := { b.watch with logAt := some 5, cache := [(0, ⟨7, 0, 0, 0, 0, false, false, false, false, 0, 0, 0, 0, 0, 0, 0⟩)] } }), 0, 5, by decide +kernel⟩,
   ⟨run, 0, 2, 77, by decide +kernel⟩,
   ⟨{ run with clk := ⟨0, 1000 * 2 ^ 24, 0, 0, 3, 0⟩ }, 0, 900, by decide +kernel⟩,
   ⟨run, 0, 1, by decide +kernel⟩,
   ⟨(runWith (fun b => { b with watch := { b.watch with push := [⟨7, 0, 0, 0, 0, false, false, false, false, 0, 0, 0, 0, 0, 0, 0⟩] }, keep := { b.keep with keys := [(1, [1#8])] } })).having [(FAULT_PUSH_CFG_EN, 1)], 0, [1#8], by decide +kernel⟩,
   ⟨run, 0, by decide +kernel⟩⟩

theorem witness_TimersQueuesAndCaptures :
    (∃ (s : State) (dt p ns frac : Nat) (frame : List Byte) (f : EthF),
    s.blk.running = true ∧ s.blk.get (PORT_LINK_UP p) = 1 ∧ ethParse frame = some f ∧ f.etype = 0x88F7 ∧ ptpDst s.blk p f.dst = true ∧ (portQ s.blk p).ptp.length < 16) ∧
    (∃ (s : State) (dt p ns frac : Nat) (frame : List Byte) (f : EthF),
    s.blk.running = true ∧ s.blk.get (PORT_LINK_UP p) = 1 ∧ ethParse frame = some f ∧ f.etype = 0x88F7 ∧ ptpDst s.blk p f.dst = true ∧ 16 ≤ (portQ s.blk p).ptp.length) ∧
    (∃ (s : State) (dt p : Nat),
    s.blk.running = true ∧ s.blk.holdup = false) ∧
    (∃ (s : State) (dt who p w : Nat),
    s.blk.running = true ∧ s.blk.holdup = false ∧ s.blk.role ≠ .standby ∧ lqJudge p (s.env.get (TIME_LQ_PUSH_T p)) w (s.begin dt).env (s.begin dt).blk ≠ .ok) ∧
    (∃ (s : State) (dt who p w : Nat),
    s.blk.running = true ∧ s.blk.holdup = false ∧ s.blk.role ≠ .standby ∧ lqJudge p (s.env.get (TIME_LQ_PUSH_T p)) w (s.begin dt).env (s.begin dt).blk = .ok ∧ (pushC w).imm = true) ∧
    (∃ (s : State) (dt p tag : Nat),
    s.blk.running = true ∧ s.blk.holdup = false ∧ s.blk.role ≠ .standby ∧ tag ≠ 0xFFFF) ∧
    (∃ (s : State) (dt p : Nat),
    s.blk.running = true ∧ s.blk.holdup = false ∧ s.blk.role ≠ .standby) ∧
    (∃ (s : State) (dt p : Nat),
    s.blk.running = true ∧ s.blk.holdup = false ∧ s.blk.role ≠ .standby) ∧
    (∃ (s : State) (dt p k u : Nat) (x : LqE),
    s.blk.running = true ∧ firstEntry (s.begin dt).env (fun x => !x.imm && x.unit.isNone && decide (lqAhead (s.begin dt).env x ≤ 2000)) (portQ s.blk p) = some (k, x) ∧ freeUnit (s.begin dt).env (s.begin dt).blk p = some u) ∧
    (∃ (s : State) (dt p ns frac k : Nat) (x : LqE),
    p < 2 ∧ s.blk.running = true ∧ wayEnd s.blk p ≤ (s.begin dt).clk.now ∧ launchNext (s.begin dt).env (s.begin dt).blk p = some (k, x) ∧ s.blk.get (PORT_LINK_UP p) = 1 ∧ x.telem = false ∧ x.tsReq = false ∧ x.imm = true ∧ x.fill = false ∧ portTxq s.blk p = []) ∧
    (∃ (s : State) (dt p ns frac k : Nat) (x : LqE),
    s.blk.running = true ∧ wayEnd s.blk p ≤ (s.begin dt).clk.now ∧ launchNext (s.begin dt).env (s.begin dt).blk p = some (k, x) ∧ x.imm = true ∧ s.blk.get (PORT_LINK_UP p) = 1 ∧ (s.begin dt).clk.now < wireEnd (ethDrainFrom (bytesPcp x.bytes) (s.begin dt).env p (s.begin dt).blk) p) ∧
    (∃ (s : State) (dt p ns frac k : Nat) (x : LqE),
    s.blk.running = true ∧ wayEnd s.blk p ≤ (s.begin dt).clk.now ∧ launchNext (s.begin dt).env (s.begin dt).blk p = some (k, x) ∧ s.blk.get (PORT_LINK_UP p) = 0) ∧
    (∃ (s : State) (dt p k : Nat) (x : LqE),
    s.blk.running = true ∧ firstEntry (s.begin dt).env (fun x => !x.imm && decide (lqAhead (s.begin dt).env x < -(1000 * s.env.get TIME_LQ_CFG_SLIP : Int))) (portQ s.blk p) = some (k, x) ∧ s.blk.get (PORT_LINK_UP p) = 1) ∧
    (∃ (s : State) (dt g d : Nat),
    s.blk.running = true ∧ (tpOf s.blk g).edgeBy = some d ∧ (tpOf s.blk g).go = true ∧ (tpOf s.blk g).high = false) ∧
    (∃ (s : State) (dt g d : Nat),
    s.blk.running = true ∧ (tpOf s.blk g).edgeBy = some d ∧ (tpOf s.blk g).go = true ∧ (tpOf s.blk g).high = true ∧ tpPeriodic s.env g = false) ∧
    (∃ (s : State) (dt width : Nat),
    s.blk.keep.scanned = false ∧ s.blk.powered = true ∧ s.env.get TIME_TIN_CFG_EN = 1 ∧ s.env.get TIME_TIN_CFG_EDGE = 0 ∧ 20 ≤ width ∧ (s.blk.tim.tinAt = none ∨ ∃ x, s.blk.tim.tinAt = some x ∧ x + 20 ≤ (s.begin dt).clk.now) ∧ s.blk.tim.tin.length < 4) ∧
    (∃ (s : State) (dt width : Nat),
    s.blk.keep.scanned = false ∧ s.blk.powered = true ∧ s.env.get TIME_TIN_CFG_EN = 1 ∧ s.env.get TIME_TIN_CFG_EDGE = 0 ∧ 20 ≤ width ∧ s.blk.tim.tinAt = none ∧ 4 ≤ s.blk.tim.tin.length) ∧
    (∃ (s : State) (dt : Nat),
    s.blk.running = true ∧ s.blk.holdup = false) :=
  ⟨⟨runWith (fun b => b.put (PORT_LINK_UP 1) 1), 0, 1, 5, 0, [0x01#8, 0x1B#8, 0x19#8, 0#8, 0#8, 0#8, 0#8, 0#8, 0#8, 0#8, 0#8, 0#8, 0x88#8, 0xF7#8, 1#8] ++ List.replicate 46 0#8, ⟨[0x01#8, 0x1B#8, 0x19#8, 0#8, 0#8, 0#8], [0#8, 0#8, 0#8, 0#8, 0#8, 0#8], none, 0x88F7, 1#8 :: List.replicate 46 0#8⟩, by decide +kernel⟩,
   ⟨runWith (fun b => { b.put (PORT_LINK_UP 1) 1 with tim := { b.tim with qb := { b.tim.qb with ptp := List.replicate 16 ⟨[], 0, 0, 0, 0⟩ } } }), 0, 1, 5, 0, [0x01#8, 0x1B#8, 0x19#8, 0#8, 0#8, 0#8, 0#8, 0#8, 0#8, 0#8, 0#8, 0#8, 0x88#8, 0xF7#8, 1#8] ++ List.replicate 46 0#8, ⟨[0x01#8, 0x1B#8, 0x19#8, 0#8, 0#8, 0#8], [0#8, 0#8, 0#8, 0#8, 0#8, 0#8], none, 0x88F7, 1#8 :: List.replicate 46 0#8⟩, by decide +kernel⟩,
   ⟨run, 0, 0, by decide +kernel⟩,
   ⟨run, 0, 0, 0, 13, by decide +kernel⟩,
   ⟨run, 0, 0, 0, 2 ^ 13 + 64, by decide +kernel⟩,
   ⟨run, 0, 0, 3, by decide +kernel⟩,
   ⟨run, 0, 0, by decide +kernel⟩,
   ⟨run, 0, 0, by decide +kernel⟩,
   ⟨runWith (fun b => { b with tim := { b.tim with qa := { b.tim.qa with lq := [⟨7, 0, 1000, [], false, false, false, false, none, false⟩] } } }), 0, 0, 0, 0, ⟨7, 0, 1000, [], false, false, false, false, none, false⟩, by decide +kernel⟩,
   ⟨runWith (fun b => { b.put (PORT_LINK_UP 0) 1 with tim := { b.tim with qa := { b.tim.qa with lq := [⟨7, 0, 1000, [], true, false, false, false, none, false⟩] } } }), 0, 0, 0, 0, 0, ⟨7, 0, 1000, [], true, false, false, false, none, false⟩, by decide +kernel⟩,
   ⟨runWith (fun b => { b.put (PORT_LINK_UP 0) 1 with ports := modAt b.ports 0 (fun x => { x with txq := [(0, [5#8])] }), tim := { b.tim with qa := { b.tim.qa with lq := [⟨7, 0, 1000, [], true, false, false, false, none, false⟩] } } }), 0, 0, 0, 0, 0, ⟨7, 0, 1000, [], true, false, false, false, none, false⟩, by decide +kernel⟩,
   ⟨runWith (fun b => { b with tim := { b.tim with qa := { b.tim.qa with lq := [⟨7, 0, 1000, [], true, false, false, false, none, false⟩] } } }), 0, 0, 0, 0, 0, ⟨7, 0, 1000, [], true, false, false, false, none, false⟩, by decide +kernel⟩,
   ⟨{ runWith (fun b => { b.put (PORT_LINK_UP 0) 1 with tim := { b.tim with qa := { b.tim.qa with lq := [⟨7, 0, 1000, [], false, false, false, false, none, false⟩] } } }) with clk := ⟨0, 2000000 * 2 ^ 24, 0, 0, 0, 0⟩ }, 0, 0, 0, ⟨7, 0, 1000, [], false, false, false, false, none, false⟩, by decide +kernel⟩,
   ⟨runWith (fun b => { b with tim := { b.tim with tp0 := { b.tim.tp0 with go := true, edgeBy := some 4 } } }), 0, 0, 4, by decide +kernel⟩,
   ⟨runWith (fun b => { b with tim := { b.tim with tp0 := { b.tim.tp0 with go := true, high := true, edgeBy := some 4 } } }), 0, 0, 4, by decide +kernel⟩,
   ⟨run.having [(TIME_TIN_CFG_EN, 1)], 0, 20, by decide +kernel⟩,
   ⟨(runWith (fun b => { b with tim := { b.tim with tin := List.replicate 4 (0, 0, 0, 0) } })).having [(TIME_TIN_CFG_EN, 1)], 0, 20, by decide +kernel⟩,
   ⟨run, 0, by decide +kernel⟩⟩

theorem witness_PortsLinksAndFlow :
    (∃ (s : State) (dt p : Nat) (g1 mdix pause : Bool) (snr cable : Nat),
    s.blk.running = true ∧ s.blk.holdup = false ∧ s.blk.get CLK_STA_PLLN_LOCK = 1 ∧ p < 2 ∧ s.env.get (PORT_CFG_ADV_2G5 p) = 1 ∧ s.blk.get (PORT_LINK_UP p) = 0) ∧
    (∃ (s : State) (dt p : Nat) (mdix pause : Bool) (snr cable : Nat),
    s.blk.running = true ∧ s.blk.holdup = false ∧ s.blk.get CLK_STA_PLLN_LOCK = 1 ∧ p < 2 ∧ s.env.get (PORT_CFG_ADV_2G5 p) = 1 ∧ s.env.get (PORT_CFG_ADV_1G p) = 1 ∧ s.blk.get (PORT_LINK_UP p) = 0) ∧
    (∃ (s : State) (dt p : Nat),
    physUp s.blk = true ∧ p < 2 ∧ s.blk.get (PORT_LINK_UP p) = 1) ∧
    (∃ (s : State) (dt p d : Nat),
    s.blk.running = true ∧ s.blk.holdup = false ∧ (s.blk.ports[p]?).bind PortS.graceBy = some d ∧ s.blk.get (PORT_LINK_UP p) = 0) ∧
    (∃ (s : State) (dt p : Nat),
    s.blk.running = true ∧ s.blk.holdup = false ∧ s.blk.role ≠ .standby ∧ (s.blk.mode = .connecting ∨ s.blk.mode = .connected)) ∧
    (∃ (s : State) (dt p : Nat),
    s.blk.running = true ∧ s.blk.holdup = false ∧ s.blk.role ≠ .standby ∧ (s.blk.mode = .connecting ∨ s.blk.mode = .connected)) ∧
    (∃ (s : State) (dt p : Nat),
    s.blk.running = true ∧ s.blk.holdup = false ∧ s.blk.role ≠ .standby ∧ s.blk.mode ≠ .connecting ∧ s.blk.mode ≠ .connected) ∧
    (∃ (s : State) (dt p quanta : Nat),
    s.blk.running = true ∧ p < 2 ∧ s.blk.get (PORT_LINK_UP p) = 1) ∧
    (∃ (s : State) (dt p fill : Nat) (x : PortS),
    s.blk.running = true ∧ p < 2 ∧ s.blk.get (PORT_LINK_UP p) = 1 ∧ s.env.get (PORT_CFG_PAUSE_TX p) = 1 ∧ s.blk.ports[p]? = some x ∧ x.pausing = false ∧ 49152 ≤ fill) ∧
    (∃ (s : State) (dt p fill : Nat) (x : PortS),
    s.blk.running = true ∧ p < 2 ∧ s.blk.get (PORT_LINK_UP p) = 1 ∧ s.env.get (PORT_CFG_PAUSE_TX p) = 1 ∧ s.blk.ports[p]? = some x ∧ x.pausing = true ∧ fill ≤ 16384) ∧
    (∃ (s : State) (dt p : Nat) (frame : List Byte) (ok : Bool) (fill : Nat),
    s.blk.running = true ∧ s.blk.holdup = false ∧ p < 2 ∧ s.blk.get (PORT_LINK_UP p) = 1 ∧ (ok = false ∨ frame.length < 60 ∨ 1518 < frame.length)) ∧
    (∃ (s : State) (dt p : Nat) (frame : List Byte) (f : EthF) (k fill : Nat),
    s.blk.running = true ∧ s.blk.holdup = false ∧ p < 2 ∧ s.blk.get (PORT_LINK_UP p) = 1 ∧ 60 ≤ frame.length ∧ frame.length ≤ 1518 ∧ ethParse frame = some f ∧ frameClass s.blk p f = some k ∧ k ≠ 4 ∧ (if k = 2 then portReserve else portBuffer - portReserve) < fill + frame.length) ∧
    (∃ (s : State) (dt p : Nat),
    s.blk.running = true ∧ p < 2) ∧
    (∃ (s : State) (dt p : Nat),
    s.blk.keep.scanned = false) :=
  ⟨⟨runWith (fun b => b.put CLK_STA_PLLN_LOCK 1), 0, 0, true, false, true, 10, 20, by decide +kernel⟩,
   ⟨runWith (fun b => b.put CLK_STA_PLLN_LOCK 1), 0, 1, false, true, 10, 20, by decide +kernel⟩,
   ⟨runWith (fun b => (b.put (PORT_LINK_UP 1) 1).put CLK_STA_PLLN_LOCK 1), 0, 1, by decide +kernel⟩,
   ⟨runWith (fun b => { b with ports := modAt b.ports 0 (fun x => { x with graceBy := some 5 }) }), 0, 0, 5, by decide +kernel⟩,
   ⟨runIn .connected (fun b => b), 0, 0, by decide +kernel⟩,
   ⟨runIn .connecting (fun b => b), 0, 0, by decide +kernel⟩,
   ⟨run, 0, 0, by decide +kernel⟩,
   ⟨runWith (fun b => b.put (PORT_LINK_UP 1) 1), 0, 1, 7, by decide +kernel⟩,
   ⟨(runWith (fun b => b.put (PORT_LINK_UP 1) 1)).having [(PORT_CFG_PAUSE_TX 1, 1)], 0, 1, 50000, (State.reset.blk.ports[1]?).getD ⟨none, none, 0, false, none, [], 0⟩, by decide +kernel⟩,
   ⟨(runWith (fun b => { b.put (PORT_LINK_UP 1) 1 with ports := [⟨none, none, 0, false, none, [], 0⟩, ⟨none, none, 0, true, some 0, [], 0⟩] })).having [(PORT_CFG_PAUSE_TX 1, 1)], 0, 1, 16384, ⟨none, none, 0, true, some 0, [], 0⟩, by decide +kernel⟩,
   ⟨runWith (fun b => b.put (PORT_LINK_UP 1) 1), 0, 1, [], true, 0, by decide +kernel⟩,
   ⟨runWith (fun b => b.put (PORT_LINK_UP 1) 1), 0, 1, [0x01#8, 0x1B#8, 0x19#8, 0#8, 0#8, 0#8, 0#8, 0#8, 0#8, 0#8, 0#8, 0#8, 0x88#8, 0xF7#8] ++ List.replicate 46 0#8, ⟨[0x01#8, 0x1B#8, 0x19#8, 0#8, 0#8, 0#8], [0#8, 0#8, 0#8, 0#8, 0#8, 0#8], none, 0x88F7, List.replicate 46 0#8⟩, 3, 65536, by decide +kernel⟩,
   ⟨run, 0, 1, by decide +kernel⟩,
   ⟨run, 0, 1, by decide +kernel⟩⟩

theorem witness_TwinLanesAndPaths :
    (∃ (s : State) (dt k : Nat) (l : TwLane),
    s.blk.keep.scanned = false ∧ s.blk.powered = true ∧ s.blk.tw.lanes[k]? = some l ∧ l.unacked.any (fun u => decide (max u.2.1 l.ackAt + us 8 ≤ (s.begin dt).clk.now)) = true) ∧
    (∃ (s : State) (dt k : Nat) (l : TwLane),
    s.blk.running = true ∧ s.blk.twin = true ∧ s.blk.tw.lanes[k]? = some l ∧ l.unacked = [] ∧ s.blk.get (laneFld k) ≠ 0) ∧
    (∃ (s : State) (dt k x : Nat) (l : TwLane),
    s.blk.keep.scanned = false ∧ s.blk.powered = true ∧ s.blk.twin = true ∧ s.blk.tw.lanes[k]? = some l ∧ s.blk.get (laneFld k) < 2 ∧ s.blk.get CLK_STA_PLLN_LOCK = 1 ∧ l.failAt = some x ∧ x + ms 100 ≤ (s.begin dt).clk.now) ∧
    (∃ (s : State) (dt k x : Nat) (l : TwLane) (lock : Bool),
    s.blk.keep.scanned = false ∧ s.blk.tw.lanes[k]? = some l ∧ l.failAt = some x ∧ (s.begin dt).clk.now < x + ms 100) ∧
    (∃ (s : State) (dt k x : Nat) (l : TwLane),
    s.blk.keep.scanned = false ∧ s.blk.powered = true ∧ s.blk.get (laneFld k) = 3 ∧ s.blk.tw.lanes[k]? = some l ∧ l.okSince = some x) ∧
    (∃ (s : State) (dt : Nat),
    s.blk.running = true ∧ s.blk.twin = true ∧ s.blk.role = .standby ∧ s.blk.tw.ho = 0) ∧
    (∃ (s : State) (dt : Nat) (hd : TwHdr) (p : List Byte) (l : TwLane),
    s.blk.running = true ∧ s.blk.twin = true ∧ s.blk.tw.lanes[hd.lane]? = some l ∧ hd.crcOk = true ∧ hd.seq ≠ (l.rxSeq + 1) % 65536) ∧
    (∃ (s : State) (dt : Nat) (hd : TwHdr) (p : List Byte) (l : TwLane),
    s.blk.running = true ∧ s.blk.twin = true ∧ s.blk.tw.lanes[hd.lane]? = some l ∧ 2 ≤ s.blk.get (laneFld hd.lane) ∧ hd.crcOk = true ∧ hd.seq = (l.rxSeq + 1) % 65536 ∧ p.length = 32) ∧
    (∃ (s : State) (dt : Nat),
    s.blk.running = true ∧ s.blk.twin = true) ∧
    (∃ (s : State) (dt code pulse : Nat),
    s.blk.running = true ∧ s.blk.twin = true ∧ (pulse < 6000 ∨ 10000 < pulse)) ∧
    (∃ (s : State) (dt code pulse : Nat),
    s.blk.running = true ∧ s.blk.twin = true ∧ (pulse < 6000 ∨ 10000 < pulse)) ∧
    (∃ (s : State) (dt code pulse : Nat),
    s.blk.running = true ∧ s.blk.twin = true ∧ s.blk.get TWIN_STA_FF_PATH_OK = 0 ∧ 6000 ≤ pulse ∧ pulse ≤ 10000 ∧ ((List.range 8).map (fun n => boolBit (bitOf code n))).sum % 2 = 1 ∧ bitOf code 2 = false) ∧
    (∃ (s : State) (dt : Nat),
    s.blk.running = true ∧ s.blk.twin = true ∧ s.blk.get TWIN_STA_TL_PATH_OK = 0 ∧ s.blk.tw.warmUntil = none ∧ s.blk.tw.listenBy = none ∧ s.blk.tw.hbAt = none) ∧
    (∃ (s : State) (dt x : Nat),
    s.blk.running = true ∧ s.blk.twin = true ∧ s.blk.role = .standby ∧ s.blk.get TWIN_STA_TL_PATH_OK = 1 ∧ s.blk.tw.warmUntil = none ∧ s.blk.tw.hbAt = some x ∧ x + ms 3 ≤ (s.begin dt).clk.now) ∧
    (∃ (s : State) (dt x : Nat),
    s.blk.keep.scanned = false ∧ s.blk.tw.hbAt = some x ∧ (s.begin dt).clk.now < x + ms 3) ∧
    (∃ (s : State) (dt x : Nat),
    s.blk.running = true ∧ s.blk.role = .standby ∧ s.blk.get TWIN_STA_PARTNER_SEEN = 1 ∧ s.blk.tw.seenAt = some x) ∧
    (∃ (s : State) (dt x : Nat),
    s.blk.running = true ∧ s.blk.tw.warmUntil = some x) :=
  ⟨⟨{ run with blk := { run.blk with tw := { run.blk.tw with lanes := [⟨0, 0, 0, [(1, 0, .hb [])], [], [], [], none, none⟩] } } }, 2000, 0, ⟨0, 0, 0, [(1, 0, .hb [])], [], [], [], none, none⟩, by decide +kernel⟩,
   ⟨runWith (fun b => { b.put TWIN_LANE_STA_L0 2 with twin := true, tw := { b.tw with lanes := [⟨0, 0, 0, [], [], [], [], none, none⟩] } }), 0, 0, ⟨0, 0, 0, [], [], [], [], none, none⟩, by decide +kernel⟩,
   ⟨runWith (fun b => { b.put CLK_STA_PLLN_LOCK 1 with twin := true, tw := { b.tw with lanes := [⟨0, 0, 0, [], [], [], [], none, some 0⟩] } }), 20000000, 0, 0, ⟨0, 0, 0, [], [], [], [], none, some 0⟩, by decide +kernel⟩,
   ⟨runWith (fun b => { b with twin := true, tw := { b.tw with lanes := [⟨0, 0, 0, [], [], [], [], none, some 0⟩] } }), 0, 0, 0, ⟨0, 0, 0, [], [], [], [], none, some 0⟩, true, by decide +kernel⟩,
   ⟨runWith (fun b => { b.put TWIN_LANE_STA_L0 3 with twin := true, tw := { b.tw with lanes := [⟨0, 0, 0, [], [], [], [], some 7, none⟩] } }), 0, 0, 7, ⟨0, 0, 0, [], [], [], [], some 7, none⟩, by decide +kernel⟩,
   ⟨runWith (fun b => { b with twin := true, role := .standby }), 0, by decide +kernel⟩,
   ⟨runWith (fun b => { b with twin := true, tw := { b.tw with lanes := [⟨0, 0, 0, [], [], [], [], none, none⟩] } }), 0, ⟨0, 7, 0, (0, 0), true⟩, [], ⟨0, 0, 0, [], [], [], [], none, none⟩, by decide +kernel⟩,
   ⟨runWith (fun b => { b.put TWIN_LANE_STA_L0 2 with twin := true, tw := { b.tw with lanes := [⟨0, 0, 0, [], [], [], [], none, none⟩] } }), 0, ⟨0, 1, 0, (0, 0), true⟩, List.replicate 32 0#8, ⟨0, 0, 0, [], [], [], [], none, none⟩, by decide +kernel⟩,
   ⟨runWith (fun b => { b with twin := true }), 0, by decide +kernel⟩,
   ⟨runWith (fun b => { b with twin := true }), 0, 1, 5999, by decide +kernel⟩,
   ⟨runWith (fun b => { b with twin := true }), 0, 1, 10001, by decide +kernel⟩,
   ⟨runWith (fun b => { b with twin := true }), 0, 1, 6000, by decide +kernel⟩,
   ⟨runWith (fun b => { b with twin := true, role := .standby }), 0, by decide +kernel⟩,
   ⟨runWith (fun b => { b.put TWIN_STA_TL_PATH_OK 1 with twin := true, role := .standby, tw := { b.tw with hbAt := some 0 } }), 600000, 0, by decide +kernel⟩,
   ⟨runWith (fun b => { b with tw := { b.tw with hbAt := some 0 } }), 599999, 0, by decide +kernel⟩,
   ⟨runWith (fun b => { b.put TWIN_STA_PARTNER_SEEN 1 with twin := true, role := .standby, tw := { b.tw with seenAt := some 0 } }), 0, 0, by decide +kernel⟩,
   ⟨runWith (fun b => { b with tw := { b.tw with warmUntil := some 9 } }), 0, 9, by decide +kernel⟩⟩

theorem witness_AuthorityAndMirroring :
    (∃ (s : State) (dt x ep : Nat),
    s.blk.running = true ∧ s.blk.tw.listenBy = some x ∧ s.blk.tw.sameId = false ∧ s.blk.tw.heard = some (1, ep)) ∧
    (∃ (s : State) (dt : Nat),
    s.blk.running = true ∧ s.blk.twin = true ∧ s.blk.role = .standby ∧ s.blk.get TWIN_STA_ORPHAN = 0 ∧ s.blk.tw.sameId = false ∧ s.blk.tw.warmUntil = none ∧ s.blk.tw.listenBy = none ∧ (s.blk.tw.relRx ≠ none ∨ bothLost s.blk = true)) ∧
    (∃ (s : State) (dt : Nat),
    s.blk.running = true ∧ s.blk.twin = true ∧ s.blk.role = .standby ∧ s.blk.get TWIN_STA_ORPHAN = 0 ∧ s.blk.tw.sameId = false ∧ s.blk.tw.warmUntil = none ∧ s.blk.tw.listenBy = none ∧ (s.blk.tw.relRx ≠ none ∨ bothLost s.blk = true)) ∧
    (∃ (s : State) (dt : Nat),
    s.blk.keep.scanned = false ∧ s.blk.tw.relRx = none ∧ bothLost s.blk = false) ∧
    (∃ (s : State) (dt x : Nat),
    s.blk.keep.scanned = false ∧ s.blk.powered = true ∧ s.blk.role ≠ .active ∧ s.blk.tw.holdBy = some x) ∧
    (∃ (s : State) (dt x : Nat),
    s.blk.running = true ∧ s.blk.role = .active ∧ s.blk.tw.yieldBy = some x ∧ bothLost s.blk = true) ∧
    (∃ (s : State) (dt x : Nat),
    s.blk.running = true ∧ s.blk.get TWIN_STA_ORPHAN = 1 ∧ s.blk.tw.sameId = false ∧ s.blk.get TWIN_STA_PARTNER_SEEN = 0 ∧ s.blk.tw.unseenAt = some x) ∧
    (∃ (s : State) (dt : Nat),
    s.blk.running = true ∧ s.blk.holdup = false ∧ s.blk.role = .active ∧ handoverOk s.blk = true) ∧
    (∃ (s : State) (dt : Nat),
    s.blk.running = true ∧ s.blk.holdup = false ∧ s.blk.role = .active ∧ s.blk.twin = true ∧ handoverOk s.blk = false) ∧
    (∃ (s : State) (dt : Nat),
    s.blk.running = true ∧ s.blk.role = .active ∧ s.blk.tw.ho = 2 ∧ 2 ≤ s.blk.tw.hoBound) ∧
    (∃ (s : State) (dt : Nat),
    s.blk.keep.scanned = false ∧ s.blk.tw.ho = 0) ∧
    (∃ (s : State) (dt x y : Nat),
    s.blk.running = true ∧ s.blk.role ≠ .standby ∧ s.blk.keep.handReq = some (x, y)) ∧
    (∃ (s : State) (dt x y : Nat),
    s.blk.running = true ∧ s.blk.role = .standby ∧ s.blk.keep.handReq = some (x, y) ∧ y ≠ 0 ∧ y ≤ ((s.begin dt).reach x).clk.now) ∧
    (∃ (s : State) (dt x : Nat),
    s.blk.running = true ∧ s.blk.role = .standby ∧ s.blk.keep.handReq = some (x, 0) ∧ healthBits s.blk = 127) ∧
    (∃ (s : State) (dt : Nat) (hd : TwHdr) (m : Mirror) (l : TwLane),
    s.blk.running = true ∧ s.blk.twin = true ∧ s.blk.tw.lanes[hd.lane]? = some l ∧ hd.crcOk = true ∧ hd.seq ≠ (l.rxSeq + 1) % 65536) ∧
    (∃ (s : State) (dt : Nat) (hd : TwHdr) (m : Mirror) (l : TwLane),
    s.blk.running = true ∧ s.blk.twin = true ∧ s.blk.role = .active ∧ s.blk.tw.lanes[hd.lane]? = some l ∧ 2 ≤ s.blk.get (laneFld hd.lane) ∧ hd.crcOk = true ∧ hd.seq = (l.rxSeq + 1) % 65536 ∧ m.raises = [] ∧ m.hreq = false) ∧
    (∃ (s : State) (dt a : Nat) (hd : TwHdr) (l : TwLane),
    s.blk.running = true ∧ s.blk.twin = true ∧ s.blk.role = .standby ∧ s.blk.tw.lanes[hd.lane]? = some l ∧ 2 ≤ s.blk.get (laneFld hd.lane) ∧ hd.crcOk = true ∧ hd.seq = (l.rxSeq + 1) % 65536 ∧ TIME_TB0_ADDEND.inRange a = true) ∧
    (∃ (s : State) (dt : Nat) (hd : TwHdr) (r : RegPkt),
    s.blk.running = true ∧ s.blk.twin = true ∧ s.blk.role ≠ .standby) :=
  ⟨⟨runWith (fun b => { b with twin := true, role := .standby, tw := { b.tw with listenBy := some 3, heard := some (1, 8) } }), 0, 3, 8, by decide +kernel⟩,
   ⟨runWith (fun b => { b with twin := true, role := .standby, tw := { b.tw with relRx := some 3 } }), 0, by decide +kernel⟩,
   ⟨runWith (fun b => { b with twin := true, role := .standby }), 0, by decide +kernel⟩,
   ⟨runWith (fun b => b.put TWIN_STA_TL_PATH_OK 1), 0, by decide +kernel⟩,
   ⟨runWith (fun b => { b with tw := { b.tw with holdBy := some 9 } }), 0, 9, by decide +kernel⟩,
   ⟨runWith (fun b => { b with twin := true, role := .active, tw := { b.tw with yieldBy := some 9 } }), 0, 9, by decide +kernel⟩,
   ⟨runWith (fun b => { b.put TWIN_STA_ORPHAN 1 with twin := true, role := .standby, tw := { b.tw with unseenAt := some 9 } }), 0, 9, by decide +kernel⟩,
   ⟨runWith (fun b => { ((b.put TWIN_PARTNER_ROLE 2).put TWIN_PARTNER_HEALTHY 1).put TWIN_STA_TL_PATH_OK 1 with twin := true, role := .active }), 0, by decide +kernel⟩,
   ⟨runWith (fun b => { b with twin := true, role := .active }), 0, by decide +kernel⟩,
   ⟨runWith (fun b => { b with twin := true, role := .active, tw := { b.tw with ho := 2, hoBound := 2 } }), 0, by decide +kernel⟩,
   ⟨run, 0, by decide +kernel⟩,
   ⟨runWith (fun b => { b with keep := { b.keep with handReq := some (4, 0) } }), 0, 4, 0, by decide +kernel⟩,
   ⟨runWith (fun b => { b with role := .standby, keep := { b.keep with handReq := some (4, 4) } }), 0, 4, 4, by decide +kernel⟩,
   ⟨runWith (fun b => { ((b.put TWIN_SHADOW_MATCH_RUN 1000).put SAFE_STA_PCV_CONFIRMED 1).put PWR_STA_HOLD_READY 1 with twin := true, role := .standby, tw := { b.tw with aligned := true, mir := some ⟨none, 0, 0, false, [], [false, false, false, false, false], 0, 0, none, [], 0, 0, none, [], none, [], none, false, 0, false, none, none, (false, false), 0, [], ⟨0, [], [], [], [], [], 0⟩⟩ }, keep := { b.keep with handReq := some (4, 0) } }), 0, 4, by decide +kernel⟩,
   ⟨runWith (fun b => { b with twin := true, tw := { b.tw with lanes := [⟨0, 0, 0, [], [], [], [], none, none⟩] } }), 0, ⟨0, 7, 0, (0, 0), true⟩, ⟨none, 0, 0, false, [], [], 0, 0, none, [], 0, 0, none, [], none, [], none, false, 0, false, none, none, (false, false), 0, [], ⟨0, [], [], [], [], [], 0⟩⟩, ⟨0, 0, 0, [], [], [], [], none, none⟩, by decide +kernel⟩,
   ⟨runWith (fun b => { b.put TWIN_LANE_STA_L0 2 with twin := true, role := .active, tw := { b.tw with lanes := [⟨0, 0, 0, [], [], [], [], none, none⟩] } }), 0, ⟨0, 1, 0, (0, 0), true⟩, ⟨none, 0, 0, false, [], [], 0, 0, none, [], 0, 0, none, [], none, [], none, false, 0, false, none, none, (false, false), 0, [], ⟨0, [], [], [], [], [], 0⟩⟩, ⟨0, 0, 0, [], [], [], [], none, none⟩, by decide +kernel⟩,
   ⟨runWith (fun b => { b.put TWIN_LANE_STA_L0 2 with twin := true, role := .standby, tw := { b.tw with lanes := [⟨0, 0, 0, [], [], [], [], none, none⟩] } }), 0, 83886080, ⟨0, 1, 0, (0, 0), true⟩, ⟨0, 0, 0, [], [], [], [], none, none⟩, by decide +kernel⟩,
   ⟨runWith (fun b => { b with twin := true, role := .active }), 0, ⟨0, 1, 0, (0, 0), true⟩, ⟨none, [], none, none⟩, by decide +kernel⟩⟩

theorem witness_RackBusPolling :
    (∃ (s : State) (dt port : Nat),
    s.blk.running = true ∧ s.blk.twin = true ∧ (endOfPort s.blk port).isSome = true) ∧
    (∃ (s : State) (dt n d : Nat),
    s.blk.keep.scanned = false ∧ s.blk.rack.due[n]? = some (some d) ∧ rackPolls s.env s.blk = true ∧ s.env.get (RACK_ENTRY_EN n) = 1 ∧ s.env.get (RACK_ENTRY_WRITE n) = 0 ∧ s.blk.rack.cur = none ∧ s.blk.rack.waiting = []) ∧
    (∃ (s : State) (dt n d : Nat) (x : RTx),
    s.blk.keep.scanned = false ∧ s.blk.rack.due[n]? = some (some d) ∧ rackPolls s.env s.blk = true ∧ s.env.get (RACK_ENTRY_EN n) = 1 ∧ s.env.get (RACK_ENTRY_WRITE n) = 0 ∧ s.blk.rack.cur = some x ∧ x.entry ≠ n ∧ s.blk.rack.waiting = []) ∧
    (∃ (s : State) (dt : Nat) (x : RTx),
    s.blk.keep.scanned = false ∧ s.blk.rack.cur = some x ∧ x.run = true ∧ s.env.get (RACK_ENTRY_WRITE x.entry) = 1) ∧
    (∃ (s : State) (dt : Nat) (bytes : List Byte) (x : RTx),
    s.blk.keep.scanned = false ∧ s.blk.rack.cur = some x ∧ x.run = true) ∧
    (∃ (s : State) (dt : Nat) (x : RTx),
    s.blk.keep.scanned = false ∧ s.blk.rack.cur = some x ∧ x.run = true ∧ x.losses < s.env.get RACK_ARB_CFG_RETRIES) ∧
    (∃ (s : State) (dt d : Nat) (x : RTx),
    s.blk.keep.scanned = false ∧ s.blk.rack.backBy = some d ∧ s.blk.rack.cur = some x ∧ rackPolls s.env s.blk = true ∧ s.blk.get RACK_STA_RECOVERING = 0) ∧
    (∃ (s : State) (dt losses : Nat) (still : Bool),
    s.blk.keep.scanned = false ∧ s.blk.powered = true ∧ rackPolls s.env s.blk = true ∧ busFree (s.begin dt).env s.blk = true ∧ s.blk.owner = true ∧ s.env.get RACK_CFG_ALERT_EN = 1 ∧ s.blk.get RACK_STA_ALERT_PAUSED = 0 ∧ s.blk.rack.alertTurn = false ∧ s.blk.rack.alertRuns = [] ∧ losses ≤ s.env.get RACK_ARB_CFG_RETRIES) ∧
    (∃ (s : State) (dt losses : Nat) (resp : Option (List Byte)) (still : Bool),
    s.blk.keep.scanned = false ∧ s.blk.powered = true ∧ s.env.get RACK_CFG_ALERT_EN = 0) ∧
    (∃ (s : State) (dt hi d : Nat),
    s.blk.keep.scanned = false ∧ s.blk.rack.pauseBy = some d ∧ 10 ≤ hi) ∧
    (∃ (s : State) (dt : Nat) (x : RTx),
    s.blk.running = true ∧ s.blk.holdup = false ∧ s.blk.get RACK_STA_RECOVERING = 0 ∧ s.env.get RACK_CTL_EN = 1 ∧ s.blk.rack.cur = some x ∧ x.run = true) ∧
    (∃ (s : State) (dt : Nat) (released : Bool),
    s.blk.running = true ∧ s.blk.holdup = false ∧ s.env.get RACK_CTL_EN = 1 ∧ s.blk.get RACK_STA_RECOVERING = 0 ∧ s.blk.get RACK_STA_FAULTED = 0 ∧ s.blk.rack.cur = none) ∧
    (∃ (s : State) (dt : Nat) (released : Bool),
    s.blk.running = true ∧ s.blk.holdup = false ∧ s.env.get RACK_CTL_EN = 1 ∧ s.blk.get RACK_STA_RECOVERING = 0 ∧ s.blk.get RACK_STA_FAULTED = 0 ∧ s.blk.rack.cur = none) ∧
    (∃ (s : State) (dt d : Nat),
    s.blk.keep.scanned = false ∧ s.blk.rack.holdBy = some d ∧ s.blk.rack.once = false ∧ s.blk.rack.holds < 4) ∧
    (∃ (s : State) (dt d : Nat),
    s.blk.keep.scanned = false ∧ s.blk.rack.holdBy = some d ∧ s.blk.rack.once = false ∧ 4 ≤ s.blk.rack.holds ∧ s.blk.rack.cur = none) ∧
    (∃ (s : State) (dt d : Nat),
    s.blk.running = true ∧ s.blk.holdup = false ∧ s.env.get RACK_CTL_EN = 1 ∧ s.blk.rack.retryBy = some d) ∧
    (∃ (s : State) (dt : Nat),
    s.blk.keep.scanned = false ∧ s.blk.rack.cur = none) :=
  ⟨⟨runWith (fun b => { b with twin := true, chain := { b.chain with map := [2, 0, 0, 0] } }), 0, 2, by decide +kernel⟩,
   ⟨(runWith (fun b => { b with rack := { b.rack with due := [some 5] } })).having [(RACK_CTL_EN, 1), (RACK_ENTRY_EN 0, 1)], 0, 0, 5, by decide +kernel⟩,
   ⟨(runWith (fun b => { b with rack := { b.rack with due := [some 5], cur := some ⟨3, true, [], 0⟩ } })).having [(RACK_CTL_EN, 1), (RACK_ENTRY_EN 0, 1)], 0, 0, 5, ⟨3, true, [], 0⟩, by decide +kernel⟩,
   ⟨(runWith (fun b => { b with rack := { b.rack with cur := some ⟨3, true, [], 0⟩ } })).having [(RACK_ENTRY_WRITE 3, 1)], 0, ⟨3, true, [], 0⟩, by decide +kernel⟩,
   ⟨runWith (fun b => { b with rack := { b.rack with cur := some ⟨3, true, [], 0⟩ } }), 0, [], ⟨3, true, [], 0⟩, by decide +kernel⟩,
   ⟨(runWith (fun b => { b with rack := { b.rack with cur := some ⟨3, true, [], 0⟩ } })).having [(RACK_ARB_CFG_RETRIES, 3)], 0, ⟨3, true, [], 0⟩, by decide +kernel⟩,
   ⟨(runWith (fun b => { b with rack := { b.rack with cur := some ⟨3, false, [], 1⟩, backBy := some 8 } })).having [(RACK_CTL_EN, 1)], 0, 8, ⟨3, false, [], 1⟩, by decide +kernel⟩,
   ⟨(runWith (fun b => { b with rack := { b.rack with check := false } })).having [(RACK_CTL_EN, 1), (RACK_CFG_ALERT_EN, 1)], 0, 0, true, by decide +kernel⟩,
   ⟨run.having [(RACK_CFG_ALERT_EN, 0)], 0, 0, none, true, by decide +kernel⟩,
   ⟨runWith (fun b => { b with rack := { b.rack with pauseBy := some 6 } }), 0, 10, 6, by decide +kernel⟩,
   ⟨(runWith (fun b => { b with rack := { b.rack with cur := some ⟨3, true, [], 0⟩ } })).having [(RACK_CTL_EN, 1)], 0, ⟨3, true, [], 0⟩, by decide +kernel⟩,
   ⟨run.having [(RACK_CTL_EN, 1)], 0, true, by decide +kernel⟩,
   ⟨run.having [(RACK_CTL_EN, 1)], 0, true, by decide +kernel⟩,
   ⟨runWith (fun b => { b with rack := { b.rack with holdBy := some 6, holds := 1 } }), 0, 6, by decide +kernel⟩,
   ⟨runWith (fun b => { b with rack := { b.rack with holdBy := some 6, holds := 4 } }), 0, 6, by decide +kernel⟩,
   ⟨(runWith (fun b => { b with rack := { b.rack with retryBy := some 6 } })).having [(RACK_CTL_EN, 1)], 0, 6, by decide +kernel⟩,
   ⟨run, 0, by decide +kernel⟩⟩

theorem witness_ImageStoreAndUpdates :
    (∃ (s : State) (dt : Nat),
    s.blk.running = true ∧ s.blk.holdup = false) ∧
    (∃ (s : State) (dt : Nat),
    s.blk.running = true ∧ s.blk.holdup = true) ∧
    (∃ (s : State) (dt : Nat) (x : Stream),
    s.blk.running = true ∧ s.blk.holdup = false ∧ s.blk.keep.stream = some x) ∧
    (∃ (s : State) (dt : Nat) (same handover : Bool),
    s.blk.running = true ∧ s.blk.holdup = false ∧ activateOk (s.begin dt).env same true (s.begin dt).blk = true) ∧
    (∃ (s : State) (dt : Nat) (same handover cold : Bool),
    s.blk.running = true ∧ s.blk.holdup = false ∧ activateOk (s.begin dt).env same cold (s.begin dt).blk = false) ∧
    (∃ (s : State) (dt : Nat) (a : Activate),
    s.blk.running = true ∧ s.blk.keep.act = some a) ∧
    (∃ (s : State) (dt : Nat),
    s.blk.running = true ∧ s.blk.holdup = false ∧ s.blk.mode = .commissioning) ∧
    (∃ (s : State) (dt : Nat),
    s.blk.running = true ∧ s.blk.mode ≠ .commissioning) ∧
    (∃ (s : State) (dt : Nat),
    s.blk.running = true ∧ s.blk.holdup = false) ∧
    (∃ (s : State) (dt line : Nat),
    s.blk.running = true ∧ line < 0x40000 ∧ s.blk.keep.lineFix = [] ∧ (∀ t, s.blk.keep.lineAt = some t → t + us (s.blk.get THERM_STEPS_MOD_PAUSE) ≤ (s.begin dt).clk.now)) ∧
    (∃ (s : State) (dt line : Nat),
    s.blk.running = true ∧ line < 0x40000 ∧ (∀ t, s.blk.keep.lineAt = some t → t + us (s.blk.get THERM_STEPS_MOD_PAUSE) ≤ (s.begin dt).clk.now)) ∧
    (∃ (s : State) (dt line res t : Nat),
    s.blk.running = true ∧ res ≠ 3 ∧ s.blk.keep.lineAt = some t ∧ (s.begin dt).clk.now < t + us (s.blk.get THERM_STEPS_MOD_PAUSE)) ∧
    (∃ (s : State) (dt d : Nat),
    s.blk.running = true ∧ s.blk.keep.paramBy = some d) :=
  ⟨⟨run, 0, by decide +kernel⟩,
   ⟨runWith (fun b => b.put PWR_STA_PSTATE 1), 0, by decide +kernel⟩,
   ⟨runWith (fun b => { b with keep := { b.keep with stream := some ⟨1, [], false, 0, none⟩ } }), 0, ⟨1, [], false, 0, none⟩, by decide +kernel⟩,
   ⟨runWith (fun b => b.put (KEEP_BANK_STATE 1) 2), 0, false, false, by decide +kernel⟩,
   ⟨runWith (fun b => b.put (KEEP_BANK_STATE 1) 1), 0, false, false, false, by decide +kernel⟩,
   ⟨runWith (fun b => { b with keep := { b.keep with act := some ⟨1, false, 0, false, 6, 0⟩ } }), 0, ⟨1, false, 0, false, 6, 0⟩, by decide +kernel⟩,
   ⟨runIn .commissioning (fun b => b), 0, by decide +kernel⟩,
   ⟨run, 0, by decide +kernel⟩,
   ⟨run, 0, by decide +kernel⟩,
   ⟨run, 0, 7, by decide +kernel⟩,
   ⟨run, 0, 7, by decide +kernel⟩,
   ⟨runWith (fun b => { b.put THERM_STEPS_MOD_PAUSE 10 with keep := { b.keep with lineAt := some 0 } }), 0, 7, 1, 0, by decide +kernel⟩,
   ⟨runWith (fun b => { b with keep := { b.keep with paramBy := some 6 } }), 0, 6, by decide +kernel⟩⟩

theorem witness_SecurityStatesAndKeys :
    (∃ (s : State) (dt k : Nat),
    s.blk.running = true ∧ s.blk.holdup = false ∧ s.blk.keep.sec = .opened ∧ s.blk.get KEEP_SEAL_CODE_CODE = s.blk.get SYS_SERIAL_LO ∧ (keyOf s.blk 0).isSome = true ∧ (keyOf s.blk 5).isSome = true ∧ 1 ≤ k ∧ k ≤ 4 ∧ (keyOf s.blk k).isSome = true ∧ (s.blk.mode = .commissioning ∨ s.blk.mode = .isolated) ∧ s.blk.get PWR_STA_HOLD_READY = 1) ∧
    (∃ (s : State) (dt : Nat),
    s.blk.running = true ∧ s.blk.get KEEP_SEAL_CODE_CODE ≠ s.blk.get SYS_SERIAL_LO) ∧
    (∃ (s : State) (dt who : Nat),
    s.blk.running = true ∧ s.blk.holdup = false ∧ s.blk.keep.sec = .isSealed ∧ s.blk.get KEEP_STA_IP_EN = 1 ∧ s.blk.get KEEP_SVC_STA_BLOCKED = 0 ∧ who < 4) ∧
    (∃ (s : State) (dt who w0 w1 w2 w3 : Nat),
    s.blk.running = true ∧ s.blk.keep.nonce = none) ∧
    (∃ (s : State) (dt who till w0 w1 w2 w3 : Nat),
    s.blk.running = true ∧ s.blk.holdup = false ∧ s.blk.keep.nonce = some (who, till) ∧ s.blk.keep.svcResp = [] ∧ (s.begin dt).clk.now ≤ till ∧ svcExpected s.blk who = some (leBytes 4 w0 ++ leBytes 4 w1 ++ leBytes 4 w2 ++ leBytes 4 w3)) ∧
    (∃ (s : State) (dt who till : Nat),
    s.blk.keep.scanned = false ∧ s.blk.keep.nonce = some (who, till) ∧ s.blk.get KEEP_SVC_STA_FAILS < 2) ∧
    (∃ (s : State) (dt who till : Nat),
    s.blk.keep.scanned = false ∧ s.blk.keep.nonce = some (who, till) ∧ 2 ≤ s.blk.get KEEP_SVC_STA_FAILS) ∧
    (∃ (s : State) (dt d : Nat),
    s.blk.keep.scanned = false ∧ s.blk.keep.svcBlockBy = some d) ∧
    (∃ (s : State) (dt who : Nat),
    s.blk.running = true ∧ s.blk.holdup = false ∧ s.blk.keep.sec = .service ∧ who < 4 ∧ s.blk.get KEEP_SVC_STA_SESSION = who) ∧
    (∃ (s : State) (dt d : Nat),
    s.blk.keep.scanned = false ∧ s.blk.keep.svcBy = some d ∧ s.blk.keep.sec = .service) ∧
    (∃ (s : State) (dt who : Nat) (x : Sess),
    s.blk.running = true ∧ s.blk.holdup = false ∧ s.blk.sess[who]? = some x ∧ keyAllowed (s.begin dt).env (s.begin dt).blk who (s.env.get KEEP_KEY_CTL_SLOT) = true) ∧
    (∃ (s : State) (dt who : Nat),
    s.blk.running = true ∧ keyAllowed (s.begin dt).env (s.begin dt).blk who (s.env.get KEEP_KEY_CTL_SLOT) = false) ∧
    (∃ (s : State) (dt who : Nat),
    s.blk.running = true ∧ s.blk.holdup = false ∧ keyAllowed (s.begin dt).env (s.begin dt).blk who (s.env.get KEEP_KEY_CTL_SLOT) = true) :=
  ⟨⟨runWith (fun b => { (b.put PWR_STA_HOLD_READY 1).put KEEP_SEAL_CODE_CODE (b.get SYS_SERIAL_LO) with keep := { b.keep with keys := [(0, []), (5, []), (2, [])] } }), 0, 2, by decide +kernel⟩,
   ⟨runWith (fun b => b.put KEEP_SEAL_CODE_CODE (b.get SYS_SERIAL_LO + 1)), 0, by decide +kernel⟩,
   ⟨runWith (fun b => { b.put KEEP_STA_IP_EN 1 with keep := { b.keep with sec := .isSealed } }), 0, 3, by decide +kernel⟩,
   ⟨run, 0, 0, 1, 2, 3, 4, by decide +kernel⟩,
   ⟨runWith (fun b => { b with keep := { b.keep with keys := [(5, [1#8])], nonce := some (2, 6) } }), 0, 2, 6, 2634478190, 2952298373, 1860027614, 449573547, by decide +kernel⟩,
   ⟨runWith (fun b => { (b.put KEEP_SVC_STA_FAILS 1) with keep := { b.keep with nonce := some (2, 6) } }), 0, 2, 6, by decide +kernel⟩,
   ⟨runWith (fun b => { (b.put KEEP_SVC_STA_FAILS 2) with keep := { b.keep with nonce := some (2, 6) } }), 0, 2, 6, by decide +kernel⟩,
   ⟨runWith (fun b => { b with keep := { b.keep with svcBlockBy := some 6 } }), 0, 6, by decide +kernel⟩,
   ⟨runWith (fun b => { (b.put KEEP_SVC_STA_SESSION 2) with keep := { b.keep with sec := .service } }), 0, 2, by decide +kernel⟩,
   ⟨runWith (fun b => { b with keep := { b.keep with sec := .service, svcBy := some 6 } }), 0, 6, by decide +kernel⟩,
   ⟨run, 0, 1, (run.blk.sess[1]?).getD .empty, by decide +kernel⟩,
   ⟨runWith (fun b => { b with keep := { b.keep with sec := .isSealed } }), 0, 1, by decide +kernel⟩,
   ⟨run, 0, 1, by decide +kernel⟩⟩

theorem witness_EveryEngineCommandHasItsEffect : ∃ (s : State) (dt : Nat),
    s.blk.keep.scanned = false :=
  ⟨run, 0, by decide +kernel⟩

theorem witness_EveryTimerHasItsEffectAtItsDeadline :
    (∃ (s : State) (dt due : Nat),
    s.blk.keep.scanned = false ∧ rideTimer (s.begin dt).blk = some due) ∧
    (∃ (s : State) (dt due : Nat) (session : Nat),
    s.blk.keep.scanned = false ∧ (cacheTimer session) (s.begin dt).blk = some due) ∧
    (∃ (s : State) (dt due : Nat),
    s.blk.keep.scanned = false ∧ (s.begin dt).blk.seq.coilTestBy = some due) ∧
    (∃ (s : State) (dt due : Nat),
    s.blk.keep.scanned = false ∧ (s.begin dt).blk.seq.fbBy = some due) ∧
    (∃ (s : State) (dt due : Nat),
    s.blk.keep.scanned = false ∧ (s.begin dt).blk.seq.fbBy = some due) ∧
    (∃ (s : State) (dt due : Nat) (bk : Bool) (maxI : Nat) (midp : Int) (hvp : Int) (midn : Int) (hvn : Int),
    s.blk.keep.scanned = false ∧ (s.begin dt).blk.seq.ssbTest = some due) ∧
    (∃ (s : State) (dt due : Nat),
    s.blk.keep.scanned = false ∧ (s.begin dt).blk.seq.stagger.map Prod.fst = some due) ∧
    (∃ (s : State) (dt due : Nat) (peak : Nat),
    s.blk.keep.scanned = false ∧ (s.begin dt).blk.seq.pcBy = some due) ∧
    (∃ (s : State) (dt due : Nat),
    s.blk.keep.scanned = false ∧ (s.begin dt).blk.seq.coolBy = some due) ∧
    (∃ (s : State) (dt due : Nat) (k : Nat) (i : Nat),
    s.blk.keep.scanned = false ∧ (pickTimer k) (s.begin dt).blk = some due) ∧
    (∃ (s : State) (dt due : Nat) (bk1 : Bool) (bk2 : Bool) (i : Int),
    s.blk.keep.scanned = false ∧ (s.begin dt).blk.seq.confirmBy = some due) ∧
    (∃ (s : State) (dt due : Nat) (d : Int) (ee : Int) (midD : Int) (midE : Int) (bk : Bool) (kp : Bool) (kn : Bool) (kc : Bool),
    s.blk.keep.scanned = false ∧ (s.begin dt).blk.seq.pulseBy = some due) ∧
    (∃ (s : State) (dt due : Nat),
    s.blk.keep.scanned = false ∧ (s.begin dt).blk.seq.weld.bind Weld.retryBy = some due) ∧
    (∃ (s : State) (dt due : Nat),
    s.blk.keep.scanned = false ∧ (s.begin dt).blk.seq.weld.bind Weld.windowBy = some due) ∧
    (∃ (s : State) (dt due : Nat),
    s.blk.keep.scanned = false ∧ (s.begin dt).blk.seq.tctrl = some due) ∧
    (∃ (s : State) (dt due : Nat),
    s.blk.keep.scanned = false ∧ (s.begin dt).blk.seq.partnerRideBy = some due) ∧
    (∃ (s : State) (dt due : Nat),
    s.blk.keep.scanned = false ∧ freezeTimer (s.begin dt).blk = some due) ∧
    (∃ (s : State) (dt due : Nat),
    s.blk.keep.scanned = false ∧ syncTimer (s.begin dt).blk = some due) ∧
    (∃ (s : State) (dt due : Nat) (p : Nat),
    s.blk.keep.scanned = false ∧ (authTimer p) (s.begin dt).blk = some due) ∧
    (∃ (s : State) (dt due : Nat),
    s.blk.keep.scanned = false ∧ (s.begin dt).blk.ledger.jrnAt = some due) ∧
    (∃ (s : State) (dt due : Nat) (src : Nat) (rs : List TpsRead),
    s.blk.keep.scanned = false ∧ (tpsTimer src) (s.begin dt).blk = some due) ∧
    (∃ (s : State) (dt due : Nat) (n : Nat),
    s.blk.keep.scanned = false ∧ (discTimer n) (s.begin dt).blk = some due) ∧
    (∃ (s : State) (dt due : Nat),
    s.blk.keep.scanned = false ∧ (s.begin dt).blk.safe.evalBy = some due) ∧
    (∃ (s : State) (dt due : Nat),
    s.blk.keep.scanned = false ∧ skewTimer (s.begin dt).blk = some due) ∧
    (∃ (s : State) (dt due : Nat),
    s.blk.keep.scanned = false ∧ wdTimer (s.begin dt).blk = some due) ∧
    (∃ (s : State) (dt due : Nat),
    s.blk.keep.scanned = false ∧ wdStartTimer (s.begin dt).blk = some due) ∧
    (∃ (s : State) (dt due : Nat),
    s.blk.keep.scanned = false ∧ (singleTimer s.env) (s.begin dt).blk = some due) ∧
    (∃ (s : State) (dt due : Nat),
    s.blk.keep.scanned = false ∧ pcvTimer (s.begin dt).blk = some due) ∧
    (∃ (s : State) (dt due : Nat) (src : Nat),
    s.blk.keep.scanned = false ∧ (holdTimer src) (s.begin dt).blk = some due) ∧
    (∃ (s : State) (dt due : Nat),
    s.blk.keep.scanned = false ∧ (s.begin dt).blk.watch.logAt = some due) ∧
    (∃ (s : State) (dt due : Nat) (g : Nat),
    s.blk.keep.scanned = false ∧ (tpTimer g) (s.begin dt).blk = some due) ∧
    (∃ (s : State) (dt due : Nat) (p : Nat),
    s.blk.keep.scanned = false ∧ (graceTimer p) (s.begin dt).blk = some due) ∧
    (∃ (s : State) (dt due : Nat) (k : Nat),
    s.blk.keep.scanned = false ∧ (laneTimer k) (s.begin dt).blk = some due) ∧
    (∃ (s : State) (dt due : Nat),
    s.blk.keep.scanned = false ∧ seenTimer (s.begin dt).blk = some due) ∧
    (∃ (s : State) (dt due : Nat),
    s.blk.keep.scanned = false ∧ suspendTimer (s.begin dt).blk = some due) ∧
    (∃ (s : State) (dt due : Nat),
    s.blk.keep.scanned = false ∧ listenTimer (s.begin dt).blk = some due) ∧
    (∃ (s : State) (dt due : Nat),
    s.blk.keep.scanned = false ∧ holdEndTimer (s.begin dt).blk = some due) ∧
    (∃ (s : State) (dt due : Nat),
    s.blk.keep.scanned = false ∧ yieldTimer (s.begin dt).blk = some due) ∧
    (∃ (s : State) (dt due : Nat),
    s.blk.keep.scanned = false ∧ resumeTimer (s.begin dt).blk = some due) ∧
    (∃ (s : State) (dt due : Nat),
    s.blk.keep.scanned = false ∧ handReqTimer (s.begin dt).blk = some due) ∧
    (∃ (s : State) (dt due : Nat) (n : Nat),
    s.blk.keep.scanned = false ∧ (dueTimer n) (s.begin dt).blk = some due) ∧
    (∃ (s : State) (dt due : Nat),
    s.blk.keep.scanned = false ∧ backoffTimer (s.begin dt).blk = some due) ∧
    (∃ (s : State) (dt due : Nat) (highMs : Nat),
    s.blk.keep.scanned = false ∧ alertTimer (s.begin dt).blk = some due) ∧
    (∃ (s : State) (dt due : Nat) (released : Bool),
    s.blk.keep.scanned = false ∧ holdLowTimer (s.begin dt).blk = some due) ∧
    (∃ (s : State) (dt due : Nat) (released : Bool),
    s.blk.keep.scanned = false ∧ busRetryTimer (s.begin dt).blk = some due) ∧
    (∃ (s : State) (dt due : Nat),
    s.blk.keep.scanned = false ∧ activateTimer (s.begin dt).blk = some due) ∧
    (∃ (s : State) (dt due : Nat),
    s.blk.keep.scanned = false ∧ svcRespTimer (s.begin dt).blk = some due) ∧
    (∃ (s : State) (dt due : Nat),
    s.blk.keep.scanned = false ∧ svcBlockTimer (s.begin dt).blk = some due) ∧
    (∃ (s : State) (dt due : Nat),
    s.blk.keep.scanned = false ∧ svcTimer (s.begin dt).blk = some due) ∧
    (∃ (s : State) (dt due : Nat),
    s.blk.keep.scanned = false ∧ paramTimer (s.begin dt).blk = some due) :=
  ⟨⟨runWith (fun b => { b with pwr := { b.pwr with rideBy := some 5 } }), 0, 5, by decide +kernel⟩,
   ⟨runWith (fun b => { b with sess := modAt b.sess 2 (fun x => { x with cache := [⟨5, 9, [], [1#8], 100, 100, true⟩] }) }), 0, 100, 2, by decide +kernel⟩,
   ⟨runIn .maintenance (fun b => { b with seq := { b.seq with coilTestBy := some 5, coilTest := some (1, 0, 20) } }), 0, 5, by decide +kernel⟩,
   ⟨runIn .connecting (fun b => { b.put SAFE_SEQ_STA_STEP 2 with seq := { b.seq with fbBy := some 5, await := [1, 2] } }), 0, 5, by decide +kernel⟩,
   ⟨runIn .connecting (fun b => { b.put SAFE_SEQ_STA_STEP 7 with seq := { b.seq with fbBy := some 5, await := [2] } }), 0, 5, by decide +kernel⟩,
   ⟨runIn .connecting (fun b => { b.put SAFE_SEQ_STA_STEP 3 with seq := { b.seq with ssbTest := some 5 } }), 0, 5, true, 1000, 78400, 80000, 0, 0, by decide +kernel⟩,
   ⟨runIn .connecting (fun b => { b with seq := { b.seq with stagger := some (5, .ssbN) } }), 0, 5, by decide +kernel⟩,
   ⟨runIn .connecting (fun b => { b.put SAFE_SEQ_STA_STEP 5 with seq := { b.seq with pcBy := some 5 } }), 0, 5, 1000, by decide +kernel⟩,
   ⟨runWith (fun b => { b with seq := { b.seq with coolBy := some 5 } }), 0, 5, by decide +kernel⟩,
   ⟨runIn .connecting (fun b => { b with seq := { b.seq with picks := [(1, 5)] } }), 0, 5, 1, 100, by decide +kernel⟩,
   ⟨runIn .connected (fun b => { ((b.put SAFE_SEQ_STA_STEP 8).put SAFE_SW_STATE_KP_FB 1).put SAFE_SW_STATE_KN_FB 1 with seq := { b.seq with confirmBy := some 5, dis := some ⟨false, false, false, 0, false⟩ } }), 0, 5, false, false, 1000000, by decide +kernel⟩,
   ⟨runIn .maintenance (fun b => { b with seq := { b.seq with pulseBy := some 5, weld := some ⟨false, true, 1, none, none, 0, 0, 0⟩ } }), 0, 5, 5000, 5000, 0, 0, true, false, false, false, by decide +kernel⟩,
   ⟨runIn .maintenance (fun b => { b with seq := { b.seq with weld := some ⟨false, true, 2, some 5, none, 0, 0, 0⟩ } }), 0, 5, by decide +kernel⟩,
   ⟨runIn .maintenance (fun b => { b with seq := { b.seq with weld := some ⟨false, true, 2, none, some 5, 1, 1, 1⟩ } }), 0, 5, by decide +kernel⟩,
   ⟨runIn .connected (fun b => { b with seq := { b.seq with tctrl := some 5 } }), 0, 5, by decide +kernel⟩,
   ⟨runIn .connected (fun b => { b with role := .active, seq := { b.seq with partnerRideBy := some 5 } }), 0, 5, by decide +kernel⟩,
   ⟨runWith (fun b => { b with watch := { b.watch with bufs := [⟨0, 0, 0, 0, [], 0, 5, false, [], 0, false, 0, false⟩] } }), 0, 5, by decide +kernel⟩,
   ⟨(runWith (fun b => { b.put CHAIN_SYNC_PERIOD_VALUE 1000 with chain := { b.chain with edgeT := some 0 } })).having [(CHAIN_SWEEP_CTL_SRC, 1)], 0, 400, by decide +kernel⟩,
   ⟨runWith (fun b => { b with chain := { b.chain with cmus := [{ CmuRec.absent with nonce := some (0, 5) }] } }), 0, 5, 0, by decide +kernel⟩,
   ⟨runWith (fun b => { b with ledger := { b.ledger with jrnAt := some 5 } }), 0, 5, by decide +kernel⟩,
   ⟨runWith (fun b => { b.put SAFE_SI_STATE_EVALUATING 1 with safe := { b.safe with tps := .pulsing, tpsBy := [5, 10] } }), 0, 5, 0, [⟨0, false, false, true, true, true⟩], by decide +kernel⟩,
   ⟨runWith (fun b => { b with safe := { b.safe with pairs := [⟨true, false, false, false, false, some 5⟩] } }), 0, 5, 0, by decide +kernel⟩,
   ⟨runWith (fun b => { b with safe := { b.safe with evalBy := some 5 } }), 0, 5, by decide +kernel⟩,
   ⟨runWith (fun b => { b with psf := { b.psf with skewBy := some 5 } }), 0, 5, by decide +kernel⟩,
   ⟨runWith (fun b => { b with psf := { b.psf with wdBy := some 5 } }), 0, 5, by decide +kernel⟩,
   ⟨runWith (fun b => { b with psf := { b.psf with wdStartBy := some 5 } }), 0, 5, by decide +kernel⟩,
   ⟨runWith (fun b => { b with psf := { b.psf with singleAt := some 0 } }), 0, 17280000000000, by decide +kernel⟩,
   ⟨runWith (fun b => { b with safe := { b.safe with pcvBy := some 5 } }), 0, 5, by decide +kernel⟩,
   ⟨runWith (fun b => { b with watch := { b.watch with act := [⟨SRC_SWEEP_LATE, 1, some 5, false⟩] } }), 0, 5, SRC_SWEEP_LATE, by decide +kernel⟩,
   ⟨runWith (fun b => { b with watch := { b.watch with logAt := some 5, cache := [(0, ⟨7, 0, 0, 0, 0, false, false, false, false, 0, 0, 0, 0, 0, 0, 0⟩)] } }), 0, 5, by decide +kernel⟩,
   ⟨runWith (fun b => { b with tim := { b.tim with tp0 := { b.tim.tp0 with go := true, edgeBy := some 4 } } }), 0, 4, 0, by decide +kernel⟩,
   ⟨runWith (fun b => { b with ports := modAt b.ports 0 (fun x => { x with graceBy := some 5 }) }), 0, 5, 0, by decide +kernel⟩,
   ⟨runWith (fun b => { b.put TWIN_LANE_STA_L0 3 with twin := true, tw := { b.tw with lanes := [⟨0, 0, 0, [], [], [], [], some 7, none⟩] } }), 0, 200000007, 0, by decide +kernel⟩,
   ⟨runWith (fun b => { b.put TWIN_STA_PARTNER_SEEN 1 with twin := true, role := .standby, tw := { b.tw with seenAt := some 0 } }), 0, 600000, by decide +kernel⟩,
   ⟨runWith (fun b => { b with tw := { b.tw with warmUntil := some 9 } }), 0, 9, by decide +kernel⟩,
   ⟨runWith (fun b => { b with twin := true, role := .standby, tw := { b.tw with listenBy := some 3, heard := some (1, 8) } }), 0, 3, by decide +kernel⟩,
   ⟨runWith (fun b => { b with tw := { b.tw with holdBy := some 9 } }), 0, 9, by decide +kernel⟩,
   ⟨runWith (fun b => { b with twin := true, role := .active, tw := { b.tw with yieldBy := some 9 } }), 0, 9, by decide +kernel⟩,
   ⟨runWith (fun b => { b.put TWIN_STA_ORPHAN 1 with twin := true, role := .standby, tw := { b.tw with unseenAt := some 9 } }), 0, 600009, by decide +kernel⟩,
   ⟨runWith (fun b => { b with keep := { b.keep with handReq := some (4, 0) } }), 0, 4, by decide +kernel⟩,
   ⟨(runWith (fun b => { b with rack := { b.rack with due := [some 5] } })).having [(RACK_CTL_EN, 1), (RACK_ENTRY_EN 0, 1)], 0, 5, 0, by decide +kernel⟩,
   ⟨(runWith (fun b => { b with rack := { b.rack with cur := some ⟨3, false, [], 1⟩, backBy := some 8 } })).having [(RACK_CTL_EN, 1)], 0, 8, by decide +kernel⟩,
   ⟨runWith (fun b => { b with rack := { b.rack with pauseBy := some 6 } }), 0, 6, 10, by decide +kernel⟩,
   ⟨runWith (fun b => { b with rack := { b.rack with holdBy := some 6, holds := 1 } }), 0, 6, false, by decide +kernel⟩,
   ⟨(runWith (fun b => { b with rack := { b.rack with retryBy := some 6 } })).having [(RACK_CTL_EN, 1)], 0, 6, true, by decide +kernel⟩,
   ⟨runWith (fun b => { b with keep := { b.keep with act := some ⟨1, false, 0, false, 6, 0⟩ } }), 0, 6, by decide +kernel⟩,
   ⟨runWith (fun b => { (b.put KEEP_SVC_STA_FAILS 1) with keep := { b.keep with nonce := some (2, 6) } }), 0, 6, by decide +kernel⟩,
   ⟨runWith (fun b => { b with keep := { b.keep with svcBlockBy := some 6 } }), 0, 6, by decide +kernel⟩,
   ⟨runWith (fun b => { b with keep := { b.keep with sec := .service, svcBy := some 6 } }), 0, 6, by decide +kernel⟩,
   ⟨runWith (fun b => { b with keep := { b.keep with paramBy := some 6 } }), 0, 6, by decide +kernel⟩⟩


end
end

/-! R113: the record a session keeps of the sequences it has accepted, and which numbers it takes as new. -/

namespace Sys2Proof.Machine

theorem mem_insSet (l : List Nat) (x k : Nat) : k ∈ insSet l x ↔ k = x ∨ k ∈ l := by
  induction l with
  | nil => simp [insSet]
  | cons y l ih =>
    rw [insSet]
    split
    · exact List.mem_cons
    · split
      case isTrue hxy => simp [hxy]
      case isFalse => simp only [List.mem_cons, ih, or_left_comm]

/-- The session's record is that of the accepted sequences `l`: the highest of them, and those among them that are the
highest or one of the 63 numbers just below it. -/
structure SeqRecord (l : List Nat) (s : Sess) : Prop where
  high_eq : s.high = l.max?
  mem_seen : ∀ k, k ∈ s.seen ↔ k ∈ l ∧ ∀ h ∈ s.high, h < k + 64

theorem seqRecord_empty : SeqRecord [] Sess.empty := ⟨rfl, by simp [Sess.empty]⟩

/-- The highest never falls, so a number outside the window has left it for good: the mark may drop it. -/
theorem SeqRecord.seqMark {l : List Nat} {s : Sess} (hs : SeqRecord l s) (n : Nat) :
    SeqRecord (n :: l) (seqMark n s) where
  high_eq := by
    rw [Machine.seqMark, hs.high_eq, List.max?_cons]
    cases l.max? <;> simp
  mem_seen k := by
    have hle : ∀ h ∈ s.high, h ≤ max n (s.high.getD n) := by
      intro h hh
      simp [Option.mem_def.mp hh]
    simp only [Machine.seqMark, List.mem_filter, mem_insSet, hs.mem_seen, decide_eq_true_eq, List.mem_cons,
      Option.mem_some_iff, forall_eq']
    constructor
    · rintro ⟨hk | ⟨hk, -⟩, hw⟩
      · exact ⟨.inl hk, hw⟩
      · exact ⟨.inr hk, hw⟩
    · rintro ⟨hk | hk, hw⟩
      · exact ⟨.inl hk, hw⟩
      · exact ⟨.inr ⟨hk, fun h hh => (hle h hh).trans_lt hw⟩, hw⟩

/-- Marking the sequences of a list one after the other records them all. -/
theorem SeqRecord.foldl_seqMark {l : List Nat} {s : Sess} (hs : SeqRecord l s) (m : List Nat) :
    SeqRecord (m.reverse ++ l) (m.foldl (fun x k => Machine.seqMark k x) s) := by
  induction m generalizing l s with
  | nil => exact hs
  | cons k m ih => simpa using ih (hs.seqMark k)

/-- R113, from the record: inside the window `seen` answers for all the accepted sequences. -/
theorem SeqRecord.seqNew_iff {l : List Nat} {s : Sess} (hs : SeqRecord l s) (n : Nat) :
    seqNew s n = true ↔ l = [] ∨ (∀ k ∈ l, k < n) ∨ ((∀ k ∈ l, k ≤ n + 63) ∧ n ∉ l) := by
  cases hh : s.high with
  | none =>
    have hnil : l = [] := List.max?_eq_none_iff.mp (hs.high_eq ▸ hh)
    simp [seqNew, hh, hnil]
  | some h =>
    obtain ⟨hmem, hmax⟩ := List.max?_eq_some_iff.mp (hs.high_eq ▸ hh)
    have hne : l ≠ [] := List.ne_nil_of_mem hmem
    have above : (∀ k ∈ l, k < n) ↔ h < n := ⟨fun ha => ha h hmem, fun ha k hk => (hmax k hk).trans_lt ha⟩
    have window : (∀ k ∈ l, k ≤ n + 63) ↔ h < n + 64 :=
      ⟨fun hw => Nat.lt_succ_of_le (hw h hmem), fun hw k hk => (hmax k hk).trans (Nat.le_of_lt_succ hw)⟩
    have seen : h < n + 64 → (n ∈ s.seen ↔ n ∈ l) := fun hw => by simp [hs.mem_seen, hh, hw]
    rw [above, window, or_iff_right hne]
    simpa [seqNew, hh] using or_congr_right (and_congr_right fun hw => not_congr (seen hw))

/-- Settles O16: the marks leave the record of the accepted sequences, and the record decides what is new. -/
theorem sequencesAreAcceptedOnce : Obligations.SequencesAreAcceptedOnce := by
  intro l n
  simpa using (seqRecord_empty.foldl_seqMark l).seqNew_iff n

end Sys2Proof.Machine

/-! R324, R326, R329: what a received command telegram does. -/

namespace Sys2Proof.Machine

/-- The end of an excursion writes no status field. -/
@[simp] theorem endExc_get (e : Env) (src obj : Nat) (b : Blk) (f : Fld) : (endExc e src obj b).get f = b.get f := rfl

/-- A valid copy's arrival writes the port's own net bit only. -/
theorem seenOn_get_ne (e : Env) (port : Nat) (b : Blk) {f : Fld} (hf : (netOkFld port).key ≠ f.key) :
    (seenOn e port b).get f = b.get f :=
  (Blk.get_put_ne _ _ hf).trans (modPsf_get b f _)

/-- Without the reset bit no telegram resets (R311). -/
@[simp] theorem remoteReset_false (e : Env) (b : Blk) (seq : Nat) : remoteReset e b seq false = false := by
  rw [remoteReset, Bool.and_false, Bool.false_and, Bool.false_and]

/-- R326 step 6 with no window open and CONNECT_PERMIT alone: nothing is withdrawn, closed or reset after the fields are
written, so a field outside the net bits reads what the acceptance put. -/
theorem psfAccept_permit_get (port seq : Nat) (msg : List Byte) (e : Env) {b : Blk} (hw : b.psf.skewBy = none) {f : Fld}
    (hf : (netOkFld port).key ≠ f.key) :
    (psfAccept port msg seq 1 e b).get f =
      ((((b.put SAFE_PSF_RX_FLAGS 1).put SAFE_PSF_SEQ_RX seq).put SAFE_STA_WD_EXPIRED 0).put SAFE_STA_PERMIT 1).get f := by
  have hbit : bitOf 1 1 = false := by decide
  simp only [psfAccept, hw, hbit, remoteReset_false, Option.isSome_none, Bool.false_eq_true, if_false, Nat.reduceMod,
    one_ne_zero, and_false, endExc_get, seenOn_get_ne _ _ _ hf]
  rfl

/-- R329: such a telegram gives the permit. -/
theorem psfAccept_permit (port seq : Nat) (msg : List Byte) (e : Env) {b : Blk} (hw : b.psf.skewBy = none) :
    (psfAccept port msg seq 1 e b).get SAFE_STA_PERMIT = 1 := by
  have hne : (netOkFld port).key ≠ SAFE_STA_PERMIT.key := by unfold netOkFld; split <;> decide
  rw [psfAccept_permit_get port seq msg e hw hne, Blk.get_put_self]
  rfl

/-- Its flags are kept as the last accepted ones. -/
theorem psfAccept_permit_flags (port seq : Nat) (msg : List Byte) (e : Env) {b : Blk} (hw : b.psf.skewBy = none) :
    (psfAccept port msg seq 1 e b).get SAFE_PSF_RX_FLAGS = 1 := by
  have hne : (netOkFld port).key ≠ SAFE_PSF_RX_FLAGS.key := by unfold netOkFld; split <;> decide
  rw [psfAccept_permit_get port seq msg e hw hne, Blk.get_put_ne _ _ (by decide), Blk.get_put_ne _ _ (by decide),
    Blk.get_put_ne _ _ (by decide), Blk.get_put_self]
  rfl

/-- R324, R326 step 1: a flag beyond the two, or a byte after them that is not 0, discards the telegram. -/
theorem psfMessage_reserved (port : Nat) (e : Env) (b : Blk) {m : List Byte}
    (h : 4 ≤ leVal (slice m 20 2) ∨ leVal (slice m 22 2) ≠ 0) :
    psfMessage port m e b = b.bump SAFE_PSF_CNT_DISCARDED :=
  if_pos (.inr h)

/-- A message passes the steps 1 to 3 of R326. -/
structure PsfSound (e : Env) (m : List Byte) : Prop where
  length : 28 ≤ m.length
  head : m.take 4 = [2#8, 1#8, 2#8, 0#8]
  len : leVal (slice m 18 2) = 4
  flags : leVal (slice m 20 2) < 4
  rest : leVal (slice m 22 2) = 0
  on : e.get SAFE_PSF_CID_CMD ≠ 0
  cid : leVal (slice m 4 4) = e.get SAFE_PSF_CID_CMD
  crc : leVal (slice m 24 4) = scrc (e.get SAFE_PSF_CID_CMD) (m.take 24)

/-- R326 step 4: the first sound telegram after a boot is new, and accepted. -/
theorem PsfSound.accept_first {e : Env} {m : List Byte} (hm : PsfSound e m) (port : Nat) {b : Blk} (hrx : b.psf.rxSeq = none) :
    psfMessage port m e b = psfAccept port (m.take 28) (leVal (slice m 8 4)) (leVal (slice m 20 2)) e b := by
  simp [psfMessage, hm.length, hm.head, hm.len, hm.flags, hm.rest, hm.on, hm.cid, hm.crc, hrx]

/-- Settles O19: reserved bits fail step 1 of R326, and the first sound telegram reaches step 6 with its flags. -/
theorem commandTelegramsHoldTwoFlags : Obligations.CommandTelegramsHoldTwoFlags := by
  refine ⟨fun e b port m => psfMessage_reserved port e b, ?_⟩
  rintro e b port _ m length head len rfl flags rest on cid crc hrx
  have accepted := PsfSound.accept_first ⟨length, head, len, flags, rest, on, cid, crc⟩ port hrx
  refine ⟨accepted, fun hpermit hw => ?_⟩
  rw [accepted, hpermit]
  exact ⟨psfAccept_permit port _ _ e hw, psfAccept_permit_flags port _ _ e hw⟩

end Sys2Proof.Machine

/-! R380 to R384: the launch queues of the ports. What their operations change and keep, and what frames that leave keep. -/

namespace Sys2Proof.Machine

section
variable (e : Env) (b : Blk) (p q : Nat)

/-! ### A port's queues -/

@[simp] theorem portQ_modQ_self (h : PortQ → PortQ) : portQ (modQ p h b) p = h (portQ b p) := by
  simp only [portQ, modQ, modTim_tim]
  split <;> rfl

/-- The queues of one port are none of the other's. -/
theorem portQ_modQ_other {p q : Nat} (h : PortQ → PortQ) (hpq : p = 0 ↔ q ≠ 0) : portQ (modQ p h b) q = portQ b q := by
  by_cases hq : q = 0 <;> simp [portQ, modQ, hpq, hq]

@[simp] theorem portQ_put (f : Fld) (v : Nat) : portQ (b.put f v) p = portQ b p := rfl
@[simp] theorem portQ_bump (f : Fld) (n : Nat) : portQ (b.bump f n) p = portQ b p := rfl
@[simp] theorem portQ_finish (st : Status) : portQ (finish st b) p = portQ b p := rfl
@[simp] theorem portQ_lqShow : portQ (lqShow q b) p = portQ b p := rfl
@[simp] theorem portQ_ethOut (bs : List Byte) : portQ (ethOut e q bs b) p = portQ b p := rfl

@[simp] theorem modQ_tx (h : PortQ → PortQ) : (modQ p h b).tx = b.tx := rfl
@[simp] theorem lqShow_tx : (lqShow p b).tx = b.tx := rfl
@[simp] theorem ethOut_tx (bs : List Byte) : (ethOut e p bs b).tx = b.tx ++ [.eth p bs] := rfl

/-- The blocks shown as free are those of the entries that stand: at most 1,020, which the field holds. -/
theorem lqShow_free : (lqShow p b).get (TIME_LQ_STA_FREE_BLOCKS p) = freeBlocks (portQ b p) := by
  have hle : freeBlocks (portQ b p) ≤ 1020 := Nat.sub_le _ _
  rw [lqShow, Blk.get_put_self]
  exact Nat.mod_eq_of_lt (by simpa [TIME_LQ_STA_FREE_BLOCKS] using by omega)

theorem lqDrop_self (k : Nat) : portQ (lqDrop p k b) p = { portQ b p with lq := (portQ b p).lq.take k ++ (portQ b p).lq.drop (k + 1) } := by
  simp [lqDrop]

@[simp] theorem lqDrop_tx (k : Nat) : (lqDrop p k b).tx = b.tx := rfl

/-! ### The frames a port holds -/

theorem modAt_same {α : Type} (l : List α) (n : Nat) : modAt l n (fun x => x) = l := by
  induction l generalizing n with
  | nil => rfl
  | cons x l ih => cases n <;> simp [modAt, ih]

theorem getElem?_modAt_self {α : Type} (l : List α) (n : Nat) (f : α → α) : (modAt l n f)[n]? = l[n]?.map f := by
  induction l generalizing n with
  | nil => rfl
  | cons x l ih => cases n <;> simp [modAt, ih]

@[simp] theorem portTxq_put (f : Fld) (v : Nat) : portTxq (b.put f v) p = portTxq b p := rfl
@[simp] theorem portTxq_bump (f : Fld) (n : Nat) : portTxq (b.bump f n) p = portTxq b p := rfl
@[simp] theorem portTxq_modQ (h : PortQ → PortQ) : portTxq (modQ q h b) p = portTxq b p := rfl

/-- A frame that leaves goes past what the port holds. -/
@[simp] theorem portTxq_ethOut (bs : List Byte) : portTxq (ethOut e p bs b) p = portTxq b p := by
  have hports : (ethOut e p bs b).ports =
      modAt b.ports p (fun x => { x with busyTill := max x.busyTill e.now + (wireNs b p bs.length + 4) / 5 }) := rfl
  rw [portTxq, hports, getElem?_modAt_self, Option.map_map]
  rfl

/-- A port that holds no frame has none to let go. -/
theorem ethDrainFrom_empty (pcp : Nat) (h : portTxq b p = []) : ethDrainFrom pcp e p b = b := by
  have hsame : modPort p (fun x => { x with txq := x.txq.drop 0 }) b = b := by
    show { b with ports := modAt b.ports p (fun x => x) } = b
    rw [modAt_same]
  simp only [ethDrainFrom, h, List.takeWhile_nil, drainable, List.take_nil, List.foldl_nil, hsame, ite_self]

/-- What frames that leave a port keep: TIME's queues, what left before them, and the status but for the count of frames. -/
structure Sent (p : Nat) (b b' : Blk) : Prop where
  tim : b'.tim = b.tim
  tx : b.tx <+: b'.tx
  get : ∀ f : Fld, (PORT_TX_FRAMES p).key ≠ f.key → b'.get f = b.get f

theorem Sent.refl : Sent p b b := ⟨rfl, ⟨[], List.append_nil _⟩, fun _ _ => rfl⟩

theorem Sent.trans {p : Nat} {a b c : Blk} (h : Sent p a b) (k : Sent p b c) : Sent p a c :=
  ⟨k.tim.trans h.tim, h.tx.trans k.tx, fun f hf => (k.get f hf).trans (h.get f hf)⟩

theorem sent_modPort (h : PortS → PortS) : Sent p b (modPort p h b) :=
  ⟨rfl, ⟨[], List.append_nil _⟩, fun _ _ => rfl⟩

theorem sent_ethOut (bs : List Byte) : Sent p b (ethOut e p bs b) :=
  ⟨rfl, ⟨_, rfl⟩, fun _ hf => Blk.get_put_ne _ _ hf⟩

theorem sent_foldl_ethOut (l : List (Nat × List Byte)) : Sent p b (l.foldl (fun x f => ethOut e p f.2 x) b) := by
  induction l generalizing b with
  | nil => exact Sent.refl b p
  | cons f l ih => exact (sent_ethOut e b p f.2).trans (ih _)

theorem sent_ethDrain : Sent p b (ethDrain e p b) := by
  unfold ethDrain ethDrainFrom
  split
  · exact Sent.refl _ p
  · exact (sent_modPort b p _).trans (sent_foldl_ethOut e _ p _)

theorem Sent.portQ {p : Nat} {b b' : Blk} (h : Sent p b b') (q : Nat) : portQ b' q = portQ b q := by
  simp [Machine.portQ, h.tim]

end

/-! ### The queue of transmit timestamps (R383) -/

section
variable (b : Blk) (p tag ns frac wrap8 : Nat)

@[simp] theorem txtsPut_lq : (portQ (txtsPut p tag ns frac wrap8 b) p).lq = (portQ b p).lq := by
  simp only [txtsPut]; split <;> simp

@[simp] theorem txtsPut_tx : (txtsPut p tag ns frac wrap8 b).tx = b.tx := by
  simp only [txtsPut]; split <;> rfl

@[simp] theorem txtsPut_txq : portTxq (txtsPut p tag ns frac wrap8 b) p = portTxq b p := by
  simp only [txtsPut]; split <;> rfl

/-- Of a queue of 16 the oldest record goes, of a shorter one none. -/
theorem txtsPut_txts (h : (portQ b p).txts.length ≤ 16) : (portQ (txtsPut p tag ns frac wrap8 b) p).txts =
    (portQ b p).txts.drop ((portQ b p).txts.length / 16) ++ [⟨tag, ns, frac, wrap8⟩] := by
  simp only [txtsPut]
  split
  case isTrue hfull => simp [le_antisymm h hfull]
  case isFalse hroom => simp [Nat.div_eq_of_lt (not_le.mp hroom)]

theorem txtsPut_lost (h : (portQ b p).txts.length = 16) :
    (txtsPut p tag ns frac wrap8 b).get (TIME_LQ_STA_TXTS_LOST p) = 1 := by
  simp [txtsPut, h, TIME_LQ_STA_TXTS_LOST]

end

/-! ### The launch of an entry (R380, R381) -/

/-- How late an entry leaves, ns. -/
def lateNs (e : Env) (x : LqE) : Nat := if x.imm then 0 else (-(lqAhead e x)).toNat

/-- An entry has left: it is out of its queue, the other port's copy of its telegram is filled too, and its frame is sent and
counted. -/
def entrySent (p k : Nat) (x : LqE) (e : Env) (b : Blk) : Blk :=
  let b1 := if x.fill then modQ (1 - p) (psfTwin e b (1 - p) x) (lqDrop p k b) else lqDrop p k b
  ((ethOut e p (psfFill e b p x).bytes b1).bump (TIME_LQ_CNT_LOW p)).put (TIME_LQ_SLIP_MAX p)
    (max (b1.get (TIME_LQ_SLIP_MAX p)) (min 65535 (lateNs e x / 10)))

/-- An entry has left, and its timestamp is queued where it is asked for. -/
def entryDone (p k : Nat) (x : LqE) (ns frac : Nat) (e : Env) (b : Blk) : Blk :=
  if x.tsReq then txtsPut p x.tag ns frac (wrapLow e ns) (entrySent p k x e b) else entrySent p k x e b

/-- The entry `x`, at place `k` of its queue, launches from port `p` in this cycle: it is the next, the way and the link are up, nothing
that the port holds goes before it, and it is no telemetry and within the slip limit. -/
structure Launches (p k : Nat) (x : LqE) (e : Env) (b : Blk) : Prop where
  running : b.running = true
  way : wayEnd b p ≤ e.now
  next : launchNext e b p = some (k, x)
  link : b.get (PORT_LINK_UP p) = 1
  telem : x.telem = false
  held : x.imm = true → portTxq b p = []
  slip : x.imm = true ∨ -(lqAhead e x) ≤ 1000 * e.get TIME_LQ_CFG_SLIP

section
variable {p k : Nat} {x : LqE} {e : Env} {b : Blk}

theorem Launches.beforeImm (h : Launches p k x e b) : beforeImm p e b = b := by
  simp only [Machine.beforeImm, h.next]
  split
  case isTrue himm => exact ethDrainFrom_empty e b p _ (h.held himm.1)
  case isFalse => rfl

theorem Launches.inTime (h : Launches p k x e b) : ¬ 1000 * e.get TIME_LQ_CFG_SLIP < lateNs e x := by
  have hslip := h.slip
  unfold lateNs
  split
  case isTrue => omega
  case isFalse himm =>
    have := hslip.resolve_left himm
    omega

/-- What the port held for the entry's sake follows it. -/
theorem Launches.entryLaunch_eq (h : Launches p k x e b) (ns frac : Nat) :
    entryLaunch p ns frac e b = ethDrain e p (entryDone p k x ns frac e b) := by
  have hway : ¬ e.now < wayEnd b p := Nat.not_lt.mpr h.way
  have hlate := h.inTime
  rw [lateNs] at hlate
  simp [entryLaunch, h.running, h.beforeImm, h.next, h.way, hway, h.link, h.telem, hlate, entryDone, entrySent, lateNs,
    Option.filter]

/-- A filled copy on the other port changes nothing of this port's queues. -/
theorem entrySent_portQ (hp : p < 2) :
    portQ (entrySent p k x e b) p = { portQ b p with lq := (portQ b p).lq.take k ++ (portQ b p).lq.drop (k + 1) } := by
  have hother : 1 - p = 0 ↔ p ≠ 0 := by omega
  simp only [entrySent, portQ_put, portQ_bump, portQ_ethOut]
  split
  · rw [portQ_modQ_other _ _ hother, lqDrop_self]
  · rw [lqDrop_self]

theorem entrySent_tx : (entrySent p k x e b).tx = b.tx ++ [.eth p (psfFill e b p x).bytes] := by
  unfold entrySent; split <;> simp

theorem entrySent_txq : portTxq (entrySent p k x e b) p = portTxq b p := by
  simp only [entrySent, portTxq_put, portTxq_bump, portTxq_ethOut]
  split <;> rfl

theorem entryDone_tx (ns frac : Nat) : (entryDone p k x ns frac e b).tx = b.tx ++ [.eth p (psfFill e b p x).bytes] := by
  unfold entryDone; split <;> simp [entrySent_tx]

theorem entryDone_txq (ns frac : Nat) : portTxq (entryDone p k x ns frac e b) p = portTxq b p := by
  unfold entryDone; split <;> simp [entrySent_txq]

theorem entryDone_lq (ns frac : Nat) (hp : p < 2) :
    (portQ (entryDone p k x ns frac e b) p).lq = (portQ b p).lq.take k ++ (portQ b p).lq.drop (k + 1) := by
  unfold entryDone; split <;> simp [entrySent_portQ hp]

/-- The entry's frame leaves first, and alone where the port holds none. -/
theorem Launches.tx (h : Launches p k x e b) (ns frac : Nat) : ∃ l,
    (entryLaunch p ns frac e b).tx = b.tx ++ .eth p (psfFill e b p x).bytes :: l ∧ (portTxq b p = [] → l = []) := by
  obtain ⟨l, hl⟩ := (sent_ethDrain e (entryDone p k x ns frac e b) p).tx
  rw [h.entryLaunch_eq]
  refine ⟨l, by simp [← hl, entryDone_tx], fun hempty => ?_⟩
  rw [ethDrain, ethDrainFrom_empty _ _ _ _ ((entryDone_txq ns frac).trans hempty)] at hl
  exact List.append_right_eq_self.mp hl

/-- The entry is gone from its queue, and no other. -/
theorem Launches.lq (h : Launches p k x e b) (hp : p < 2) (ns frac : Nat) :
    (portQ (entryLaunch p ns frac e b) p).lq = (portQ b p).lq.take k ++ (portQ b p).lq.drop (k + 1) := by
  rw [h.entryLaunch_eq, (sent_ethDrain e _ p).portQ, entryDone_lq ns frac hp]

/-- R383: the timestamp of an entry with TS_REQ joins the port's queue. -/
theorem Launches.txts (h : Launches p k x e b) (hp : p < 2) (hts : x.tsReq = true) (hlen : (portQ b p).txts.length ≤ 16)
    (ns frac : Nat) : (portQ (entryLaunch p ns frac e b) p).txts =
      (portQ b p).txts.drop ((portQ b p).txts.length / 16) ++ [⟨x.tag, ns, frac, wrapLow e ns⟩] := by
  have htxts : (portQ (entrySent p k x e b) p).txts = (portQ b p).txts := by rw [entrySent_portQ hp]
  rw [h.entryLaunch_eq, (sent_ethDrain e _ p).portQ, entryDone, if_pos hts,
    txtsPut_txts _ _ _ _ _ _ (by rwa [htxts]), htxts]

theorem Launches.lost (h : Launches p k x e b) (hp : p < 2) (hts : x.tsReq = true) (hfull : (portQ b p).txts.length = 16)
    (ns frac : Nat) : (entryLaunch p ns frac e b).get (TIME_LQ_STA_TXTS_LOST p) = 1 := by
  have hkey : (PORT_TX_FRAMES p).key ≠ (TIME_LQ_STA_TXTS_LOST p).key := by
    simp only [PORT_TX_FRAMES, TIME_LQ_STA_TXTS_LOST, Fld.key]; omega
  rw [h.entryLaunch_eq, (sent_ethDrain e _ p).get _ hkey, entryDone, if_pos hts]
  exact txtsPut_lost _ _ _ _ _ _ (by rwa [entrySent_portQ hp])

end

end Sys2Proof.Machine

/-! R378, R383, R384: pushes, cancels and launches as commands, and what the host reads of transmit timestamps. -/

namespace Sys2Proof.Machine

section
variable (s : State) (dt p : Nat)

@[simp] theorem State.begin_portQ : portQ (s.begin dt).blk p = portQ s.blk p := by simp [portQ]
@[simp] theorem State.begin_portTxq : portTxq (s.begin dt).blk p = portTxq s.blk p := by simp [portTxq]
@[simp] theorem State.begin_wayEnd : wayEnd (s.begin dt).blk p = wayEnd s.blk p := by simp [wayEnd, pauseEnd, wireEnd]

end

theorem Blk.scanned_of_running {b : Blk} (h : b.running = true) : b.keep.scanned = false := by
  simp only [Blk.running, Bool.and_eq_true, Bool.not_eq_true'] at h
  exact h.2

/-- A host's command to an engine does its part, where GRA is answered and the module is no STANDBY. -/
theorem eng_hostCmd {s : State} (dt : Nat) {f g : Env → Blk → Blk} (hr : s.blk.running = true) (hh : s.blk.holdup = false)
    (hs : s.blk.role ≠ .standby) (hfg : ∀ e b, f e b = g e b) :
    eng dt (fun e => hostCmd (f e)) s = .next ((s.begin dt).act g) := by
  rw [eng_next s dt _ (Blk.scanned_of_running hr), State.act, hostCmd_run, hfg]
  · rfl
  all_goals simpa

/-! ### Pushes and cancels (R378, R384) -/

/-- Which entries a cancel leaves. -/
def keptBy (p tag : Nat) (e : Env) (b : Blk) (x : LqE) : Bool := x.psf || x.unit.isSome || x.tag != tag || armsNow p e b x

theorem keptBy_iff (p tag : Nat) (e : Env) (b : Blk) (x : LqE) :
    keptBy p tag e b x = true ↔ ¬ (x.tag = tag ∧ x.psf = false ∧ x.unit = none ∧ armsNow p e b x = false) := by
  simp only [keptBy, Bool.or_eq_true, bne_iff_ne, Option.isSome_iff_ne_none, ← Bool.not_eq_true]
  tauto

/-- A block after a cancel. -/
def cancelled (p tag : Nat) (e : Env) (b : Blk) : Blk :=
  finish .ok (lqShow p (modQ p (fun q => { q with lq := q.lq.filter (keptBy p tag e b) }) b))

/-- R378, R384: the module's own tag fails the ranges of a push, which come first. -/
theorem lqJudge_moduleTag (p t : Nat) {w : Nat} (e : Env) (b : Blk) (h : (pushC w).tag = 0xFFFF) :
    lqJudge p t w e b = .conflict :=
  if_pos (.inr (.inr (.inr h)))

/-- The module's own entries are those that it places. -/
theorem mem_placePsf {time : Nat} {bytes : List Byte} {q : PortQ} {x : LqE} (hx : x ∈ (placePsf time bytes q).lq) :
    x ∈ q.lq ∨ x = ⟨0xFFFF, 1, time, bytes, false, false, false, true, none, true⟩ := by
  unfold placePsf at hx
  split at hx
  case isTrue => exact .inl hx
  case isFalse => simpa using hx

/-- An armed entry whose time has come is the next to launch. -/
theorem launchNext_armed {e : Env} {b : Blk} {p : Nat} {r : Nat × LqE}
    (h : firstEntry e (fun x => x.unit.isSome && decide (lqAhead e x ≤ 0)) (portQ b p) = some r) :
    launchNext e b p = some r := by
  simp [launchNext, h]

theorem exec_entryLaunch {s : State} (hr : s.blk.running = true) (dt p ns frac : Nat) :
    exec (.entryLaunch dt p ns frac) s = .next ((s.begin dt).act (entryLaunch p ns frac)) :=
  eng_next s dt _ (Blk.scanned_of_running hr)

/-- The time that a command brings with it does not keep an entry from its launch. -/
theorem launches_begin {s : State} {dt p k : Nat} {x : LqE} (hr : s.blk.running = true) (hway : wayEnd s.blk p ≤ (s.begin dt).clk.now)
    (hnext : launchNext (s.begin dt).env (s.begin dt).blk p = some (k, x)) (hlink : s.blk.get (PORT_LINK_UP p) = 1)
    (htel : x.telem = false) (hheld : x.imm = true → portTxq s.blk p = [])
    (hslip : x.imm = true ∨ -(lqAhead (s.begin dt).env x) ≤ 1000 * s.env.get TIME_LQ_CFG_SLIP) :
    Launches p k x (s.begin dt).env (s.begin dt).blk where
  running := by simpa
  way := by simpa
  next := hnext
  link := by simpa
  telem := htel
  held := by simpa
  slip := by simpa

/-- Settles O17: what a cancel keeps is what its filter lets pass, an armed entry launches as any does, and the module's own tag
is refused before anything is judged of the queue. -/
theorem cancelsRemoveUnarmedEntriesOfTheirTag : Obligations.CancelsRemoveUnarmedEntriesOfTheirTag := by
  refine ⟨?cancel, ?launch, ?place, ?moduleTag⟩
  case cancel =>
    intro s dt p tag hr hh hs hp htag
    have hother : p = 0 ↔ 1 - p ≠ 0 := by omega
    have hexec : exec (.lqCancel dt p tag) s = .next ((s.begin dt).act (cancelled p tag)) :=
      eng_hostCmd dt hr hh hs fun _ _ => if_neg htag
    refine ⟨_, hexec, rfl, fun x => ?_, lqShow_free _ p, ?_, s.begin_par dt⟩
    · simp [cancelled, keptBy_iff]
    · simp [cancelled, portQ_modQ_other _ _ hother]
  case launch =>
    intro s dt p ns frac k x hr hp hway hfirst hlink himm htel hslip
    rw [← State.begin_portQ] at hfirst
    have hl := launches_begin hr hway (launchNext_armed hfirst) hlink htel (by simp [himm]) (.inr hslip)
    obtain ⟨l, htx, hempty⟩ := hl.tx ns frac
    refine ⟨_, l, exec_entryLaunch hr dt p ns frac, by simpa using htx, by simpa using hempty, ?_⟩
    simpa using hl.lq hp ns frac
  case place =>
    intro time bytes q x hx hnew
    obtain rfl := (mem_placePsf hx).resolve_left hnew
    exact ⟨rfl, rfl, rfl⟩
  case moduleTag =>
    intro s dt who p w hr hh hs htag
    exact ⟨eng_hostCmd dt hr hh hs fun e b => by rw [lqJudge_moduleTag p _ e b htag], eng_hostCmd dt hr hh hs fun _ _ => rfl⟩

/-! ### Reading and popping transmit timestamps (R383) -/

/-- What a reader sees of a port's timestamp queue. -/
theorem readWord_txts (e : Env) (b : Blk) (who : Nat) {a p n : Nat} (hp : p < 2) (hn : n < 3) (ha : a = 0x3120 + 0x40 * p + 4 * n) :
    readWord e b who a = txtsWord (portQ b p) n % 2 ^ 32 := by
  subst ha
  interval_cases p <;> interval_cases n <;> rfl

/-- Settles O18: the record that a launch queues, the words that show the head record, and its removal. -/
theorem transmitTimestampsAreQueued : Obligations.TransmitTimestampsAreQueued := by
  refine ⟨?launch, ?read, ?pop⟩
  case launch =>
    intro s dt p ns frac k x hr hp hway hnext hlink htel hts hheld hslip hlen
    have hl := launches_begin hr hway hnext hlink htel hheld hslip
    rw [← State.begin_portQ s dt] at hlen
    refine ⟨_, ⟨x.tag, ns, frac, wrapLow (s.begin dt).env ns⟩, exec_entryLaunch hr dt p ns frac, rfl, rfl, rfl, ?_, fun hfull => ?_⟩
    · simpa using hl.txts hp hts hlen ns frac
    · exact hl.lost hp hts (by simpa using hfull) ns frac
  case read =>
    intro e b who p r l hp hq htag hns hfrac
    refine ⟨?tag, ?ns, ?frac⟩
    case tag => rw [readWord_txts (n := 0) e b who hp (by decide) (by omega)]; simp only [txtsWord, hq]; omega
    case ns => rw [readWord_txts (n := 1) e b who hp (by decide) (by omega)]; simp only [txtsWord, hq]; omega
    case frac => rw [readWord_txts (n := 2) e b who hp (by decide) (by omega)]; simp only [txtsWord, hq]; omega
  case pop =>
    intro s dt p r l hr hh hs hq
    have hexec : exec (.txtsPop dt p) s = .next ((s.begin dt).act fun _ b =>
        finish .ok (modQ p (fun q => { q with txts := q.txts.drop 1 }) b)) :=
      eng_hostCmd dt hr hh hs fun _ _ => rfl
    exact ⟨_, hexec, rfl, by simp [hq]⟩

end Sys2Proof.Machine

/-! R368: what a host's write of TB0_ADDEND or TB1_ADDEND does. -/

namespace Sys2Proof.Machine

/-- The two registers of R368. -/
def IsAddend (f : Fld) : Prop := f = TIME_TB0_ADDEND ∨ f = TIME_TB1_ADDEND

section
variable {f : Fld} {v : Nat}

@[simp] theorem WWord.whole_addr (a v : Nat) : (WWord.whole a v).addr = a := rfl
@[simp] theorem WWord.whole_value (a v : Nat) : (WWord.whole a v).value = v := rfl

/-! ### The word: one plain setting of 32 bits -/

theorem IsAddend.wordFlds (hf : IsAddend f) : wordFlds f.addr = [f] := by
  rcases hf with rfl | rfl <;> decide +kernel

theorem IsAddend.inPage (hf : IsAddend f) : inPage f.addr = true := by rcases hf with rfl | rfl <;> rfl

theorem IsAddend.areaOf (hf : IsAddend f) : areaOf f.addr = .page 0x3000 := by rcases hf with rfl | rfl <;> rfl

theorem IsAddend.not_reactFixed (hf : IsAddend f) : reactFixed f.addr = false := by rcases hf with rfl | rfl <;> decide

/-- Where every bit is written, none of the old value stays. -/
theorem mergeBits_all {w v : Nat} (old : Nat) (hv : v < 2 ^ w) : mergeBits w old (2 ^ w - 1) v = v := by
  refine Nat.eq_of_testBit_eq fun i => ?_
  rw [mergeBits]
  by_cases hi : i < w
  · simp [Nat.testBit_mod_two_pow, hi]
  · have hzero : v.testBit i = false := Nat.testBit_lt_two_pow (hv.trans_le (Nat.pow_le_pow_right (by decide) (not_lt.mp hi)))
    simp [Nat.testBit_mod_two_pow, hi, hzero]

theorem IsAddend.bits (hf : IsAddend f) : (WWord.whole f.addr v).bits f = 2 ^ 32 - 1 := by
  rcases hf with rfl | rfl <;> simp [WWord.bits, WWord.whole, TIME_TB0_ADDEND, TIME_TB1_ADDEND]

theorem IsAddend.covers (hf : IsAddend f) : (WWord.whole f.addr v).covers f = true := by
  rw [WWord.covers, hf.bits]
  simp [WWord.whole]

/-- The register takes the word as it is written. -/
theorem IsAddend.merged (hf : IsAddend f) (old : Nat) (hv : v < 2 ^ 32) : (WWord.whole f.addr v).merged f old = v := by
  have hplace : f.w = 32 ∧ f.lo = 0 := by rcases hf with rfl | rfl <;> decide
  rw [WWord.merged, hf.bits, hplace.1, hplace.2, pow_zero, Nat.div_one, WWord.whole_value, Nat.mod_eq_of_lt hv, mergeBits_all old hv]

theorem IsAddend.fldNow (hf : IsAddend f) (e : Env) (b : Blk) : fldNow e b f = e.get f := by
  rcases hf with rfl | rfl <;> rfl

theorem IsAddend.not_foreignEnd (hf : IsAddend f) (b : Blk) : foreignEnd b f = false := by
  rcases hf with rfl | rfl <;> simp [foreignEnd, TIME_TB0_ADDEND, TIME_TB1_ADDEND]

theorem IsAddend.actionWord (hf : IsAddend f) (who : Nat) : actionWord who (WWord.whole f.addr v) = none := by
  rcases hf with rfl | rfl <;> simp [Machine.actionWord, WWord.whole, TIME_TB0_ADDEND, TIME_TB1_ADDEND]

theorem IsAddend.acc (hf : IsAddend f) : f.acc = .rw := by rcases hf with rfl | rfl <;> rfl

/-- R16, R368: the range of the registers. -/
theorem IsAddend.inRange_iff (hf : IsAddend f) : f.inRange v = true ↔ 0x04FF5C29 ≤ v ∧ v ≤ 0x0500A3D7 := by
  have hval : f.inRange v = (decide ((83844137 : Int) ≤ v) && decide ((v : Int) ≤ 83928023)) := by
    rcases hf with rfl | rfl <;> rfl
  rw [hval, Bool.and_eq_true, decide_eq_true_eq, decide_eq_true_eq]
  omega

theorem IsAddend.parWords (hf : IsAddend f) (hv : v < 2 ^ 32) (e : Env) (b : Blk) :
    parWords e b [WWord.whole f.addr v] = e.par.put f v := by
  have hfixed : evtEnFixed f = false := by rcases hf with rfl | rfl <;> decide
  simp [Machine.parWords, parWord, hf.inPage, hf.wordFlds, settable, hf.acc, hf.covers, hfixed,
    hf.not_reactFixed, hf.not_foreignEnd, hf.merged _ hv]

theorem IsAddend.staWord (hf : IsAddend f) (e : Env) (b : Blk) : staWord e b (WWord.whole f.addr v) = b := by
  simp [Machine.staWord, hf.wordFlds, hf.acc]

/-! ### The judgement (R101): no lock, no mode, no rule; the range alone -/

theorem IsAddend.wordConflict (hf : IsAddend f) (hv : v < 2 ^ 32) (e e' : Env) (b : Blk) :
    wordConflict e e' b (WWord.whole f.addr v) = (v != e.get f && !f.inRange v) := by
  have hrule : ruleOk e' b f.addr = true := by rcases hf with rfl | rfl <;> rfl
  have hunits : (f.addr == 0x30C0) = false := by rcases hf with rfl | rfl <;> decide
  simp [Machine.wordConflict, hf.wordFlds, hf.covers, settable, hf.acc, hf.merged _ hv, hf.fldNow, hf.not_foreignEnd, hrule,
    hf.not_reactFixed, hunits]

theorem IsAddend.pageBar (hf : IsAddend f) (hv : v < 2 ^ 32) (e e' : Env) (b : Blk) :
    pageBar false e e' b (WWord.whole f.addr v) = if v ≠ e.get f ∧ f.inRange v = false then some .conflict else none := by
  have hunits : ¬ (f.addr = 0x30C0 ∨ f.addr = 0x30D0 ∨ f.addr = 0x30E0) := by rcases hf with rfl | rfl <;> decide
  have hpage : ¬ f.addr / 0x1000 = 14 := by rcases hf with rfl | rfl <;> decide
  have hlocked : f.locked = false := by rcases hf with rfl | rfl <;> rfl
  simp [Machine.pageBar, hunits, hpage, hf.wordFlds, hlocked, hf.wordConflict hv]

theorem IsAddend.judgeWord (hf : IsAddend f) (hv : v < 2 ^ 32) (who : Nat) (e e' : Env) {b : Blk} (b' : Blk) (hs : b.role ≠ .standby) :
    judgeWord who 0 e e' b b' (WWord.whole f.addr v) = if v ≠ e.get f ∧ f.inRange v = false then .conflict else .ok := by
  have hbar : writeBarred who 0 f.addr b = false := by simp [writeBarred, hs]
  simp only [Machine.judgeWord, WWord.whole_addr, hf.areaOf, hbar, judgePage, hf.pageBar hv, hf.actionWord]
  split <;> rfl

/-! ### What a new addend brings -/

/-- Settings apart from the one that is written do not change. -/
theorem changed_put (p : RegMap) {fs : List Fld} (h : ∀ g ∈ fs, f.key ≠ g.key) : changed p (p.put f v) fs = false := by
  rw [changed, List.any_eq_false]
  intro g hg
  simp [RegMap.get_put_ne p v (h g hg)]

theorem raiseAll_nil (e : Env) {b : Blk} (hb : b.phase = .run) : raiseAll e [] b = b := by
  simp [raiseAll, hb, orderRaises, rankAll, ingestAll, dropCheck]

/-- R43: settings that bring in no reserve record none. -/
theorem reserveNew_same (p : RegMap) (e : Env) {b : Blk} (hb : b.phase = .run) (hso : soUsed e.par = soUsed p)
    (hsrc : srcUsed e.par = srcUsed p) : reserveNew p e b = b := by
  have hnone (l : List Nat) : l.filter (fun n => !l.contains n) = [] := by simp
  simp only [reserveNew, reserveUnits, hso, hsrc, hnone, List.length_nil, List.replicate_zero, raiseAll_nil e hb]

theorem IsAddend.soUsed (hf : IsAddend f) (p : RegMap) : soUsed (p.put f v) = soUsed p := by
  refine List.filter_congr fun n hn => ?_
  rw [RegMap.get_put_ne]
  revert n
  rcases hf with rfl | rfl <;> decide

theorem IsAddend.srcUsed (hf : IsAddend f) (p : RegMap) : srcUsed (p.put f v) = srcUsed p := by
  refine List.filter_congr fun n hn => ?_
  rw [RegMap.get_put_ne]
  revert n
  rcases hf with rfl | rfl <;> decide

/-- An addend is none of the settings that the supply, the input pairs, the ports, the coils or the reserves look at. -/
theorem IsAddend.settingsTaken (hf : IsAddend f) (p : RegMap) {e : Env} {b : Blk} (hb : b.phase = .run) (he : e.par = p.put f v) :
    settingsTaken p e b = { b with watch := watchTaken p e b.watch } := by
  have hne {fs : List Fld} (h : ∀ g ∈ fs, f.key ≠ g.key) : changed p e.par fs = false := he ▸ changed_put p h
  have hsupply : changed p e.par [PWR_V_COMMIT, PWR_CAP_MIN] = false := hne (by rcases hf with rfl | rfl <;> decide)
  have hpairs : changed p e.par ((List.range 6).map SAFE_SI_FUNC_P) = false := hne (by rcases hf with rfl | rfl <;> decide)
  have hports : changed p e.par ((List.range 2).map PORT_CFG_ADV_2G5) = false := hne (by rcases hf with rfl | rfl <;> decide)
  have hcoils : changed p e.par ((List.range 3).map coilR20) = false := hne (by rcases hf with rfl | rfl <;> decide)
  simp only [Machine.settingsTaken, hsupply, hpairs, hports, hcoils, Bool.false_eq_true, if_false]
  exact reserveNew_same p e hb (he ▸ hf.soUsed p) (he ▸ hf.srcUsed p)

theorem tpRerate_phase (e : Env) (b : Blk) : (tpRerate e b).phase = b.phase := by
  refine List.foldlRecOn (motive := fun x : Blk => x.phase = b.phase) [0, 1] _ rfl fun x hx g _ => ?_
  simp [apply_ite Blk.phase, modTp, hx]

/-- What a new addend does besides (R386): the generators' edges are set anew, and a new TB0_ADDEND sets TB0_SET. -/
theorem IsAddend.settingsChanged (hf : IsAddend f) (p : RegMap) (e : Env) (b : Blk) :
    settingsChanged p [f.addr] e b =
      Machine.settingsTaken p e (tpRerate e (if f.addr = 0x3060 then b.put TIME_STA_TB0_SET 1 else b)) := by
  have hparam : isParam f = false := by rcases hf with rfl | rfl <;> decide
  have haddr : f.addr = 0x3060 ∨ f.addr = 0x3064 := hf.imp (congrArg Fld.addr) (congrArg Fld.addr)
  simp only [Machine.settingsChanged, List.flatMap_cons, List.flatMap_nil, hf.wordFlds, List.append_nil, List.any_cons, hparam]
  rcases haddr with h | h <;> simp [h]

/-- A new addend leaves the module in service. -/
theorem IsAddend.settingsChanged_phase (hf : IsAddend f) (p : RegMap) {e : Env} {b : Blk} (hb : b.phase = .run)
    (he : e.par = p.put f v) : (Machine.settingsChanged p [f.addr] e b).phase = .run := by
  have hrun : (tpRerate e (if f.addr = 0x3060 then b.put TIME_STA_TB0_SET 1 else b)).phase = .run := by
    rw [tpRerate_phase]
    split <;> exact hb
  rw [hf.settingsChanged, hf.settingsTaken p hrun he]
  exact hrun

/-- R411: no addend is among the fields that are forwarded. -/
theorem IsAddend.forwardWords (hf : IsAddend f) (e : Env) (b : Blk) : forwardWords [f.addr] e b = b := by
  have hnone : forwarded.filter (fun g => [f.addr].contains g.addr) = [] := by rcases hf with rfl | rfl <;> decide
  exact if_pos (.inl (List.isEmpty_iff.mpr hnone))

/-! ### Taking effect (R102, R368) -/

/-- A write that is taken sets the register, and moves neither the clock nor the module out of service. -/
theorem IsAddend.applyWords (hf : IsAddend f) (hv : v < 2 ^ 32) (who : Nat) {s : State} (hs : s.blk.phase = .run) :
    (applyWords who [WWord.whole f.addr v] s).par = s.par.put f v ∧ (applyWords who [WWord.whole f.addr v] s).clk = s.clk ∧
      (applyWords who [WWord.whole f.addr v] s).blk.phase = .run ∧ (applyWords who [WWord.whole f.addr v] s).blk.lastStatus = .ok := by
  have hstep : (f.addr == 0x3068) = false := by rcases hf with rfl | rfl <;> decide
  simp only [Machine.applyWords, List.map_cons, List.map_nil, List.filter_cons, List.filter_nil, List.foldl_cons, List.foldl_nil,
    List.find?_cons, List.find?_nil, WWord.whole_addr, hf.inPage, if_true, hf.areaOf, hstep, hf.parWords hv, hf.staWord,
    hf.actionWord, hf.forwardWords, Bool.false_and]
  exact ⟨rfl, trivial, hf.settingsChanged_phase s.par hs rfl, rfl⟩

/-- R101, R368: a host's write of an addend, where GRA is answered and the module is no STANDBY: the range alone refuses it. -/
theorem IsAddend.hostWrite (hf : IsAddend f) (hv : v < 2 ^ 32) (who : Nat) {s : State} (hr : s.blk.running = true)
    (hh : s.blk.holdup = false) (hs : s.blk.role ≠ .standby) : hostWrite who f.addr v s =
      if v ≠ s.env.get f ∧ f.inRange v = false then { s with blk := finish .conflict s.blk }
      else Machine.applyWords who [WWord.whole f.addr v] s := by
  have halign : f.addr % 4 = 0 := by rcases hf with rfl | rfl <;> rfl
  have hplain : ¬ (f.addr = 0xA200 ∨ f.addr = 0x10040 ∨ f.addr = 0xE040) := by rcases hf with rfl | rfl <;> decide
  have hword : (⟨f.addr, 0xFFFFFFFF, v⟩ : WWord) = WWord.whole f.addr v := rfl
  simp only [Machine.hostWrite, Blk.answers, hr, hh, writeOne, halign, hf.areaOf, hword, writeWords, firstFail,
    hf.judgeWord hv who _ _ _ hs]
  by_cases hbad : v ≠ s.env.get f ∧ f.inRange v = false
  · simp [hbad, hplain]
  · simp [hbad]

/-- A value in the range is taken in whatever mode, and the module stays in service. -/
theorem IsAddend.write_taken (hf : IsAddend f) (hv : f.inRange v = true) (dt who : Nat) {s : State} (hr : s.blk.running = true)
    (hh : s.blk.holdup = false) (hs : s.blk.role ≠ .standby) : ∃ t, cmd dt (Machine.hostWrite who f.addr v) s = .next t ∧
      t.blk.lastStatus = .ok ∧ t.env.get f = v ∧ t.blk.phase = .run := by
  obtain ⟨-, hhi⟩ := hf.inRange_iff.mp hv
  have hword : v < 2 ^ 32 := by omega
  have hw : f.w = 32 := by rcases hf with rfl | rfl <;> rfl
  have hrun : (s.begin dt).blk.phase = .run := by
    simp only [Blk.running, Bool.and_eq_true, beq_iff_eq] at hr
    simpa using hr.1
  obtain ⟨hpar, -, hphase, hstatus⟩ := hf.applyWords hword who hrun
  refine ⟨_, rfl, ?_⟩
  rw [hf.hostWrite hword who (by simpa using hr) (by simpa using hh) (by simpa using hs), if_neg (by simp [hv])]
  refine ⟨hstatus, ?_, hphase⟩
  rw [Env.get, State.env_par, hpar, RegMap.get_put_self, hw, Nat.mod_eq_of_lt hword]

/-- R16: a changed value outside the range is refused. -/
theorem IsAddend.write_refused (hf : IsAddend f) (hword : v < 2 ^ 32) (hv : f.inRange v = false) (dt who : Nat) {s : State}
    (hr : s.blk.running = true) (hh : s.blk.holdup = false) (hs : s.blk.role ≠ .standby) (hnew : v ≠ s.env.get f) :
    cmd dt (Machine.hostWrite who f.addr v) s = .next ((s.begin dt).act fun _ b => finish .conflict b) := by
  rw [cmd_next, hf.hostWrite hword who (by simpa using hr) (by simpa using hh) (by simpa using hs),
    if_pos ⟨by simpa using hnew, hv⟩]
  rfl

end

/-- R366, R368: in the next CORE period a base moves by its effective addend. -/
theorem State.elapse_one {t : State} (h : t.blk.phase = .run) : (t.elapse 1).clk = t.clk.advance (effAddend t.par t.blk 0)
    (effAddend t.par t.blk 1) (effAddend t.par t.blk 2) 1 := by
  rw [t.elapse_clk 1 one_ne_zero, t.clkAfter_on 1 (by simp [h])]

/-- Settles O10: an addend is judged by its range alone, and the base's rate is read from the setting. -/
theorem addendsAreWritableInEveryMode : Obligations.AddendsAreWritableInEveryMode := by
  have h0 : IsAddend TIME_TB0_ADDEND := .inl rfl
  have h1 : IsAddend TIME_TB1_ADDEND := .inr rfl
  constructor
  · intro s dt who v hr hh hs hlo hhi
    obtain ⟨t, ht, htok, htget, htrun⟩ := h0.write_taken (h0.inRange_iff.mpr ⟨hlo, hhi⟩) dt who hr hh hs
    obtain ⟨u, hu, huok, huget, hurun⟩ := h1.write_taken (h1.inRange_iff.mpr ⟨hlo, hhi⟩) dt who hr hh hs
    refine ⟨t, u, ht, hu, htok, huok, htget, huget, ?_, ?_⟩
    · rw [State.elapse_one htrun, ← htget, ← Nat.mul_one (Int.toNat _)]
      rfl
    · rw [State.elapse_one hurun, ← huget, ← Nat.mul_one (Int.toNat _)]
      rfl
  · intro s dt who v hr hh hs hout hv
    have hbad {f : Fld} (hf : IsAddend f) : f.inRange v = false := by
      rw [← Bool.not_eq_true, hf.inRange_iff]
      omega
    exact ⟨h0.write_refused hv (hbad h0) dt who hr hh hs, h1.write_refused hv (hbad h1) dt who hr hh hs⟩

end Sys2Proof.Machine

/-! What every command of the block does: it is carried out in one of four shapes, and each of them keeps the queue, the soundness of
settings and clock, and, but for the writes, the boots and what ends in OFF, the settings. -/

namespace Sys2Proof.Machine

/-- What every command keeps: the queue, and the soundness of the state. -/
def Kept (s t : State) : Prop := t.pending = s.pending ∧ (s.Sound → t.Sound)

theorem Carried.kept {s t : State} (h : Carried s t) : Kept s t := ⟨h.1, h.2.2.1⟩

theorem Kept.trans {a b c : State} (h : Kept a b) (k : Kept b c) : Kept a c := ⟨k.1.trans h.1, k.2 ∘ h.2⟩

theorem State.elapse_kept (n : Nat) (s : State) : Kept s (s.elapse n) := ⟨s.elapse_pending n, elapse_sound n s⟩

theorem State.begin_kept (dt : Nat) (s : State) : Kept s (s.begin dt) := s.elapse_kept dt

/-! ### The operations on the whole state -/

theorem coldBoot_carried (pins : BootPins) (s : State) : Carried s (coldBoot pins s) := by
  unfold coldBoot; split
  · split
    · exact Carried.refl _
    · exact (Carried.blk _ _).trans (boot_carried _ _ _)
  · split
    · exact (goOff_carried s).trans (boot_carried _ _ _)
    · exact Carried.refl _

theorem bootRestart_carried (bad : List Nat) (s : State) : Carried s (bootRestart bad s) := by
  unfold bootRestart; split
  · exact Carried.refl _
  · exact ((goOff_carried s).trans (Carried.blk _ _)).trans (boot_carried _ _ _)

theorem undervoltageDetection_carried (vin : Nat) (s : State) : Carried s (undervoltageDetection vin s) := by
  unfold undervoltageDetection; split
  · exact (goOff_carried s).trans (Carried.blk _ _)
  · exact Carried.act _ _

theorem offEntry_carried (s : State) : Carried s (offEntry s) := by
  unfold offEntry; split
  · exact goOff_carried s
  · exact Carried.refl _

theorem holdExhaustion_carried (s : State) : Carried s (holdExhaustion s) := by
  unfold holdExhaustion; split
  · exact ((goOff_carried s).trans (Carried.blk _ _)).trans (cycle_carried _)
  · split
    · exact cycle_carried s
    · exact Carried.refl _

/-- The count of VIN absence is none of what is carried. -/
theorem Carried.away (s : State) (n : Nat) : Carried s { s with clk := { s.clk with away := n } } :=
  ⟨rfl, Nat.le_refl _, id, .inl ⟨rfl, rfl⟩⟩

theorem powerCycle_carried (s : State) : Carried s (powerCycle s) := by
  unfold powerCycle; split
  · exact (Carried.away s _).trans (cycle_carried _)
  · exact Carried.refl _

/-! ### The inspection port -/

theorem ipRead_carried (a : Nat) (s : State) : Carried s (ipRead a s) :=
  ip_carried _ _ _ _ fun u => by split <;> exact Carried.refl u

theorem ipWrite_carried (a v : Nat) (s : State) : Carried s (ipWrite a v s) :=
  ip_carried _ _ _ _ fun u => by
    split
    · exact Carried.refl u
    · exact writeOne_carried 4 0 a v u

theorem traceRead_carried (n : Nat) (s : State) : Carried s (traceRead n s) := ip_carried _ _ _ _ Carried.refl

/-- An access that reads leaves the settings. -/
theorem ipAccess_par {states : List Nat} {read : Bool} {f : State → State × Status × Nat} (s : State)
    (h : (f s).1.par = s.par) : (ipAccess states read f s).par = s.par := by
  unfold ipAccess; split
  · rfl
  · dsimp only; split
    · rfl
    · split
      · rfl
      · exact h

theorem ipRead_par (a : Nat) (s : State) : (ipRead a s).par = s.par := ipAccess_par s (by split <;> rfl)

theorem traceRead_par (n : Nat) (s : State) : (traceRead n s).par = s.par := ipAccess_par s rfl

/-! ### The shapes -/

/-- The shapes that the meaning of a command has: an engine's operation, that of pins and supervisors, a timer's expiry, and an
operation on the whole state, which leaves the settings where the command is none that sets them. -/
inductive Shape (i : Instr) (s : State) : Host.Outcome State Fault Refusal → Prop
  | engine (dt : Nat) (f : Env → Blk → Blk) : Shape i s (eng dt f s)
  | pins (dt : Nat) (f : Env → Blk → Blk) : Shape i s (pin dt f s)
  | timer (dt : Nat) (due : Blk → Option Nat) (f : Env → Blk → Blk) : Shape i s (expire dt due f s)
  | whole (dt : Nat) (f : State → State) (kept : ∀ s, Kept s (f s))
      (par : setsSettings i = false → ∀ s, (f s).par = s.par) : Shape i s (cmd dt f s)

section
variable {i : Instr} {s : State}

/-- An operation that may set settings. -/
theorem Shape.sets (hi : setsSettings i = true) (dt : Nat) {f : State → State} (hf : ∀ s, Carried s (f s)) :
    Shape i s (cmd dt f s) :=
  .whole dt f (fun s => (hf s).kept) fun h => absurd hi (by simp [h])

/-- An operation that never sets settings. -/
theorem Shape.reads (dt : Nat) {f : State → State} (hf : ∀ s, Carried s (f s)) (hp : ∀ s, (f s).par = s.par) :
    Shape i s (cmd dt f s) :=
  .whole dt f (fun s => (hf s).kept) fun _ => hp

end

/-- Every command has one of the shapes. -/
theorem exec_shape (i : Instr) (s : State) : Shape i s (exec i s) := by
  cases i
  case coldBoot dt pins => exact .sets rfl dt (coldBoot_carried pins)
  case bootRestart dt bad => exact .sets rfl dt (bootRestart_carried bad)
  case undervoltageDetection dt vin => exact .sets rfl dt (undervoltageDetection_carried vin)
  case offEntry dt => exact .sets rfl dt offEntry_carried
  case holdExhaustion dt => exact .sets rfl dt holdExhaustion_carried
  case powerCycle dt => exact .sets rfl dt powerCycle_carried
  case resume dt sound => exact .sets rfl dt (resume_carried sound)
  case graRead dt port fr => exact .reads dt (graFrame_carried 1 port fr) (graFrame_par 1 port fr · (by simp))
  case graSnap dt port fr => exact .reads dt (graFrame_carried 4 port fr) (graFrame_par 4 port fr · (by simp))
  case graHello dt port fr => exact .reads dt (graFrame_carried 5 port fr) (graFrame_par 5 port fr · (by simp))
  case graWrite dt port fr => exact .sets rfl dt (graFrame_carried 2 port fr)
  case graRmw dt port fr => exact .sets rfl dt (graFrame_carried 3 port fr)
  case ctlSnap dt who page => exact .sets rfl dt (hostMasked_carried who _ 2 2)
  case pageLock dt who page key => exact .sets rfl dt (hostWrite_carried who _ key)
  case registerWrite dt who a v => exact .sets rfl dt (hostWrite_carried who a v)
  case retire dt who p => exact .sets rfl dt (hostWrite_carried who _ _)
  case cellCapWrite dt who n cap => exact .sets rfl dt (hostWrite_carried who _ cap)
  case shuttleDisable dt who => exact .sets rfl dt (hostField_carried who _ _)
  case reactWrite dt who n high v => exact .sets rfl dt (hostWrite_carried who _ v)
  case tb0AddendWrite dt who v => exact .sets rfl dt (hostWrite_carried who _ v)
  case tb1AddendWrite dt who v => exact .sets rfl dt (hostWrite_carried who _ v)
  case tb0Step dt who v => exact .sets rfl dt (hostWrite_carried who _ v)
  case tpGo dt who g => exact .sets rfl dt (hostMasked_carried who _ _ _)
  case tpStop dt who g => exact .sets rfl dt (hostMasked_carried who _ _ _)
  case regReceive dt hdr r => exact .sets rfl dt (regIn_carried hdr r)
  case partnerTb0Addend dt who v => exact .sets rfl dt (hostWrite_carried who _ v)
  case partnerTb0Step dt who v => exact .sets rfl dt (hostWrite_carried who _ v)
  case rackDisable dt who => exact .sets rfl dt (hostField_carried who _ _)
  case ipRead dt a => exact .reads dt (ipRead_carried a) (ipRead_par a)
  case ipWrite dt a v => exact .sets rfl dt (ipWrite_carried a v)
  case traceRead dt n => exact .reads dt (traceRead_carried n) (traceRead_par n)
  case tb0Wrap dt => exact .whole dt tb0Wrap (fun s => s.elapse_kept _) fun _ s => s.elapse_par _
  case bootEnd | capMeasureStart | capMeasureComplete | holdChargeFail | undervoltageRelease | vinHigh | vcoilLoss | railFault |
      refLoss | pllcUnlock | pllnUnlock | islandLimitLatch | latchSet | aonThermalCheck | ipRelease | scanAccess |
      vcoilRestored | holdRecharged | ipEnable => exact .pins _ _
  case rideThroughExpiry | graCacheExpiry | coilTestEnd | feedbackCloseTimeout | feedbackOpenTimeout | ssbTestEnd | staggerEnd |
      pcTimeout | pcCoolEnd | pickEnd | disconnectConfirmTimeout | weldPulseEnd | weldRetry | weldWindowEnd | tCtrlExpiry |
      partnerRideExpiry | captureFreeze | syncLoss | authTimeout | journalPeriod | tpsWindowEnd | siDiscrepancy |
      siFirstEvaluation | skewWindowClose | psfWatchdogExpiry | watchdogStart | psfSingleExpired | pcvRecompute |
      eventHoldExpiry | logCommit | tpEdge | linkGraceEnd | laneRestore | partnerSeenExpiry | warmBootSuspendEnd |
      bootListenEnd | takeoverHoldEnd | orphanYield | orphanResume | handoverRequest | pollDue | backoffEnd | alertPauseEnd |
      recoveryHoldEnd | busRetry | activationTimeout | svcResponseTimeout | svcBlockEnd | svcTimeout |
      paramCommitTimer =>
    dsimp only [exec]
    exact .timer _ _ _
  all_goals exact .engine _ _

section
variable {i : Instr} {s t : State} {o : Host.Outcome State Fault Refusal}

/-- Whatever its shape, a meaning answers a next state. -/
theorem Shape.completes (h : Shape i s o) : ∃ t, o = .next t := by
  cases h <;> exact ⟨_, rfl⟩

theorem Shape.kept (h : Shape i s o) (ht : o = .next t) : Kept s t := by
  cases h with
  | engine dt f =>
    obtain rfl : _ = t := Host.Outcome.next.inj ht
    refine (s.begin_kept dt).trans ?_
    dsimp only; split
    · exact (Carried.refl _).kept
    · exact (Carried.act _ f).kept
  | pins dt f =>
    obtain rfl : _ = t := Host.Outcome.next.inj ht
    exact (s.begin_kept dt).trans (Carried.act _ f).kept
  | timer dt due f =>
    obtain rfl : _ = t := Host.Outcome.next.inj ht
    refine (s.begin_kept dt).trans ?_
    dsimp only; split
    · exact (Carried.refl _).kept
    · split
      · exact (Carried.refl _).kept
      · exact (State.elapse_kept _ _).trans (Carried.act _ f).kept
  | whole dt f kept par =>
    obtain rfl : _ = t := Host.Outcome.next.inj ht
    exact (s.begin_kept dt).trans (kept _)

theorem Shape.par (h : Shape i s o) (hi : setsSettings i = false) (ht : o = .next t) : t.par = s.par := by
  cases h with
  | engine dt f => exact eng_par s dt ht
  | pins dt f => exact pin_par s dt ht
  | timer dt due f => exact expire_par s dt ht
  | whole dt f kept par =>
    obtain rfl : _ = t := Host.Outcome.next.inj ht
    exact (par hi _).trans (s.begin_par dt)

end

/-! ### The step -/

/-- Settles O1: the queue is taken from its front. -/
theorem stepRunsTheFrontCommand : Obligations.StepRunsTheFrontCommand := fun _ _ _ => rfl

/-- Settles O2: an empty queue is one CORE period, outside OFF and in it. -/
theorem idleStepsLetTimePass : Obligations.IdleStepsLetTimePass := by
  have idle {s : State} (hq : s.pending = []) : step s = .next (s.elapse 1) := by rw [step, hq]; rfl
  have start (s : State) : (s.elapse 1).start = ((s.elapse 1).clk, s.blk) := rfl
  refine ⟨fun s hq hp => ⟨_, idle hq, ?_, s.elapse_par 1, s.elapse_blk 1, (s.elapse_pending 1).trans hq, start s⟩,
    fun s hq hp => ⟨_, idle hq, s.elapse_off 1 hp, s.elapse_par 1, s.elapse_blk 1, (s.elapse_pending 1).trans hq, start s⟩⟩
  rw [s.elapse_clk 1 one_ne_zero, s.clkAfter_on 1 hp]
  simp only [Clock.advance, Nat.mul_one]

/-- Settles O3: a meaning of each shape answers a next state. -/
theorem everyCommandCompletes : Obligations.EveryCommandCompletes := fun s i => (exec_shape i s).completes

/-- Settles O4: no shape touches the queue. -/
theorem commandsLeaveTheQueue : Obligations.CommandsLeaveTheQueue := fun s _ i h => ((exec_shape i s).kept h).1

/-- Settles O6: only the operations on the whole state set settings, and of these only the commands of `setsSettings`. -/
theorem settingsChangeOnlyByWritesBootsAndForwarding : Obligations.SettingsChangeOnlyByWritesBootsAndForwarding :=
  fun s _ i hi h => (exec_shape i s).par hi h

/-- Settles O7: a tick and a command of each shape keep the state sound. -/
theorem settingsAndClocksStaySound : Obligations.SettingsAndClocksStaySound := by
  intro s t hs ht
  unfold step at ht
  split at ht
  case h_1 =>
    obtain rfl : s.elapse 1 = t := Host.Outcome.next.inj ht
    exact elapse_sound 1 s hs
  case h_2 c rest _ => exact ((exec_shape c _).kept ht).2 hs

/-- Settles O8: the counters and the settings of the reset state, and the settings' reset values. -/
theorem resetIsSound : Obligations.ResetIsSound := by
  refine ⟨⟨?_, RegMap.wf_nil⟩, ?_⟩
  · unfold Clock.Sound
    decide
  · decide

end Sys2Proof.Machine

/-! What raises and reactions leave alone (R339 to R351): they act on WATCH, the sequence, the switches and the mode, on what leaves
the pins, and on a few status fields. -/

namespace Sys2Proof.Machine

/-- A block with what a raise and its reaction may change put aside. -/
def Blk.calm (b : Blk) : Blk :=
  { Blk.reset with
    phase := b.phase, role := b.role, twin := b.twin, lastStatus := b.lastStatus, free := b.free, therm := b.therm, safe := b.safe
    psf := b.psf, keep := b.keep, ledger := b.ledger, ports := b.ports, rack := b.rack, sess := b.sess }

/-- The status fields that a raise and its reaction may write. -/
def raiseFlds : List Fld :=
  [FAULT_PUSH_CNT_SKIPPED, SHUTTLE_CTL_MAINT_RUN, SHUTTLE_STA_HALTED, TIME_TP_CTL_GO 0, TIME_TP_CTL_GO 1, TIME_STA_TP0_RUNNING,
   TIME_STA_TP1_RUNNING, HVS_STA_IMD_INJECTING, SAFE_SW_STATE_SSBP_CMD, SAFE_SW_STATE_SSBN_CMD, SAFE_WELD_RESULT_PENDING,
   SAFE_SEQ_STA_STEP, SAFE_STA_ZERO_REQUEST, cmdFld 0, cmdFld 1, cmdFld 2, dutyFld 0, dutyFld 1, dutyFld 2]

/-- A status field that no raise writes. -/
abbrev Fld.Quiet (f : Fld) : Prop := ∀ g ∈ raiseFlds, g.key ≠ f.key

/-- What raises and reactions leave alone, from one block to the next; a lock may come, none goes. -/
structure Undisturbed (b b' : Blk) : Prop where
  calm : b'.calm = b.calm
  get : ∀ f : Fld, f.Quiet → b'.get f = b.get f
  locks : b.unlocked = [] → b'.unlocked = []

section
variable {b b' c : Blk}

theorem Undisturbed.refl (b : Blk) : Undisturbed b b := ⟨rfl, fun _ _ => rfl, id⟩

theorem Undisturbed.trans (h : Undisturbed b b') (k : Undisturbed b' c) : Undisturbed b c :=
  ⟨k.calm.trans h.calm, fun f hf => (k.get f hf).trans (h.get f hf), k.locks ∘ h.locks⟩

/-- A change outside all that. -/
theorem Undisturbed.same (hc : b'.calm = b.calm) (hs : b'.sta = b.sta) (hu : b'.unlocked = b.unlocked) : Undisturbed b b' :=
  ⟨hc, fun f _ => by rw [Blk.get_eq, Blk.get_eq, hs], fun h => hu.trans h⟩

theorem Undisturbed.put (b : Blk) {f : Fld} (hf : f ∈ raiseFlds) (v : Nat) : Undisturbed b (b.put f v) :=
  ⟨rfl, fun _ hg => Blk.get_put_ne _ v (hg f hf), id⟩

/-- A fold of operations that each leave all that alone. -/
theorem Undisturbed.foldl {α : Type} (l : List α) {f : Blk → α → Blk} (hf : ∀ x a, Undisturbed x (f x a)) (b : Blk) :
    Undisturbed b (l.foldl f b) :=
  List.foldlRecOn (motive := fun x : Blk => Undisturbed b x) l f (.refl b) fun x hx a _ => hx.trans (hf x a)

theorem Undisturbed.ite {p : Prop} [Decidable p] (h : Undisturbed b b') (k : Undisturbed b c) : Undisturbed b (if p then b' else c) := by
  split
  · exact h
  · exact k

/-! ### The fields one by one -/

variable (h : Undisturbed b b')
include h

theorem Undisturbed.phase : b'.phase = b.phase := (congrArg Blk.phase h.calm :)
theorem Undisturbed.role : b'.role = b.role := (congrArg Blk.role h.calm :)
theorem Undisturbed.twin : b'.twin = b.twin := (congrArg Blk.twin h.calm :)
theorem Undisturbed.lastStatus : b'.lastStatus = b.lastStatus := (congrArg Blk.lastStatus h.calm :)
theorem Undisturbed.safe : b'.safe = b.safe := (congrArg Blk.safe h.calm :)
theorem Undisturbed.keep : b'.keep = b.keep := (congrArg Blk.keep h.calm :)
theorem Undisturbed.sess : b'.sess = b.sess := (congrArg Blk.sess h.calm :)
theorem Undisturbed.ports : b'.ports = b.ports := (congrArg Blk.ports h.calm :)
theorem Undisturbed.running : b'.running = b.running := by simp only [Blk.running, h.phase, h.keep]
theorem Undisturbed.owner : b'.owner = b.owner := by simp only [Blk.owner, h.role]

end

section
variable (e : Env) (b : Blk)

/-! ### The operations that reactions are made of -/

theorem watch_undisturbed (w : Watch) : Undisturbed b { b with watch := w } := .same rfl rfl rfl
theorem modSeq_undisturbed (f : Seq → Seq) : Undisturbed b (modSeq f b) := .same rfl rfl rfl
theorem modTrip_undisturbed (f : Trip → Trip) : Undisturbed b (modTrip f b) := .same rfl rfl rfl
theorem endExc_undisturbed (src obj : Nat) : Undisturbed b (endExc e src obj b) := .same rfl rfl rfl
theorem setEvt_undisturbed (src : Nat) : Undisturbed b (setEvt e src b) := .same rfl rfl rfl
theorem unconfirm_undisturbed : Undisturbed b (unconfirm b) := .same rfl rfl rfl

theorem setStep_undisturbed (n : Nat) : Undisturbed b (setStep n b) := .put b (by decide) n

theorem imdStop_undisturbed : Undisturbed b (imdStop b) :=
  (Undisturbed.put b (f := HVS_STA_IMD_INJECTING) (by decide) 0).trans (.same rfl rfl rfl)

theorem tpStopAll_undisturbed : Undisturbed b (tpStopAll b) := by
  refine Undisturbed.trans (Undisturbed.trans (Undisturbed.trans (Undisturbed.trans ?_ (.put _ ?_ 0)) (.put _ ?_ 0)) (.put _ ?_ 0))
    (.put _ ?_ 0)
  · exact .same rfl rfl rfl
  all_goals decide

theorem cmdFld_mem (k : Nat) : cmdFld k ∈ raiseFlds := by unfold cmdFld; split <;> decide
theorem dutyFld_mem (k : Nat) : dutyFld k ∈ raiseFlds := by unfold dutyFld; split <;> decide

theorem releaseCoil_undisturbed (k : Nat) : Undisturbed b (releaseCoil k b) :=
  ((Undisturbed.put b (cmdFld_mem k) 0).trans (.put _ (dutyFld_mem k) 0)).trans (.same rfl rfl rfl)

theorem releaseAll_undisturbed : Undisturbed b (releaseAll b) :=
  ((releaseCoil_undisturbed b 0).trans (releaseCoil_undisturbed _ 1)).trans (releaseCoil_undisturbed _ 2)

theorem nvRequest_undisturbed (j : NvJob) : Undisturbed b (nvRequest j b) := by
  unfold nvRequest
  dsimp only
  split
  · exact .same rfl rfl rfl
  · split
    · exact .same rfl rfl rfl
    · split <;> exact .same rfl rfl rfl

theorem chainTx_undisturbed (ends : List Nat) (dest type : Nat) (p : List Byte) : Undisturbed b (chainTx ends dest type p b) :=
  .ite (.refl b) (.same rfl rfl rfl)

theorem shuttleHalt_undisturbed : Undisturbed b (shuttleHalt b) := by
  have halted (s : Shuttle) (n : Nat) : Undisturbed b (Blk.put { b with shuttle := s } SHUTTLE_STA_HALTED n) :=
    Undisturbed.trans (b' := { b with shuttle := s }) (.same rfl rfl rfl) (.put _ (by decide) n)
  unfold shuttleHalt
  split
  · exact (halted _ _).trans (chainTx_undisturbed _ _ _ _ _)
  · exact halted _ _

theorem gateEdges_undisturbed (old : Blk) : Undisturbed b (gateEdges e old b) := by
  unfold gateEdges gateEdgesAt
  refine .foldl _ (fun x k => ?_) b
  split
  · exact .refl x
  · exact .same rfl rfl rfl

theorem ssbSet_undisturbed (k : Nat) (on : Bool) : Undisturbed b (ssbSet e k on b) := by
  have hfld : (if k = 0 then SAFE_SW_STATE_SSBP_CMD else SAFE_SW_STATE_SSBN_CMD) ∈ raiseFlds := by split <;> decide
  exact ((Undisturbed.put b hfld _).trans (modTrip_undisturbed _ _)).trans (gateEdges_undisturbed e _ b)

theorem ssbOff_undisturbed : Undisturbed b (ssbOff e b) := (ssbSet_undisturbed e b 0 false).trans (ssbSet_undisturbed e _ 1 false)

theorem laneSend_undisturbed (k : Nat) (m : TwMsg) : Undisturbed b (laneSend e k m b) := by
  unfold laneSend
  split
  · exact .refl b
  · exact .ite (.same rfl rfl rfl) (.same rfl rfl rfl)

theorem twSend_undisturbed (m : TwMsg) : Undisturbed b (twSend e m b) := by
  have lane (x : Blk) (k : Nat) : Undisturbed x (if laneUp x k then laneSend e k m x else x) :=
    .ite (laneSend_undisturbed e x k m) (.refl x)
  exact .ite (.refl b) (.ite ((lane b 0).trans (lane _ 1)) (lane b _))

/-! ### The recorder -/

theorem ceilingAsk_undisturbed : Undisturbed b (ceilingAsk b) :=
  .ite ((watch_undisturbed b _).trans (nvRequest_undisturbed _ _)) (.refl b)

theorem pushQueue_undisturbed (r : Rec) : Undisturbed b (pushQueue e r b) :=
  .ite (.ite ((watch_undisturbed b _).trans (.put _ (by decide) _)) (watch_undisturbed b _)) (.refl b)

theorem logRecord_undisturbed (r : Rec) : Undisturbed b (logRecord e r b).2 := by
  unfold logRecord
  dsimp only
  split
  · split <;> exact watch_undisturbed b _
  · split
    · split <;> exact watch_undisturbed b _
    · split
      · exact watch_undisturbed b _
      · exact ((watch_undisturbed b _).trans (pushQueue_undisturbed e _ _)).trans (ceilingAsk_undisturbed _)

theorem record_undisturbed (r : Raise) : Undisturbed b (record e r b) :=
  .ite (setEvt_undisturbed e b _)
    (((setEvt_undisturbed e b _).trans (logRecord_undisturbed e _ _)).trans (watch_undisturbed _ _))

theorem account_undisturbed (r : Raise) : Undisturbed b (account e r b).2 := by
  unfold account
  dsimp only
  split
  · exact setEvt_undisturbed e b _
  · exact (((setEvt_undisturbed e b _).trans (logRecord_undisturbed e _ _)).trans (watch_undisturbed _ _)).trans
      (.ite (twSend_undisturbed e _ _) (.refl _))

/-! ### Modes and reactions -/

theorem modeHooks_undisturbed (m : Mode) : Undisturbed b (modeHooks e m b) :=
  .ite (.ite (tpStopAll_undisturbed b) ((tpStopAll_undisturbed b).trans (imdStop_undisturbed _)))
    (.ite (shuttleHalt_undisturbed b) (.refl b))

theorem modeTo_undisturbed (m : Mode) : Undisturbed b (modeTo e m b) := by
  have moved : Undisturbed b ({ b with mode := m, prev := b.mode, unlocked := [] }) := ⟨rfl, fun _ _ => rfl, fun _ => rfl⟩
  have hooked := (moved.trans (.put _ (f := SHUTTLE_CTL_MAINT_RUN) (by decide) 0)).trans (modeHooks_undisturbed e _ m)
  exact .ite (hooked.trans (watch_undisturbed _ _)) hooked

theorem setMode_undisturbed (m : Mode) : Undisturbed b (setMode e m b) :=
  .ite (.refl b) ((modeTo_undisturbed e b m).trans (record_undisturbed e _ _))

theorem startDis_undisturbed (d : Dis) : Undisturbed b (startDis e d b) := by
  refine ((((ssbOff_undisturbed e b).trans (unconfirm_undisturbed _)).trans (.put _ ?_ 0)).trans (modSeq_undisturbed _ _)).trans
    (setStep_undisturbed _ _)
  decide

theorem tripIdle_undisturbed : Undisturbed b (tripIdle e b) := by
  refine (((((ssbOff_undisturbed e b).trans (unconfirm_undisturbed _)).trans (releaseAll_undisturbed _)).trans
    (modSeq_undisturbed _ _)).trans ((Undisturbed.put _ ?_ 0).trans (setStep_undisturbed _ _))).trans (setMode_undisturbed e _ _)
  decide

theorem onlyIf_undisturbed (p : Bool) {f : Blk → Blk} (hf : Undisturbed b (f b)) : Undisturbed b (onlyIf p f b) := .ite hf (.refl b)

theorem react_undisturbed (lvl src : Nat) : Undisturbed b (react e lvl src b) := by
  have latched : Undisturbed b (if lvl ≠ 5 ∨ b.pwr.latch then b else
      onlyIf (b.mode == .tripped) shuttleHalt { b with pwr := { b.pwr with latch := true } }) :=
    .ite (.refl b) (Undisturbed.trans (b' := { b with pwr := { b.pwr with latch := true } }) (.same rfl rfl rfl)
      (onlyIf_undisturbed _ _ (shuttleHalt_undisturbed _)))
  unfold react
  dsimp only
  refine latched.trans ?_
  generalize (if lvl ≠ 5 ∨ b.pwr.latch then b else onlyIf (b.mode == .tripped) shuttleHalt { b with pwr := { b.pwr with latch := true } })
    = c
  split
  · split
    · exact modSeq_undisturbed _ _
    · split
      · exact startDis_undisturbed e _ _
      · split
        · exact .refl _
        · exact (modSeq_undisturbed _ _).trans (.put _ (by decide) 1)
  · split
    · exact modSeq_undisturbed _ _
    · exact startDis_undisturbed e _ _
  · exact tripIdle_undisturbed e _
  · exact tripIdle_undisturbed e _
  · exact tripIdle_undisturbed e _
  · exact .refl _
  · exact .refl _

theorem standbyReact_undisturbed (lvl : Nat) : Undisturbed b (standbyReact e lvl b) :=
  Undisturbed.trans (b' := if lvl = 5 then { b with pwr := { b.pwr with latch := true } } else b)
    (.ite (.same rfl rfl rfl) (.refl b)) (.ite ((ssbOff_undisturbed e _).trans (releaseAll_undisturbed _)) (.refl _))

theorem reactOne_undisturbed (p : Nat × Nat) : Undisturbed b (reactOne e b p) :=
  .ite (standbyReact_undisturbed e b _) (react_undisturbed e b _ _)

theorem ingestOne_undisturbed (x : Blk × List (Nat × Nat)) (r : Raise) : Undisturbed x.1 (ingestOne e x r).1 := by
  unfold ingestOne
  split
  · exact record_undisturbed e x.1 r
  · exact account_undisturbed e x.1 r

theorem ingestAll_undisturbed (rs : List Raise) : Undisturbed b (ingestAll e rs b) :=
  Undisturbed.trans (b' := (rs.foldl (ingestOne e) (b, [])).1)
    (List.foldlRecOn (motive := fun x : Blk × List (Nat × Nat) => Undisturbed b x.1) rs _ (.refl b)
      fun x hx r _ => hx.trans (ingestOne_undisturbed e x r))
    (.foldl _ (fun x p => reactOne_undisturbed e x p) _)

theorem dropCheck_undisturbed (before : Nat) : Undisturbed b (dropCheck e before b) :=
  .ite ((watch_undisturbed b _).trans (ingestAll_undisturbed e _ _)) (.refl b)

/-! ### Raises, conditions and changes of mode -/

theorem raiseAll_undisturbed (rs : List Raise) : Undisturbed b (raiseAll e rs b) := by
  unfold raiseAll
  split
  · exact .refl b
  · exact watch_undisturbed b _
  · exact watch_undisturbed b _
  · exact (ingestAll_undisturbed e b _).trans (dropCheck_undisturbed e _ _)

theorem raise_undisturbed (src code d0 d1 : Nat) : Undisturbed b (raise e src code d0 d1 b) := raiseAll_undisturbed e b _

theorem recordRaise_undisturbed (r : Raise) : Undisturbed b (recordRaise e r b) := raiseAll_undisturbed e b _

theorem changeMode_undisturbed (m : Mode) : Undisturbed b (changeMode e m b) :=
  .ite (.refl b) ((modeTo_undisturbed e b m).trans (recordRaise_undisturbed e _ _))

theorem beginExc_undisturbed (src obj code d0 d1 : Nat) : Undisturbed b (beginExc e src obj code d0 d1 b) :=
  .ite (.refl b) ((watch_undisturbed b _).trans (raise_undisturbed e _ _ _ _ _))

theorem judge_undisturbed (p : Bool) (src obj code d0 d1 : Nat) : Undisturbed b (judge e p src obj code d0 d1 b) :=
  .ite (beginExc_undisturbed e b _ _ _ _ _) (endExc_undisturbed e b _ _)

theorem judgeWith_undisturbed (l : List Cond) (rs : List Raise) : Undisturbed b (judgeWith e l rs b) :=
  ((Undisturbed.foldl _ (fun x (c : Cond) => endExc_undisturbed e x c.src c.obj) b).trans (watch_undisturbed _ _)).trans
    (raiseAll_undisturbed e _ _)

theorem judgeAll_undisturbed (l : List Cond) : Undisturbed b (judgeAll e l b) := judgeWith_undisturbed e b l []

theorem precondLost_undisturbed (src : Nat) : Undisturbed b (precondLost e src b) := .ite (startDis_undisturbed e b _) (.refl b)

end

end Sys2Proof.Machine

/-! R97, R100, R101: the words of a page's header that hold no field: LOCK and the reserved offsets. What they read, and what a
write of them does. -/

namespace Sys2Proof.Machine

/-- The offsets of LOCK and of the reserved words in every page (R97). -/
def bareOffs : List Nat := [0x18, 0x20, 0x24, 0x28, 0x2C, 0x30, 0x34, 0x38, 0x3C]

/-- The address of such a word. -/
def IsBare (a : Nat) : Prop := ∃ page ≤ 16, ∃ off ∈ bareOffs, a = 0x1000 * page + off

theorem IsBare.lock {page : Nat} (h : page ≤ 16) : IsBare (0x1000 * page + 0x18) := ⟨page, h, 0x18, by decide, rfl⟩

theorem IsBare.reserved {page k : Nat} (h : page ≤ 16) (hk : k < 8) : IsBare (0x1000 * page + 0x20 + 4 * k) := by
  refine ⟨page, h, 0x20 + 4 * k, ?_, Nat.add_assoc _ _ _⟩
  revert k
  decide

section
variable {a : Nat}

theorem IsBare.place (h : IsBare a) :
    a < 0x11000 ∧ a % 4 = 0 ∧ (a % 0x1000 = 0x18 ∨ (0x20 ≤ a % 0x1000 ∧ a % 0x1000 < 0x40)) := by
  obtain ⟨page, hpage, off, hoff, rfl⟩ := h
  have hrange : off < 0x40 ∧ off % 4 = 0 ∧ (off = 0x18 ∨ 0x20 ≤ off) := by
    revert off
    decide
  omega

theorem IsBare.wordFlds (h : IsBare a) : wordFlds a = [] := by
  have none_there : ∀ page ∈ List.range 17, ∀ off ∈ bareOffs, Machine.wordFlds (0x1000 * page + off) = [] := by
    decide +kernel
  obtain ⟨page, hpage, off, hoff, rfl⟩ := h
  exact none_there page (List.mem_range.mpr (by omega)) off hoff

/-- What is forwarded lies in CTL or past the header (R415). -/
theorem IsBare.not_forwarded (h : IsBare a) : forwarded.filter (fun f => [a].contains f.addr) = [] := by
  have off_header : ∀ f ∈ forwarded, f.addr % 0x1000 = 8 ∨ 0x40 ≤ f.addr % 0x1000 := by decide
  obtain ⟨-, -, hoff⟩ := h.place
  refine List.filter_eq_nil_iff.mpr fun f hf => ?_
  have := off_header f hf
  simp only [List.contains_cons, List.contains_nil, Bool.or_false, beq_iff_eq]
  rintro rfl
  omega

theorem IsBare.inPage (h : IsBare a) : inPage a = true := decide_eq_true h.place.1

theorem IsBare.areaOf (h : IsBare a) : areaOf a = .page (a / 0x1000 * 0x1000) := if_pos h.place.1

@[simp] theorem WWord.whole_mask (a v : Nat) : (WWord.whole a v).mask = 0xFFFFFFFF := rfl

/-! ### Reading -/

theorem IsBare.wideWord (h : IsBare a) (e : Env) (b : Blk) : wideWord e b a = none := by
  obtain ⟨-, -, hoff⟩ := h.place
  unfold Machine.wideWord
  split
  case h_20 => rfl
  all_goals omega

theorem IsBare.specialWord (h : IsBare a) (e : Env) (b : Blk) (who : Nat) : specialWord e b who a = none := by
  obtain ⟨-, -, hoff⟩ := h.place
  rw [Machine.specialWord, h.wideWord]
  dsimp only
  repeat rw [if_neg (by omega)]

theorem IsBare.fldsWord (h : IsBare a) (e : Env) (b : Blk) : fldsWord e b a = 0 := by
  rw [Machine.fldsWord, h.wordFlds]
  rfl

/-- R97, R15: a reserved word reads 0. -/
theorem IsBare.readWord (h : IsBare a) (hlock : a % 0x1000 ≠ 0x18) (e : Env) (b : Blk) (who : Nat) : readWord e b who a = 0 := by
  obtain ⟨-, -, hoff⟩ := h.place
  have hpage : pageWord e b who a = 0 := by
    unfold pageWord
    dsimp only
    split
    case h_7 => rw [h.specialWord, h.fldsWord]; exact ite_self 0
    all_goals omega
  rw [Machine.readWord, h.areaOf]
  exact congrArg (· % 2 ^ 32) hpage

/-! ### Writing -/

variable (v : Nat)

theorem IsBare.parWords (h : IsBare a) (e : Env) (b : Blk) : parWords e b [WWord.whole a v] = e.par := by
  simp [Machine.parWords, parWord, h.inPage, h.wordFlds]

theorem IsBare.staWord (h : IsBare a) (e : Env) (b : Blk) : staWord e b (WWord.whole a v) = b := by
  simp [Machine.staWord, h.wordFlds]

theorem IsBare.hostWrote (h : IsBare a) (e : Env) (old b was : Blk) : hostWrote e old b [WWord.whole a v] was = was := by
  simp [Machine.hostWrote, h.wordFlds]

/-- No field, no lock, no mode, no range and no rule: role and epoch alone keep such a word from its engine. -/
theorem IsBare.pageBar (h : IsBare a) (no : Bool) (e e' : Env) (b : Blk) :
    pageBar no e e' b (WWord.whole a v) = if no then some .denied else none := by
  obtain ⟨-, -, hoff⟩ := h.place
  have hunits : ¬ (a = 0x30C0 ∨ a = 0x30D0 ∨ a = 0x30E0) := by omega
  have htwin : ¬ (a % 0x1000 = 0x0C ∨ 0x40 ≤ a % 0x1000) := by omega
  have hown : (a == 0x30C0) = false := by simpa using by omega
  simp [Machine.pageBar, wordConflict, h.wordFlds, hunits, htwin, hown]

theorem changed_self (p : RegMap) (fs : List Fld) : changed p p fs = false := by simp [changed]

/-- Such a word changes no setting, so it brings nothing. -/
theorem IsBare.settingsChanged (h : IsBare a) (e : Env) {b : Blk} (hb : b.phase = .run) :
    settingsChanged e.par [a] e b = { b with watch := watchTaken e.par e b.watch } := by
  obtain ⟨-, -, hoff⟩ := h.place
  have hit (n : Nat) (hn : n % 0x1000 = 8 ∨ 0x40 ≤ n % 0x1000) : [a].contains n = false := by
    simpa using by omega
  have hrack : (decide (0xF100 ≤ a) && decide (a < 0xF500)) = false := by simpa using by omega
  simp only [Machine.settingsChanged, settingsTaken, List.flatMap_cons, h.wordFlds, List.flatMap_nil, List.append_nil, List.any_nil,
    changed_self, hit 0x306C (by decide), hit 0x3060 (by decide), hit 0x3064 (by decide), hit 0x40AC (by decide),
    hit 0x6040 (by decide), hit 0x8008 (by decide), hit 0xF008 (by decide), List.any_cons, hrack, Bool.or_false, Bool.false_eq_true,
    if_false, false_or, false_and]
  exact reserveNew_same e.par e hb rfl rfl

theorem IsBare.forwardWords (h : IsBare a) (e : Env) (b : Blk) : forwardWords [a] e b = b :=
  if_pos (.inl (List.isEmpty_iff.mpr h.not_forwarded))

/-- R97: no engine listens at a reserved word. -/
theorem IsBare.actionWord_reserved (h : IsBare a) (hlock : a % 0x1000 ≠ 0x18) (who : Nat) : actionWord who (WWord.whole a v) = none := by
  obtain ⟨-, -, hoff⟩ := h.place
  have hfirst : ¬ (¬ Machine.inPage a = true ∨ (WWord.whole a v).mask = 0) := by simp [h.inPage, WWord.whole]
  unfold Machine.actionWord
  dsimp only [WWord.whole_addr]
  rw [if_neg hfirst]
  repeat rw [if_neg (by omega)]

/-- R100: LOCK's key is written in the low half. -/
theorem actionWord_lock {page : Nat} (hpage : page ≤ 16) (who : Nat) :
    actionWord who (WWord.whole (0x1000 * page + 0x18) 0x4C4B) = some (fun e b => localCmd (pageLock e page 0x4C4B) b) := by
  have hoff : (0x1000 * page + 0x18) % 0x1000 = 0x18 := by omega
  have hdiv : (0x1000 * page + 0x18) / 0x1000 = page := by omega
  have hval : (WWord.whole (0x1000 * page + 0x18) 0x4C4B).val = 0x4C4B := (by decide : 0x4C4B &&& 0xFFFFFFFF = 0x4C4B)
  simp [actionWord, (IsBare.lock hpage).inPage, hoff, hdiv, hval, WWord.whole_mask]

/-- What such a word's write leaves of the blocks: WATCH's counts as they are, and its engine's part. -/
def bareEffect (who a v : Nat) (e : Env) (b : Blk) : Blk :=
  let b' : Blk := { b with watch := watchTaken e.par e b.watch }
  match actionWord who (WWord.whole a v) with
  | some f => f e b'
  | none => b'

theorem IsBare.applyWords (h : IsBare a) (who : Nat) {s : State} (hb : s.blk.phase = .run) :
    applyWords who [WWord.whole a v] s = { s with blk := finish .ok (bareEffect who a v s.env s.blk) } := by
  obtain ⟨-, -, hoff⟩ := h.place
  have hstep : (a == 0x3068) = false := by simpa using by omega
  have hblk : Machine.forwardWords [a] s.env (Machine.settingsChanged s.par [a] s.env s.blk) =
      { s.blk with watch := watchTaken s.par s.env s.blk.watch } := by
    rw [h.forwardWords]
    exact h.settingsChanged s.env hb
  cases hact : actionWord who (WWord.whole a v) <;>
    simp only [Machine.applyWords, bareEffect, hact, List.map_cons, List.map_nil, List.filter_cons, List.filter_nil, List.foldl_cons,
      List.foldl_nil, List.find?_cons, List.find?_nil, WWord.whole_addr, h.inPage, if_true, h.areaOf, hstep, h.parWords, h.staWord,
      h.hostWrote, Bool.false_and, State.env_par]
  case none => exact congrArg (fun x => { s with blk := finish .ok x }) hblk
  case some f => exact congrArg (fun x => { s with blk := finish .ok (f s.env x) }) hblk

/-- A host's write of such a word, where no role or epoch bars it and its engine, if it has one, answers OK: it takes effect. -/
theorem IsBare.hostWrite (h : IsBare a) (who : Nat) {s : State} (hr : s.blk.running = true) (hh : s.blk.holdup = false)
    (hno : writeBarred who 0 a s.blk = false)
    (hok : ∀ f, actionWord who (WWord.whole a v) = some f → (f s.env (finish .ok s.blk)).lastStatus = .ok) :
    hostWrite who a v s = { s with blk := finish .ok (bareEffect who a v s.env s.blk) } := by
  obtain ⟨-, halign, -⟩ := h.place
  have hword : (⟨a, 0xFFFFFFFF, v⟩ : WWord) = WWord.whole a v := rfl
  have hrun : s.blk.phase = .run := by
    simp only [Blk.running, Bool.and_eq_true, beq_iff_eq] at hr
    exact hr.1
  have henv : ({ s.env with par := Machine.parWords s.env s.blk [WWord.whole a v] } : Env) = s.env := by rw [h.parWords]
  have hjudge : judgeWord who 0 s.env s.env s.blk s.blk (WWord.whole a v) = .ok := by
    simp only [judgeWord, WWord.whole_addr, h.areaOf, hno, judgePage, h.pageBar, Bool.false_eq_true, if_false, Option.getD_none]
    split
    case h_1 f hf => exact hok f hf
    case h_2 => rfl
  simp only [Machine.hostWrite, Blk.answers, hr, hh, writeOne, halign, h.areaOf, hword, writeWords, henv, List.filter_cons,
    WWord.whole_addr, h.inPage, if_true, List.filter_nil, List.foldl_cons, List.foldl_nil, h.staWord, firstFail, hjudge,
    h.applyWords v who hrun, Bool.not_false, Bool.and_true, ne_eq, not_true_eq_false, if_false]

end

/-- Settles O13: a reserved word holds no field and reaches no engine. -/
theorem reservedOffsetsReadZeroAndIgnoreWrites : Obligations.ReservedOffsetsReadZeroAndIgnoreWrites := by
  have hlock (page : Nat) {k : Nat} (hk : k < 8) : (0x1000 * page + 0x20 + 4 * k) % 0x1000 ≠ 0x18 := by omega
  constructor
  · intro e b who page k hpage hk
    exact (IsBare.reserved hpage hk).readWord (hlock page hk) e b who
  · intro s dt who page k v hr hh hs hpage hk
    have h := IsBare.reserved hpage hk
    have hnone := h.actionWord_reserved v (hlock page hk) who
    refine ⟨_, rfl, ?_⟩
    rw [h.hostWrite v who (by simpa using hr) (by simpa using hh) (by simp [writeBarred, hs]) (by simp [hnone])]
    simp [bareEffect, hnone]


/-! ### Locks -/

/-- What the recorder changes of the blocks: WATCH, the queue of commits, and status fields. -/
def Recorded (b b' : Blk) : Prop := ∃ w p st, b' = { b with watch := w, pwr := p, sta := st }

theorem Recorded.refl (b : Blk) : Recorded b b := ⟨_, _, _, rfl⟩

theorem Recorded.trans {a b c : Blk} (h : Recorded a b) (k : Recorded b c) : Recorded a c := by
  obtain ⟨w, p, st, rfl⟩ := h
  obtain ⟨w', p', st', rfl⟩ := k
  exact ⟨w', p', st', rfl⟩

theorem Recorded.watch (b : Blk) (w : Watch) : Recorded b { b with watch := w } := ⟨w, _, _, rfl⟩

theorem nvRequest_recorded (j : NvJob) (b : Blk) : Recorded b (nvRequest j b) := by
  unfold nvRequest
  dsimp only
  split
  · exact ⟨_, _, _, rfl⟩
  · split
    · exact ⟨_, _, _, rfl⟩
    · split <;> exact ⟨_, _, _, rfl⟩

theorem ceilingAsk_recorded (b : Blk) : Recorded b (ceilingAsk b) := by
  unfold ceilingAsk
  split
  · exact (Recorded.watch b _).trans (nvRequest_recorded _ _)
  · exact Recorded.refl b

theorem pushQueue_recorded (e : Env) (r : Rec) (b : Blk) : Recorded b (pushQueue e r b) := by
  unfold pushQueue
  split
  · dsimp only
    split <;> exact ⟨_, _, _, rfl⟩
  · exact Recorded.refl b

theorem logRecord_recorded (e : Env) (r : Rec) (b : Blk) : Recorded b (logRecord e r b).2 := by
  unfold logRecord
  dsimp only
  split
  · split <;> exact Recorded.watch b _
  · split
    · split <;> exact Recorded.watch b _
    · split
      · exact Recorded.watch b _
      · exact ((Recorded.watch b _).trans (pushQueue_recorded _ _ _)).trans (ceilingAsk_recorded _)

theorem record_recorded (e : Env) (r : Raise) (b : Blk) : Recorded b (record e r b) := by
  have hevt : Recorded b (setEvt e r.src b) := Recorded.watch b _
  unfold record
  dsimp only
  split
  · exact hevt
  · exact (hevt.trans (logRecord_recorded _ _ _)).trans (Recorded.watch _ _)

/-- Beside the mode a change of mode touches no mode and no lock. -/
theorem modeHooks_locks (e : Env) (m : Mode) (b : Blk) :
    (modeHooks e m b).mode = b.mode ∧ (modeHooks e m b).prev = b.prev ∧ (modeHooks e m b).unlocked = b.unlocked := by
  unfold modeHooks shuttleHalt
  dsimp only
  split
  · split <;> exact ⟨rfl, rfl, rfl⟩
  · split
    · split
      · unfold chainAll chainTx
        split <;> exact ⟨rfl, rfl, rfl⟩
      · exact ⟨rfl, rfl, rfl⟩
    · exact ⟨rfl, rfl, rfl⟩

/-- R122, R100: the mode, the one before it, and no page unlocked. -/
theorem modeTo_locks (e : Env) (m : Mode) (b : Blk) :
    (modeTo e m b).mode = m ∧ (modeTo e m b).prev = b.mode ∧ (modeTo e m b).unlocked = [] := by
  unfold modeTo
  dsimp only
  split <;> exact modeHooks_locks e m _

theorem setMode_locks (e : Env) {m : Mode} {b : Blk} (h : b.mode ≠ m) :
    (setMode e m b).mode = m ∧ (setMode e m b).prev = b.mode ∧ (setMode e m b).unlocked = [] := by
  obtain ⟨w, p, st, hrec⟩ := record_recorded e (modeRaise m b.mode) (modeTo e m b)
  rw [setMode, if_neg h, hrec]
  exact modeTo_locks e m b

/-- R100, R103: the key unlocks the page, unless the mode changed in that cycle. -/
theorem pageLock_key (e : Env) (page : Nat) {b : Blk} (hr : b.running = true) (hh : b.holdup = false) :
    localCmd (pageLock e page 0x4C4B) b = pageLock e page 0x4C4B b ∧ (pageLock e page 0x4C4B b).lastStatus = .ok ∧
      (e.start.2.mode = b.mode → (pageLock e page 0x4C4B b).unlocked.contains page = true) := by
  refine ⟨localCmd_run b _ hr hh, rfl, fun hm => ?_⟩
  simp [pageLock, hm, mem_insSet]

/-- A word that covers no RWL field is not kept from its engine by a lock. -/
theorem pageBar_ne_locked (no : Bool) (e e' : Env) (b : Blk) {w : WWord}
    (h : (wordFlds w.addr).any (fun f => w.covers f && f.locked) = false) : pageBar no e e' b w ≠ some .locked := by
  have hnone : (wordFlds w.addr).filter (fun f => w.covers f && f.locked) = [] := by
    simpa [List.filter_eq_nil_iff] using h
  unfold pageBar
  simp only [hnone, List.isEmpty_nil, Bool.not_true, Bool.false_eq_true, false_and, if_false]
  split_ifs <;> simp

/-! ### The status of a write -/

@[simp] theorem modTp_lastStatus (g : Nat) (f : Tp → Tp) (b : Blk) : (modTp g f b).lastStatus = b.lastStatus := rfl

@[simp] theorem tpSet_lastStatus (e : Env) (g r : Nat) (b : Blk) : (tpSet e g r b).lastStatus = b.lastStatus := by simp [tpSet]

@[simp] theorem tpStop_lastStatus (g : Nat) (b : Blk) : (tpStop g b).lastStatus = b.lastStatus := by simp [tpStop]

@[simp] theorem raise_lastStatus (e : Env) (src code d0 d1 : Nat) (b : Blk) : (raise e src code d0 d1 b).lastStatus = b.lastStatus :=
  (raise_undisturbed e b src code d0 d1).lastStatus

@[simp] theorem tpStepped_lastStatus (g : Nat) (st : Int) (e : Env) (b : Blk) : (tpStepped g st e b).lastStatus = b.lastStatus := by
  have late (p : Prop) [Decidable p] (r : Nat) : (if p then raise e SRC_PULSE_LATE 0 r g b else b).lastStatus = b.lastStatus := by
    split <;> simp
  unfold tpStepped
  dsimp only
  split
  · rfl
  · split
    · exact late _ _
    · split
      · exact (tpSet_lastStatus _ _ _ _).trans (late _ _)
      · split
        · exact (tpStop_lastStatus _ _).trans (raise_lastStatus e _ _ _ _ b)
        · exact tpSet_lastStatus _ _ _ _

@[simp] theorem lqStepped_lastStatus (e : Env) (p : Nat) (b : Blk) : (lqStepped e p b).lastStatus = b.lastStatus :=
  (raiseAll_undisturbed e _ _).lastStatus

/-- A step of TB0 answers nothing of its own. -/
theorem tb0Step_lastStatus (st : Int) (s : State) : (tb0Step st s).blk.lastStatus = s.blk.lastStatus := by
  have recorded (e : Env) (r : Raise) (b : Blk) : (recordRaise e r b).lastStatus = b.lastStatus := (recordRaise_undisturbed e b r).lastStatus
  simp [tb0Step, recorded]

/-- An operation that takes effect answers OK. -/
theorem applyWords_lastStatus (who : Nat) (ws : List WWord) (s : State) : (applyWords who ws s).blk.lastStatus = .ok := by
  unfold applyWords
  dsimp only
  split
  · exact tb0Step_lastStatus _ _
  · rfl

/-- The status of a write of one word: OK, or what some judgement of the word says. -/
theorem writeWords_one_lastStatus (who epoch : Nat) (w : WWord) (s : State) :
    (writeWords who epoch [w] s).2.blk.lastStatus = .ok ∨
      ∃ e e' b', (writeWords who epoch [w] s).2.blk.lastStatus = judgeWord who epoch e e' s.blk b' w := by
  unfold writeWords
  dsimp only
  split
  case h_1 => exact .inl (applyWords_lastStatus _ _ _)
  case h_2 n st hfail =>
    unfold firstFail at hfail
    split at hfail
    case h_1 => simp [firstFail] at hfail
    case h_2 =>
      obtain ⟨-, rfl⟩ := Prod.mk.inj (Option.some.inj hfail)
      exact .inr ⟨_, _, _, rfl⟩

/-- R100, R101: a page's word that covers no RWL field and has no engine is not refused with LOCKED. -/
theorem judgeWord_ne_locked (who epoch : Nat) (e e' : Env) (b b' : Blk) {w : WWord} (hpage : w.addr < 0x11000)
    (hfree : (wordFlds w.addr).any (fun f => w.covers f && f.locked) = false) (hact : actionWord who w = none) :
    judgeWord who epoch e e' b b' w ≠ .locked := by
  have harea : areaOf w.addr = .page (w.addr / 0x1000 * 0x1000) := if_pos hpage
  simp only [judgeWord, harea, judgePage, hact]
  have hbar := pageBar_ne_locked (writeBarred who epoch w.addr b) e e' (finish .ok b) hfree
  cases h : pageBar (writeBarred who epoch w.addr b) e e' (finish .ok b) w with
  | none => simp
  | some st => simpa [h] using hbar

/-- Settles O14: a change of mode locks, LOCK itself holds no field, and a lock keeps only RWL fields. -/
theorem locksGovernOnlyLockedFields : Obligations.LocksGovernOnlyLockedFields := by
  refine ⟨fun e m b h => setMode_locks e h, ?_, ?_⟩
  · intro s dt who page hr hh hpage
    have h := IsBare.lock hpage
    have hact := actionWord_lock hpage who
    have hstandby : standbyMay (0x1000 * page + 0x18) = true := by
      obtain ⟨hin, -, -⟩ := h.place
      have hoff : (0x1000 * page + 0x18) % 0x1000 = 0x18 := by omega
      simp [standbyMay, hin, hoff]
    have hrun : (s.begin dt).blk.running = true := by simpa using hr
    have hold : (s.begin dt).blk.holdup = false := by simpa using hh
    refine ⟨_, rfl, ?_⟩
    have hok (f : Env → Blk → Blk) (hf : actionWord who (WWord.whole (0x1000 * page + 0x18) 0x4C4B) = some f) :
        (f (s.begin dt).env (finish .ok (s.begin dt).blk)).lastStatus = .ok := by
      obtain rfl := Option.some.inj (hact.symm.trans hf)
      obtain ⟨hcmd, hok, -⟩ := pageLock_key (s.begin dt).env page (b := finish .ok (s.begin dt).blk) hrun hold
      exact (congrArg Blk.lastStatus hcmd).trans hok
    rw [h.hostWrite _ who hrun hold (by simp [writeBarred, hstandby]) hok]
    have key := pageLock_key (s.begin dt).env page
      (b := { (s.begin dt).blk with watch := watchTaken (s.begin dt).env.par (s.begin dt).env (s.begin dt).blk.watch }) hrun hold
    obtain ⟨hcmd, -, hkey⟩ := key
    simp only [bareEffect, hact, hcmd, finish_lastStatus, finish_unlocked, true_and]
    intro hm
    exact hkey (hm.trans (s.begin_mode dt).symm)
  · intro s dt who a v hr hh halign hpage _ hfree hact
    refine ⟨_, rfl, ?_⟩
    have harea : areaOf a = .page (a / 0x1000 * 0x1000) := if_pos hpage
    have hwrite : hostWrite who a v (s.begin dt) = (writeWords who 0 [WWord.whole a v] (s.begin dt)).2 := by
      have hanswers : (s.begin dt).blk.answers = true := by simp [Blk.answers, hr, hh]
      simp only [hostWrite, hanswers, if_true, writeOne, halign, harea]
      rfl
    rw [hwrite]
    obtain hok | ⟨e, e', b', hjudge⟩ := writeWords_one_lastStatus who 0 (WWord.whole a v) (s.begin dt)
    · rw [hok]
      decide
    · rw [hjudge]
      exact judgeWord_ne_locked who 0 e e' _ b' hpage hfree hact

end Sys2Proof.Machine

/-! R339, R356, R363: a single raise, where its source is enabled or not, in a boot and in OFF. -/

namespace Sys2Proof.Machine

/-- R349: a raise that is alone in its cycle. -/
theorem orderRaises_single (e : Env) (b : Blk) (r : Raise) : orderRaises e b [r] = [r] := by
  unfold orderRaises rankAll
  split <;> rfl

/-- R339: a raise that is not enabled sets its flag. -/
theorem ingestOne_disabled {e : Env} {r : Raise} (h : evtEnabled e r.src = false) (x : Blk × List (Nat × Nat)) :
    ingestOne e x r = (setEvt e r.src x.1, x.2) := by
  unfold ingestOne
  split
  · simp [record, h]
  · simp [account, h]

/-- Nothing that was dropped is nothing to report (R364). -/
theorem dropCheck_none (e : Env) (b : Blk) {before : Nat} (h : b.watch.dropped ≤ before) : dropCheck e before b = b :=
  if_neg fun ⟨hlt, _⟩ => absurd hlt (not_lt.mpr h)

theorem raise_disabled {e : Env} {b : Blk} (hb : b.phase = .run) {src : Nat} (h : evtEnabled e src = false) (code d0 d1 : Nat) :
    raise e src code d0 d1 b = setEvt e src b := by
  have hone := ingestOne_disabled (r := ⟨src, code, d0, d1, false, none⟩) h (b, [])
  simp only [raise, raiseAll, hb, orderRaises_single, ingestAll, List.foldl_cons, List.foldl_nil, hone]
  exact dropCheck_none e _ (Nat.le_refl _)

/-- Settles O21: by the module's phase. -/
theorem raisesNeedTheirEnableAndAService : Obligations.RaisesNeedTheirEnableAndAService := by
  refine ⟨fun e b src code d0 d1 hb h => raise_disabled hb h code d0 d1, ?_, ?_⟩
  · intro e b src code d0 d1 hb
    simp only [raise, raiseAll, hb]
    rfl
  · intro e b src code d0 d1 hb
    simp only [raise, raiseAll, hb]

end Sys2Proof.Machine

/-! R70 to R94: what the supply supervisors, the hold-up capacitor and the clocks do. First, once for all statements, how the meaning
of a command follows from what its operation does to the blocks. -/

namespace Sys2Proof.Machine

/-! ### From an operation to its command -/

section
variable {s : State} {dt : Nat} {f g : Env → Blk → Blk}

theorem State.act_congr (h : f s.env s.blk = g s.env s.blk) : s.act f = s.act g := by rw [State.act, h]; rfl

theorem pin_acts (h : f (s.begin dt).env (s.begin dt).blk = g (s.begin dt).env (s.begin dt).blk) :
    pin dt f s = .next ((s.begin dt).act g) := by
  rw [pin_next, State.act_congr h]

theorem eng_acts (hs : s.blk.keep.scanned = false) (h : f (s.begin dt).env (s.begin dt).blk = g (s.begin dt).env (s.begin dt).blk) :
    eng dt f s = .next ((s.begin dt).act g) := by
  rw [eng_next s dt f hs, State.act_congr h]

/-- A timer that is armed acts at its deadline, on the blocks as the command finds them. -/
theorem expire_acts {timer : Blk → Option Nat} {d : Nat} (hs : s.blk.keep.scanned = false) (ht : timer (s.begin dt).blk = some d)
    (h : ∀ e, f e (s.begin dt).blk = g e (s.begin dt).blk) : expire dt timer f s = .next (((s.begin dt).reach d).act g) := by
  have hreach : f ((s.begin dt).reach d).env ((s.begin dt).reach d).blk = g ((s.begin dt).reach d).env ((s.begin dt).reach d).blk := by
    rw [State.reach_blk]
    exact h _
  rw [expire_armed s dt timer f d hs ht, State.act_congr hreach]

end

theorem Blk.running_iff {b : Blk} : b.running = true ↔ b.phase = .run ∧ b.keep.scanned = false := by
  simp [Blk.running]

theorem Blk.phase_of_running {b : Blk} (h : b.running = true) : b.phase = .run := (running_iff.mp h).1

/-! ### The supply's inputs (R70 to R82, R94) -/

section
variable {e : Env} {b : Blk} {v held : Nat}

theorem vinHigh_above (hp : b.powered = true) (hv : 7700 < v) (hh : 10 ≤ held) :
    vinHigh v held e b = beginExc e SRC_VIN_HIGH 0 0 v 7700 (b.put PWR_SUPPLY_VIN (min 65535 v)) := by
  simp [vinHigh, judge, hp, hv, hh]

theorem vcoilLoss_below (hp : b.powered = true) (hok : b.get PWR_STA_VCOIL_OK = 1) (hv : v < 1800) :
    vcoilLoss v e b = precondLost e SRC_VCOIL_LOSS (beginExc e SRC_VCOIL_LOSS 0 0 v 1800 (setFb false false false (releaseAll
      ((b.put PWR_STA_VCOIL_OK 0).put PWR_SUPPLY_VCOIL (min 65535 v))))) := by
  simp [vcoilLoss, judge, hp, hok, hv]

theorem vcoilRestored_above (hp : b.powered = true) (hv : 1800 ≤ v) :
    vcoilRestored v e b = endExc e SRC_VCOIL_LOSS 0 ((b.put PWR_STA_VCOIL_OK 1).put PWR_SUPPLY_VCOIL (min 65535 v)) := by
  simp [vcoilRestored, hp, hv]

theorem holdChargeFail_low (hp : b.powered = true) (hn : b.holdup = false) (hc : b.pwr.chargeBy = none) (hs : b.pwr.holdSup = true)
    (hv : v < 8500) (hh : 100 ≤ held) :
    holdChargeFail v held e b = holdLost e SRC_HOLD_CHARGE_FAIL (beginExc e SRC_HOLD_CHARGE_FAIL 0 0 v 8500 (holdRead v e b)) := by
  simp [holdChargeFail, hp, hn, hc, hs, hv, hh]

theorem holdRecharged_normal (hp : b.powered = true) (hn : b.holdup = false) :
    holdRecharged e b = endExc e SRC_HOLD_CHARGE_FAIL 0 (holdShow e (modPwr (fun p => { p with holdSup := true, chargeBy := none })
      (setHold (max 9000 (b.get PWR_HOLD_V_HOLD)) b))) := by
  simp [holdRecharged, hp, hn]

/-- R80: HOLDUP entry in service. -/
theorem undervoltage_run (hb : b.phase = .run) (hs : b.keep.scanned = false) (hn : b.holdup = false) (hv : v < 3300) :
    undervoltage v e b = holdupWork e (raise e SRC_SUPPLY_LOSS 0 0 0 (holdupPins e (b.put PWR_SUPPLY_VIN (min 65535 v)))) := by
  simp [undervoltage, hb, hs, hn, hv, holdupEngines]

theorem undervoltageRelease_holdup (hp : b.powered = true) (hn : b.holdup = true) (hv : 3500 ≤ v) :
    undervoltageRelease v e b = powerNormal e (b.put PWR_SUPPLY_VIN (min 65535 v)) := by
  have hput : (b.put PWR_SUPPLY_VIN (min 65535 v)).holdup = true := by
    rw [← hn, Blk.holdup, Blk.holdup, Blk.get_put_ne _ _ (by decide)]
  simp [undervoltageRelease, hp, hput, hv]

theorem railFault_powered (hb : b.phase = .run ∨ b.phase = .warmBoot) (hs : b.keep.scanned = false) :
    railFault e b = raise e SRC_RAIL_FAULT 0 0 0 (modPwr (fun p => { p with rail := true }) b) := by
  have hphase : ¬ (b.phase = .off ∨ b.phase = .coldBoot) := by rcases hb with h | h <;> simp [h]
  simp [railFault, hphase, hs]

end

/-- Settles O23: each input's operation, on the state as the command finds it. -/
theorem supplyInputsAct : Obligations.SupplyInputsAct := by
  refine ⟨?_, ?_, ?_, ?_, ?_, ?_, ?_, ?_⟩
  · intro s dt vin held hp hv hh
    exact pin_acts (vinHigh_above ((s.begin_powered dt).trans hp) hv hh)
  · intro s dt v hp hok hv
    exact pin_acts (vcoilLoss_below ((s.begin_powered dt).trans hp) ((s.begin_get dt _).trans hok) hv)
  · intro s dt v hp hv
    exact pin_acts (vcoilRestored_above ((s.begin_powered dt).trans hp) hv)
  · intro s dt v held hp hn hc hs hv hh
    exact pin_acts (holdChargeFail_low ((s.begin_powered dt).trans hp) ((s.begin_holdup dt).trans hn) (by simpa using hc)
      (by simpa using hs) hv hh)
  · intro s dt hp hn
    exact pin_acts (holdRecharged_normal ((s.begin_powered dt).trans hp) ((s.begin_holdup dt).trans hn))
  · intro s dt vin hb hs hn hv
    have hcold : ¬ ((s.begin dt).blk.phase = .coldBoot ∧ vin < 3300) := by simp [hb]
    exact congrArg Host.Outcome.next ((if_neg hcold).trans (State.act_congr (undervoltage_run ((s.begin_phase dt).trans hb)
      (by simpa using hs) ((s.begin_holdup dt).trans hn) hv)))
  · intro s dt vin hp hn hv
    exact pin_acts (undervoltageRelease_holdup ((s.begin_powered dt).trans hp) ((s.begin_holdup dt).trans hn) hv)
  · intro s dt hb hs
    exact pin_acts (railFault_powered (by simpa using hb) (by simpa using hs))

/-! ### HOLDUP and OFF (R74, R77, R81, R85, R86) -/

section
variable {e : Env} {b : Blk}

theorem rideExpiry_isolated (hr : b.running = true) (hm : b.mode = .isolated) (hd : b.seq.dis = none) :
    rideExpiry e b = finalCommits ((modPwr (fun p => { p with rideBy := none }) b).put PWR_STA_RIDE_EXPIRED 1) := by
  have hrun : ((modPwr (fun p => { p with rideBy := none }) b).put PWR_STA_RIDE_EXPIRED 1).running = true := hr
  simp only [rideExpiry, hrun, not_true_eq_false, if_false, Blk.put_mode, Blk.put_seq, modPwr_mode, modPwr_seq, hm, hd,
    reduceCtorEq, false_and, if_true]

/-- R81 step 6: 100 ms after the entry. -/
theorem offDue_late (hr : b.running = true) (hh : b.holdup = true) (ht : b.pwr.holdupAt + ms 100 ≤ e.now) : offDue e b = true := by
  simp [offDue, Blk.phase_of_running hr, hh, ht]

theorem commitFinish_idle (h : b.pwr.running = none) : commitFinish e b = b := by rw [commitFinish, h]

theorem capMeasureStart_coldBoot (hb : b.phase = .coldBoot) :
    capMeasureStart e b = holdShow e (((modPwr (fun p => { p with
      capAt := some e.now, chargeBy := some (p.chargeBy.getD (e.now + sec 10))
      boostBy := some (p.boostBy.getD (e.now + sec 10)) }) (setHold 5000 b)).put PWR_STA_DISCHARGE_ON 0).put PWR_STA_BOOST_ON 1) := by
  simp [capMeasureStart, hb]

theorem capMeasureComplete_due {t : Nat} (hp : b.powered = true) (hh : b.holdup = false) (ht : b.pwr.capAt = some t) :
    capMeasureComplete e b = capJudge e (holdShow e (modPwr (fun p => { p with
      capAt := none, chargeBy := none, remeasure := false, holdSup := true })
      ((((setHold 9000 b).put PWR_CAP_CAP_UF (min 65535 ((e.now - t) * 3 / 400000))).put PWR_STA_CAP_VALID 1).put
        PWR_CAP_REMEASURE 0))) := by
  simp [capMeasureComplete, ht, hp, hh]

theorem capRemeasure_isolated (hr : b.running = true) (hs : b.role ≠ .standby) (hh : b.holdup = false) (hm : b.mode = .isolated)
    (hn : b.pwr.remeasure = false) : capRemeasure e b = finish .ok (remeasureStart e b) := by
  rw [capRemeasure, hostCmd_run b _ hr hs hh]
  simp [hm, hn]

end

/-- Settles O24: the engine's part of HOLDUP, then OFF by its own step, by exhaustion, and by a second without VIN. -/
theorem holdUpEndsInOff : Obligations.HoldUpEndsInOff := by
  refine ⟨?_, ?_, ?_, ?_, ?_, ?_, ?_⟩
  · intro s dt d hr hd hm hdis
    exact expire_acts (Blk.scanned_of_running hr) (by simpa [rideTimer] using hd) fun e =>
      rideExpiry_isolated ((s.begin_running dt).trans hr) ((s.begin_mode dt).trans hm) (by simpa using hdis)
  · intro s dt hr hh ht
    have hlate : s.blk.pwr.holdupAt + ms 100 ≤ (s.begin dt).clk.now := ht.trans (s.elapse_now_le dt)
    have hdue : offDue (s.begin dt).env (s.begin dt).blk = true :=
      offDue_late ((s.begin_running dt).trans hr) ((s.begin_holdup dt).trans hh) (by simpa using hlate)
    refine ⟨goOff (s.begin dt), congrArg Host.Outcome.next (if_pos hdue), rfl, rfl, rfl, rfl, rfl, rfl, ?_, fun hidle => ?_,
      s.begin_pending dt⟩
    · simp [goOff, hh]
    · simp [goOff, keepThrough, commitFinish_idle (b := (s.begin dt).blk) (e := (s.begin dt).env) (by simpa using hidle)]
  · intro s dt hp hh
    have hcase : (s.begin dt).blk.powered = true ∧ ((s.begin dt).blk.holdup = true ∨ (s.begin dt).blk.keep.scanned = true) := by
      simp [hp, hh]
    exact ⟨_, congrArg Host.Outcome.next (if_pos hcase), rfl, rfl, rfl, rfl, rfl, rfl, rfl, rfl, s.begin_pending dt⟩
  · intro s dt hb
    have hoff : (s.begin dt).blk.phase = .off := (s.begin_phase dt).trans hb
    refine ⟨_, congrArg Host.Outcome.next (if_pos hoff), s.begin_par dt, ?_, s.begin_pending dt, ?_⟩
    · simp [cyclePower, s.elapse_off dt hb]
    · simp only [cyclePower, s.begin_blk]
      rfl
  · intro s dt hb
    exact pin_acts (capMeasureStart_coldBoot ((s.begin_phase dt).trans hb))
  · intro s dt t hp hh ht
    exact pin_acts (capMeasureComplete_due ((s.begin_powered dt).trans hp) ((s.begin_holdup dt).trans hh) (by simpa using ht))
  · intro s dt hr hh hs hm hn
    exact eng_acts (Blk.scanned_of_running hr) (capRemeasure_isolated ((s.begin_running dt).trans hr) (by simpa using hs)
      ((s.begin_holdup dt).trans hh) ((s.begin_mode dt).trans hm) (by simpa using hn))

/-! ### Clocks (R91 to R93, R373) -/

section
variable {e : Env} {b : Blk} {t : Int}

theorem refLoss_ok (hp : b.powered = true) (hok : b.get CLK_STA_REF_OK = 1) :
    refLoss e b = precondLost e SRC_REF_LOSS (judgeAll e
      (⟨true, SRC_REF_LOSS, 0, 0, 0, 0⟩ :: ⟨true, SRC_TIME_INVALID, 0, 0, 0, 0⟩ :: netConds b)
      (timeInvalid ((netStop e (((b.put CLK_STA_REF_OK 0).put CLK_STA_PLLC_LOCK 0).put CLK_STA_CORE_SRC 2)).bump
        CLK_UNLOCK_CNT_REF_LOSS))) :=
  if_neg (by simp [hp, hok])

theorem pllcUnlock_locked (hp : b.powered = true) (hok : b.get CLK_STA_PLLC_LOCK = 1) :
    pllcUnlock e b = precondLost e SRC_PLLC_UNLOCK (judgeAll e
      [⟨true, SRC_PLLC_UNLOCK, 0, 0, 0, 0⟩, ⟨true, SRC_TIME_INVALID, 0, 0, 0, 0⟩]
      (timeInvalid (((b.put CLK_STA_PLLC_LOCK 0).put CLK_STA_CORE_SRC 1).bump CLK_UNLOCK_CNT_PLLC))) :=
  if_neg (by simp [hp, hok])

theorem pllnUnlock_locked (hp : b.powered = true) (hok : b.get CLK_STA_PLLN_LOCK = 1) :
    pllnUnlock e b = precondLost e SRC_PLLN_UNLOCK (judgeAll e (⟨true, SRC_PLLN_UNLOCK, 0, 0, 0, 0⟩ :: netConds b)
      ((netStop e b).bump CLK_UNLOCK_CNT_PLLN)) :=
  if_neg (by simp [hp, hok])

/-- R93: a reading inside the table. -/
theorem refComp_inside (hp : b.powered = true) (hlo : -450 ≤ t) (hhi : t ≤ 1050) :
    refComp (some t) e b = endExc e SRC_REF_COMP_RANGE 0 (tpRerate e (setTrims (trimOf (refPpb b t)) e
      (((b.putInt CLK_REF_TEMP_TEMP t).putInt CLK_REF_PPB_PPB (refPpb b t)).put CLK_STA_COMP_VALID 1))) := by
  simp [refComp, judge, boolBit, hp, hlo, hhi]

/-- R94: a reading outside it names the end point that it passed. -/
theorem refComp_outside (hp : b.powered = true) (hout : t < -450 ∨ 1050 < t) :
    refComp (some t) e b = beginExc e SRC_REF_COMP_RANGE 0 0 (dataWord t) (dataWord (if t < -450 then -450 else 1050))
      (((b.putInt CLK_REF_TEMP_TEMP t).putInt CLK_REF_PPB_PPB (refPpb b t)).put CLK_STA_COMP_VALID 0) := by
  have hinside : (decide (-450 ≤ t) && decide (t ≤ 1050)) = false := by simpa using by omega
  simp [refComp, judge, boolBit, hp, hinside]

theorem refComp_none (hp : b.powered = true) :
    refComp none e b = beginExc e SRC_REF_COMP_RANGE 0 0 0 0 (b.put CLK_STA_COMP_VALID 0) := by
  simp [refComp, judge, hp]

end

/-- Settles O26: each loss, and each reading, on the state as the command finds it. -/
theorem clocksAndReference : Obligations.ClocksAndReference := by
  refine ⟨?_, ?_, ?_, ?_, ?_, ?_⟩
  · intro s dt hp hok
    exact pin_acts (refLoss_ok ((s.begin_powered dt).trans hp) ((s.begin_get dt _).trans hok))
  · intro s dt hp hok
    exact pin_acts (pllcUnlock_locked ((s.begin_powered dt).trans hp) ((s.begin_get dt _).trans hok))
  · intro s dt hp hok
    exact pin_acts (pllnUnlock_locked ((s.begin_powered dt).trans hp) ((s.begin_get dt _).trans hok))
  · intro s dt t hs hp hlo hhi
    exact eng_acts hs (refComp_inside ((s.begin_powered dt).trans hp) hlo hhi)
  · intro s dt t hs hp hout
    exact eng_acts hs (refComp_outside ((s.begin_powered dt).trans hp) hout)
  · intro s dt hs hp
    exact eng_acts hs (refComp_none ((s.begin_powered dt).trans hp))

end Sys2Proof.Machine

/-! R120 to R147: the sequencer's host commands, each where it is accepted. -/

namespace Sys2Proof.Machine

theorem seqHost_run {b : Blk} (f : Blk → Blk) (hr : b.running = true) (hs : b.role ≠ .standby) : seqHost f b = f b := by
  simp [seqHost, hr, hs]

/-- A change of mode leaves the weld verdicts as they are. -/
theorem changeMode_weldResult (e : Env) (m : Mode) (b : Blk) :
    (changeMode e m b).get SAFE_WELD_RESULT_KP = b.get SAFE_WELD_RESULT_KP ∧
      (changeMode e m b).get SAFE_WELD_RESULT_KN = b.get SAFE_WELD_RESULT_KN ∧
      (changeMode e m b).get SAFE_WELD_RESULT_KC = b.get SAFE_WELD_RESULT_KC := by
  have kept (f : Fld) (hf : f.Quiet) : (changeMode e m b).get f = b.get f := (changeMode_undisturbed e b m).get f hf
  exact ⟨kept _ (by decide), kept _ (by decide), kept _ (by decide)⟩

section
variable {e : Env} {b : Blk} (hr : b.running = true) (hs : b.role ≠ .standby)
include hr hs

theorem connectDo_fresh (hm : connectRefuse b = 0) (hkp : b.get SAFE_WELD_RESULT_KP = 1) (hkn : b.get SAFE_WELD_RESULT_KN = 1)
    (hkc : b.get SAFE_WELD_RESULT_KC = 1) : connectDo e b = finish .ok (connStep2 e (changeMode e .connecting b)) := by
  obtain ⟨gp, gn, gc⟩ := changeMode_weldResult e .connecting b
  simp [connectDo, seqHost_run _ hr hs, hm, gp, gn, gc, hkp, hkn, hkc]

theorem connectDo_unverified (hm : connectRefuse b = 0) (hkp : b.get SAFE_WELD_RESULT_KP = 2) :
    connectDo e b = finish .ok (startAnnounced e 1 .pulse1 (us 200) (startPulse e 1) (setStep stepWeldConnect
      (((modSeq (fun q => { q with weld := some ⟨true, false, 0, none, none, 0, 0, 0⟩ }) (changeMode e .connecting b)).put
        SAFE_WELD_RESULT_PENDING 1).put SAFE_WELD_RESULT_TRIES 0))) := by
  obtain ⟨gp, -, -⟩ := changeMode_weldResult e .connecting b
  simp [connectDo, seqHost_run _ hr hs, hm, gp, hkp]

theorem disconnectDo_connected (hm : b.mode = .connected) (hd : b.seq.dis = none) :
    disconnectDo e b = finish .ok
      (startDis e ⟨false, b.watch.rrRun, false, if b.watch.rrRun then b.watch.rrSrc else 0, false⟩ b) := by
  simp [disconnectDo, seqHost_run _ hr hs, hm, hd, startDisCmd]

/-- R122: the module stood in TRIPPED before this cycle. -/
theorem enterMaintDo_tripped (hm : b.mode = .tripped) (hk : maintKey e b = true) (hh : b.holdup = false) (hl : b.pwr.latch = false
       )
    (hd : b.seq.dis = none) (hb : e.start.2.mode = .tripped) :
    enterMaintDo e b = finish .ok (changeMode e .maintenance
      (modSeq (fun q => { q with maintFromTripped := true, resetSince := false }) b)) := by
  simp [enterMaintDo, seqHost_run _ hr hs, hm, hk, hh, hl, trippedNow, hb, disRunning, hd]

theorem exitMaintDo_maintenance (hm : b.mode = .maintenance) :
    exitMaintDo e b = finish .ok (changeMode e (returnTarget (stopTests e b)) (stopTests e b)) := by
  simp [exitMaintDo, seqHost_run _ hr hs, hm, exitMaint]

theorem commissionDo_isolated (hm : b.mode = .isolated) (hd : b.seq.dis = none) :
    commissionDo e b = finish .ok (changeMode e .commissioning b) := by
  simp [commissionDo, seqHost_run _ hr hs, hm, disRunning, hd]

theorem weldTestDo_allowed (ht : testAllowed b = true) :
    weldTestDo e b = finish .ok (startAnnounced e 1 .pulse1 (us 200) (startPulse e 1) (setStep stepWeldAfter
      (((modSeq (fun q => { q with weld := some ⟨false, true, 0, none, none, 0, 0, 0⟩ }) b).put
        SAFE_WELD_RESULT_PENDING 1).put SAFE_WELD_RESULT_TRIES 0))) := by
  simp [weldTestDo, seqHost_run _ hr hs, ht]

theorem coilTestDo_allowed {arg : Nat} (ht : testAllowed b = true) (ha : arg ≤ 2) :
    coilTestDo arg e b = finish .ok (setStep stepCoilTest (modSeq (fun q => { q with
      coilTest := some (arg, e.now, 0), coilTestBy := some (e.now + sec 1)
      fbBy := some (e.now + ms (e.get SAFE_FB_TIME_CLOSE)), await := [arg] }) (imdGuard e (pickCoil e arg b)))) := by
  simp [coilTestDo, seqHost_run _ hr hs, ht, Nat.not_lt.mpr ha]

theorem ackInspectDo_idle (arg : Nat) (hm : b.mode = .isolated ∨ b.mode = .maintenance) :
    ackInspectDo arg e b = finish .ok (nvRequest .retained
      ([0, 1, 2].foldl (fun x k => if bitOf arg k then x.put (brokenFld k) 0 else x) b)) := by
  rw [ackInspectDo, seqHost_run _ hr hs, if_pos hm]

end

/-- Settles O31: each command's operation, on the state as the command finds it. -/
theorem sequencerCommandsRun : Obligations.SequencerCommandsRun := by
  refine ⟨?_, ?_, ?_, ?_, ?_, ?_, ?_, ?_, ?_⟩
  · intro s dt hr hs hm hkp hkn hkc
    exact eng_acts (Blk.scanned_of_running hr)
      (connectDo_fresh ((s.begin_running dt).trans hr) (by simpa using hs) hm (by simpa using hkp) (by simpa using hkn)
        (by simpa using hkc))
  · intro s dt hr hs hm hkp
    exact eng_acts (Blk.scanned_of_running hr)
      (connectDo_unverified ((s.begin_running dt).trans hr) (by simpa using hs) hm (by simpa using hkp))
  · intro s dt hr hs hm hd
    exact eng_acts (Blk.scanned_of_running hr)
      (disconnectDo_connected ((s.begin_running dt).trans hr) (by simpa using hs) (by simpa using hm) (by simpa using hd))
  · intro s dt hr hs hm hk hh hl hd hst
    exact eng_acts (Blk.scanned_of_running hr)
      (enterMaintDo_tripped ((s.begin_running dt).trans hr) (by simpa using hs) (by simpa using hm) hk
      (by simpa using hh) (by simpa using hl) (by simpa using hd) hst)
  · intro s dt hr hs hm
    exact eng_acts (Blk.scanned_of_running hr)
      (exitMaintDo_maintenance ((s.begin_running dt).trans hr) (by simpa using hs) (by simpa using hm))
  · intro s dt hr hs hm hd
    exact eng_acts (Blk.scanned_of_running hr)
      (commissionDo_isolated ((s.begin_running dt).trans hr) (by simpa using hs) (by simpa using hm) (by simpa using hd))
  · intro s dt hr hs ht
    exact eng_acts (Blk.scanned_of_running hr) (weldTestDo_allowed ((s.begin_running dt).trans hr) (by simpa using hs) ht)
  · intro s dt arg hr hs ht ha
    exact eng_acts (Blk.scanned_of_running hr) (coilTestDo_allowed ((s.begin_running dt).trans hr) (by simpa using hs) ht ha)
  · intro s dt arg hr hs hm
    exact eng_acts (Blk.scanned_of_running hr)
      (ackInspectDo_idle ((s.begin_running dt).trans hr) (by simpa using hs) arg (by simpa using hm))

end Sys2Proof.Machine

/-! R135 to R139 and R343: the disconnect. -/

namespace Sys2Proof.Machine

section
variable {s : State} {dt : Nat} {f g : Env → Blk → Blk}

/-- `expire_acts` where the deadline's own environment matters. -/
theorem expire_acts_env {timer : Blk → Option Nat} {d : Nat} (hs : s.blk.keep.scanned = false) (ht : timer (s.begin dt).blk = some d)
    (h : f ((s.begin dt).reach d).env (s.begin dt).blk = g ((s.begin dt).reach d).env (s.begin dt).blk) :
    expire dt timer f s = .next (((s.begin dt).reach d).act g) := by
  have hreach : f ((s.begin dt).reach d).env ((s.begin dt).reach d).blk = g ((s.begin dt).reach d).env ((s.begin dt).reach d).blk := by
    rw [State.reach_blk]
    exact h
  rw [expire_armed s dt timer f d hs ht, State.act_congr hreach]

@[simp] theorem State.reach_env_get (d : Nat) (f : Fld) : (s.reach d).env.get f = s.env.get f := by simp [Env.get, State.env]

end

/-! ### The feedbacks as read -/

section
variable (b : Blk)

@[simp] theorem setFb_seq (kp kn kc : Bool) : (setFb kp kn kc b).seq = b.seq := rfl
@[simp] theorem setFb_role (kp kn kc : Bool) : (setFb kp kn kc b).role = b.role := rfl

theorem setFb_seqStep (kp kn kc : Bool) : seqStep (setFb kp kn kc b) = seqStep b := by
  rw [seqStep, setFb, Blk.get_put_ne _ _ (by decide), Blk.get_put_ne _ _ (by decide), Blk.get_put_ne _ _ (by decide), seqStep]

theorem fbClosed_setFb_open (k : Nat) : fbClosed (setFb false false false b) k = false := by
  have hread : (setFb false false false b).get (fbFld k) = 0 := by
    unfold setFb fbFld
    split
    · rw [Blk.get_put_ne _ _ (by decide), Blk.get_put_ne _ _ (by decide), Blk.get_put_self]; decide
    · rw [Blk.get_put_ne _ _ (by decide), Blk.get_put_self]; decide
    · rw [Blk.get_put_self]; decide
  simp [fbClosed, hread]

end

section
variable {e : Env} {b : Blk}

theorem zeroConfirmed_open {maxI n : Nat} (hstep : b.get SAFE_SEQ_STA_STEP = 8) (hi : maxI ≤ e.get SAFE_I_ZERO) (hn : 50 ≤ n)
    (hd : b.seq.dis.isSome = true) :
    zeroConfirmed false false maxI n e b = setStep stepDisc2 (modSeq (fun q => { q with
      confirmBy := none, fbBy := some (e.now + ms (e.get SAFE_FB_TIME_OPEN)), await := [0, 1, 2] })
      (releaseAll (setBk e 1 false (setBk e 0 false b)))) := by
  obtain ⟨d, hd⟩ := Option.isSome_iff_exists.mp hd
  simp [zeroConfirmed, hd, seqStep, hstep, stepDisc1, hi, hn, disStep2]

theorem disTimeout_fallback {i : Int} {x : Dis} (hstep : b.get SAFE_SEQ_STA_STEP = 8) (hd : b.seq.dis = some x)
    (hi : (e.get SAFE_I_ZERO : Int) < iabs i) (hkp : closedNow b 0 = true) (hkn : closedNow b 1 = true) (hkc : closedNow b 2 = false) :
    disTimeout false false i e b = raise e SRC_SSB_FALLBACK 3 0 0 (nvRequest .retained (setStep stepFallback (modSeq (fun q => { q with
      confirmBy := none, fbBy := some (e.now + ms (e.get SAFE_FB_TIME_OPEN)), await := [0, 1, 2],
      dis := q.dis.map (fun d => { d with fault := true, noWeld := true,
                                          src := if d.fault then d.src else SRC_SSB_FALLBACK }) })
      (((releaseAll (setBk e 1 false (setBk e 0 false b))).put SAFE_SW_STATE_KP_BROKEN 1).put SAFE_SW_STATE_KN_BROKEN 1)))) := by
  have hmap : contactorMap (closedNow b) = 3 := by simp [contactorMap, hkp, hkn, hkc, boolBit]
  have hcase : ¬ (seqStep b ≠ stepDisc1 ∨ ¬ b.seq.dis.isSome) := by simp [seqStep, hstep, stepDisc1, hd]
  simp only [disTimeout, if_neg hcase, if_pos hi, hmap, List.foldl_cons, List.foldl_nil, hkp, hkn, hkc, if_true, Bool.false_eq_true,
    if_false, brokenFld]

theorem feedbackOpened_disconnected {t : Nat} {x : Dis} (hf : b.seq.fbBy = some t) (hstep : b.get SAFE_SEQ_STA_STEP = 9)
    (hd : b.seq.dis = some x) (hs : b.role ≠ .standby) :
    feedbackOpened false false false e b =
      (let b1 := modSeq (fun q => { q with fbBy := none, await := [] }) (imdGuard e (setFb false false false b))
       finishDis e x (if x.fault ∧ tripStands b1 then modTrip (fun t => { t with clears := (t.clears + 1) % 256 }) (latchClear e b1)
         else b1)) := by
  have howner : (imdGuard e (setFb false false false b)).owner = true := by
    simpa [Blk.owner] using hs
  have hopen (k : Nat) : fbClosed (imdGuard e (setFb false false false b)) k = false :=
    (imdGuard_fbClosed e _ k).trans (fbClosed_setFb_open b k)
  have hnine : seqStep (imdGuard e (setFb false false false b)) = 9 :=
    (imdGuard_get_ne e _ _ (by decide)).trans ((setFb_seqStep b _ _ _).trans hstep)
  simp [feedbackOpened, howner, hf, hopen, hnine, stepDisc2, hd]

theorem tctrlExpiry_connected (hm : b.mode = .connected) (hd : b.seq.dis = none) (hs : b.role ≠ .standby) :
    tctrlExpiry e b = startDis e ⟨false, true, false, b.watch.rrSrc, false⟩ b := by
  simp [tctrlExpiry, Blk.owner, hm, hd, hs]

/-- Before T_ctrl's end there is nothing to mark. -/
theorem zeroReached_before {d : Nat} {i : Int} (ht : b.seq.tctrl = some d) (hm : b.mode = .connected) (hd : b.seq.dis = none)
    (hnow : e.now < d) (hi : iabs i ≤ (e.get SAFE_I_ZERO : Int)) (hs : b.role ≠ .standby) :
    zeroReached i e b = startDis e ⟨false, true, false, b.watch.rrSrc, false⟩ b := by
  simp [zeroReached, Blk.owner, hm, hd, hs, hi, ht, hnow.ne']

theorem partnerRideExpiry_active (hm : b.mode = .connected) (hd : b.seq.dis = none) (hs : b.role = .active) :
    partnerRideExpiry e b = startDisCmd e true (modSeq (fun q => { q with partnerRideBy := none }) b) := by
  simp [partnerRideExpiry, hm, hd, hs]

end

/-- Settles O35: each step's operation, on the state as the command finds it. -/
theorem disconnectOpensTheString : Obligations.DisconnectOpensTheString := by
  refine ⟨?_, ?_, ?_, ?_, ?_, ?_⟩
  · intro s dt maxI n hr hstep hi hn hd
    exact eng_acts (Blk.scanned_of_running hr) (zeroConfirmed_open ((s.begin_get dt _).trans hstep) (by simpa using hi) hn
      (by simpa using hd))
  · intro s dt d i x hr ht hstep hd _ hi hkp hkn hkc
    have hclosed (k : Nat) : closedNow (s.begin dt).blk k = closedNow s.blk k := by simp [closedNow]
    dsimp only [exec, execDisconnectConfirmTimeout]
    exact expire_acts_env (Blk.scanned_of_running hr) (by simpa using ht) (disTimeout_fallback ((s.begin_get dt _).trans hstep)
      (by simpa using hd) (by simpa using hi) ((hclosed 0).trans hkp) ((hclosed 1).trans hkn) ((hclosed 2).trans hkc))
  · intro s dt t x hr hf _ hstep hd hs
    exact eng_acts (Blk.scanned_of_running hr) (feedbackOpened_disconnected (by simpa using hf) ((s.begin_get dt _).trans hstep)
      (by simpa using hd) (by simpa using hs))
  · intro s dt d hr ht hm hd hs
    dsimp only [exec, execTCtrlExpiry]
    exact expire_acts (Blk.scanned_of_running hr) (by simpa using ht) fun e =>
      tctrlExpiry_connected ((s.begin_mode dt).trans hm) (by simpa using hd) (by simpa using hs)
  · intro s dt d i hr ht hm hd hnow hi hs
    exact eng_acts (Blk.scanned_of_running hr) (zeroReached_before (by simpa using ht) ((s.begin_mode dt).trans hm) (by simpa using hd)
      hnow (by simpa using hi) (by simpa using hs))
  · intro s dt d hr ht hm hd hs
    dsimp only [exec, execPartnerRideExpiry]
    exact expire_acts (Blk.scanned_of_running hr) (by simpa using ht) fun e =>
      partnerRideExpiry_active ((s.begin_mode dt).trans hm) (by simpa using hd) ((s.begin_role dt).trans hs)

end Sys2Proof.Machine

/-! R150 to R171: the island's link, its limit latch, and the checks of the current inputs, the MID nodes and the NTCs. -/

namespace Sys2Proof.Machine

section
variable {e : Env} {b : Blk}

theorem islandLinkLoss_run (hb : b.phase = .run) (hok : b.get HVS_STA_ISLAND_OK = 1) :
    islandLinkLoss e b = beginExc e SRC_ISLAND_FAULT 0 0 0 0 (imdStop ((gateDrop e b).put HVS_STA_ISLAND_OK 0)) := by
  have hwarm (x : Blk) : modTrip (fun t => { t with warmDrop := t.warmDrop || false }) x = x := by simp [modTrip]
  have hphase : (b.phase == Phase.warmBoot) = false := by simp [hb]
  simp only [islandLinkLoss, hok, hphase, hwarm, one_ne_zero, if_false]

theorem islandLimitLatch_beyond {k d : Nat} {x : Int} {sat : Bool} (hb : b.phase = .warmBoot) (hk : k ≠ 3)
    (hx : limitBeyond e b k x sat = true) (hd : limitTime e k ≤ d) (hl : b.get HVS_STA_LIMIT_LATCH = 0) :
    islandLimitLatch k x sat d e b = raise e SRC_ISLAND_LIMIT_DROP 0 0 0
      (modTrip (fun t => { t with warmDrop := true }) (gateEdges e b (b.put HVS_STA_LIMIT_LATCH 1))) :=
  if_pos ⟨hb, hk, hx, hd, hl⟩

theorem openPathZero_within {held : Nat} {a h : Int} (hdue : zeroDue e b held = true) (ha : iabs a ≤ 200) (hh : iabs h ≤ 50000) :
    openPathZero a h held e b = endExc e SRC_SHUNT_OFFSET 0
      ((modHvs (fun x => { x with zeroAt := some e.now, zeroS := true, zeroH := true })
        ((b.putInt HVS_ZERO_SHUNT_OFS a).putInt HVS_ZERO_HALL_OFS (divRound h 100))).put HVS_STA_ZERO_VALID 1) := by
  simp only [openPathZero, hdue, ha, hh, judge, decide_true, Bool.not_true, not_true_eq_false, Bool.false_eq_true, if_true, if_false,
    true_or]
  rfl

theorem shuntFault_rail {d : Nat} {uv : Int} (hu : 510000 < iabs uv) (hd : 1000 ≤ d) (hok : b.get HVS_STA_SHUNT_OK = 1) :
    shuntFault uv d 0 e b =
      judgeAll e (⟨true, SRC_SHUNT_FAULT, 0, 0, 0, 0⟩ :: inputConds (lanesShow (pathFault e b (modHvs (fun h => { h with rail := true })
        (b.put HVS_STA_SHUNT_OK 0)))))
        (lanesShow (pathFault e b (modHvs (fun h => { h with rail := true }) (b.put HVS_STA_SHUNT_OK 0)))) := by
  simp [shuntFault, hu, hd, hok]

theorem hallFault_supply {ma d : Nat} {uv : Int} (hm : ma < 5 ∨ 150 < ma) (hok : b.get HVS_STA_HALL_OK = 1) :
    hallFault ma uv d e b = hallFail e (b.put HVS_HALL_SUP_CURRENT ma) := by
  have hbad : ma < 5 ∨ 150 < ma ∨ (10200000 < iabs uv ∧ 1000 ≤ d) := hm.imp_right .inl
  exact if_neg (by simp [hbad, hok])

theorem inputRestored_shunt (hok : b.get HVS_STA_SHUNT_OK = 0) :
    inputRestored 0 e b =
      judgeAll e [⟨false, SRC_SHUNT_FAULT, 0, 0, 0, 0⟩, lanesCond (lanesShow (compStep e (modHvs (fun h => { h with
          shuntOkAt := e.now, rail := false }) (b.put HVS_STA_SHUNT_OK 1))))]
        (lanesShow (compStep e (modHvs (fun h => { h with shuntOkAt := e.now, rail := false }) (b.put HVS_STA_SHUNT_OK 1)))) := by
  simp [inputRestored, hok]

theorem shuntHallMismatch_beyond {d : Nat} {a h : Int} (hr : xchkRuns b = true) (hw : xchkWindow e a < iabs (a - h))
    (hd : 1000 * e.get HVS_XCHK_WIN_TIME ≤ d) :
    shuntHallMismatch a h d e b = beginExc e SRC_SHUNT_HALL_MISMATCH 0 0 (dataWord (a - h)) (dataWord (xchkWindow e a)) b := by
  simp [shuntHallMismatch, onlyIf, hr, hw, hd]

theorem shuntHallMatch_within {d : Nat} {a h : Int} (hr : xchkRuns b = true) (hw : iabs (a - h) ≤ xchkWindow e a)
    (hd : 1000 * e.get HVS_XCHK_WIN_TIME ≤ d) : shuntHallMatch a h d e b = endExc e SRC_SHUNT_HALL_MISMATCH 0 b := by
  simp [shuntHallMatch, onlyIf, hr, hw, hd]

/-- R163: MIDP off by 20.01 V. -/
theorem midMismatch_midp {d : Nat} (hb : b.phase = .run) (hm : b.mode = .connected) (hkp : commanded b 0 = true)
    (hkn : commanded b 1 = true) (hp : b.get SAFE_SW_STATE_SSBP_CMD = 1) (hn : b.get SAFE_SW_STATE_SSBN_CMD = 1) (hd : 100 ≤ d)
    (hx : inExc b SRC_MID_MISMATCH 0 = false) (hcap : e.get TRIP_CAP_CTL_HVS_L4 = 0) :
    midMismatch [100000, 97999, 97999, 0, 0, 0] d e b = beginExc e SRC_MID_MISMATCH 0 0 2001 2000 b := by
  have hfar : iabs (-2001) = 2001 := rfl
  have hnear : iabs 0 = 0 := rfl
  have hword : dataWord 2001 = 2001 := by decide
  simp [midMismatch, judge, hb, hm, hkp, hkn, hp, hn, hd, hx, hcap, hfar, hnear, hword]

theorem ntcRead_onlyA {a c x : Int} (ha : calibrated b 8 a = x) (hlo : -400 ≤ x) (hhi : x ≤ 1500)
    (hc : calibrated b 9 c < -400 ∨ 1500 < calibrated b 9 c) :
    ntcRead a c e b = judgeAll e [⟨false, SRC_NTC_FAULT, 0, 0, 0, 0⟩, ⟨true, SRC_NTC_FAULT, 1, 0, 0, 0⟩]
      (modHvs (fun h => { h with ntcA := x }) (((modHvs (fun h => { h with ntcRead := true }) b).putInt HVS_NTC_NTC_A x).putInt
        HVS_NTC_NTC_B (-32768))) := by
  have hout : (decide (-400 ≤ calibrated b 9 c) && decide (calibrated b 9 c ≤ 1500)) = false := by simpa using by omega
  simp [ntcRead, ha, hlo, hhi, hout]

end

/-- Settles O37: each input's operation, on the state as the command finds it. -/
theorem islandLinkAndInputs : Obligations.IslandLinkAndInputs := by
  refine ⟨?_, ?_, ?_, ?_, ?_, ?_, ?_, ?_, ?_, ?_, ?_, ?_⟩
  · intro s dt hb hs hok
    exact eng_acts hs (islandLinkLoss_run ((s.begin_phase dt).trans hb) ((s.begin_get dt _).trans hok))
  · intro s dt hs
    exact eng_acts hs rfl
  · intro s dt k d x sat hb hk hx hd hl
    exact pin_acts (islandLimitLatch_beyond ((s.begin_phase dt).trans hb) hk hx hd ((s.begin_get dt _).trans hl))
  · intro s dt held a h hs hdue ha hh
    exact eng_acts hs (openPathZero_within hdue ha hh)
  · intro s dt d uv hs hu hd hok
    exact eng_acts hs (shuntFault_rail hu hd ((s.begin_get dt _).trans hok))
  · intro s dt ma d uv hs hm hok
    exact eng_acts hs (hallFault_supply hm ((s.begin_get dt _).trans hok))
  · intro s dt hs hok
    exact eng_acts hs (inputRestored_shunt ((s.begin_get dt _).trans hok))
  · intro s dt d a h hs hr hw hd
    exact eng_acts hs (shuntHallMismatch_beyond hr hw (by simpa using hd))
  · intro s dt d a h hs hr hw hd
    exact eng_acts hs (shuntHallMatch_within hr hw (by simpa using hd))
  · rintro s dt d v hb hs hm hkp hkn hp hn rfl hd hx hcap
    exact eng_acts hs (midMismatch_midp ((s.begin_phase dt).trans hb) ((s.begin_mode dt).trans hm) ((s.begin_commanded dt 0).trans hkp)
      ((s.begin_commanded dt 1).trans hkn) ((s.begin_get dt _).trans hp) ((s.begin_get dt _).trans hn) hd
      ((s.begin_inExc dt _ _).trans hx) ((s.begin_env_get dt _).trans hcap))
  · intro s dt a c x hs ha hlo hhi hc
    exact eng_acts hs (ntcRead_onlyA ha hlo hhi hc)
  · intro s dt hs
    exact eng_acts hs rfl

end Sys2Proof.Machine

/-! R202 and R213: a sweep that may close as the command finds it stays open where the command's own first step brings new positions in.
SWEEP_CLOSE first lets the addresses of an ADDRESS_COMMIT take effect whose instant has come (R202, step 7 of R201); a CMU that they place is
awaited from then on, and the sweep has no copy of it. -/

namespace Sys2Proof.Machine

/-- A sampled sweep without any copy. -/
def emptySweep : Sweep := ⟨1, 0, false, false, [], false, false, some ⟨0, 0, 0, 0, 0, 0, [0, 0, 0, 0, 0, 0]⟩, [], [], [], [], none⟩

/-- That sweep in service, with no CMU configured, and an ADDRESS_COMMIT due that places one at position 0. -/
def commitDue : State :=
  { State.reset with blk := { Blk.reset with
      phase := .run
      chain := { Blk.reset.chain with flight := [emptySweep], commit := some ⟨some 0, [(0, 0, 0, 0, 0)], 1, [0, 0, 0, 0]⟩ } } }

/-- As the command finds it no position is awaited, so the sweep may close. -/
theorem commitDue_closable : closable (commitDue.begin 0).env (commitDue.begin 0).blk emptySweep = true := by decide +kernel

/-- The sweep still waits for the new position after the command. -/
theorem commitDue_flight : (sweepCloseTwin (commitDue.begin 0).env (commitDue.begin 0).blk).chain.flight = [emptySweep] := by
  decide +kernel

/-- Refutes O41: the close of `emptySweep`, closable in `commitDue`, leaves it in flight. -/
theorem not_sweepDataIsCollectedAndClosed : ¬ Obligations.SweepDataIsCollectedAndClosed := by
  intro h
  obtain ⟨-, -, -, -, -, hclose⟩ := h
  obtain ⟨t, ht, hflight, -⟩ := hclose commitDue 0 emptySweep rfl rfl (by decide) commitDue_closable
  have hnext : exec (.sweepClose 0) commitDue = .next ((commitDue.begin 0).act sweepCloseTwin) := eng_next commitDue 0 _ rfl
  obtain rfl : (commitDue.begin 0).act sweepCloseTwin = t := by simpa [hnext] using ht
  exact absurd (commitDue_flight.symm.trans hflight) (by decide)

end Sys2Proof.Machine

/-! R221, R222, R228 and R241: open-wire slots and bursts. -/

namespace Sys2Proof.Machine

section
variable {e : Env} {b b1 : Blk} {t : Nat}

theorem openWireSlot_announced (hr : diagRuns b = true) (hp : b.chain.owPlan = none)
    (hdue : b.chain.owSince + ms (10 * e.get CHAIN_OW_CFG_PERIOD) ≤ e.now) (hfree : owFree e b t = true)
    (hroom : chainNow e (owReq b t (owPositions b)) b = (true, b1)) :
    openWireSlot t e b = modChain (fun c => { c with owPlan := some (t, false), owSince := e.now }) (b1.put CHAIN_STA_OW_DEFERRING 0) := by
  simp [openWireSlot, hr, hp, hfree, hroom, Nat.not_lt.mpr hdue]

theorem openWireSlot_deferred (hr : diagRuns b = true) (hp : b.chain.owPlan = none)
    (hdue : b.chain.owSince + ms (10 * e.get CHAIN_OW_CFG_PERIOD) ≤ e.now) (hfree : owFree e b t = false) :
    openWireSlot t e b =
      b.put CHAIN_STA_OW_DEFERRING (boolBit (decide (b.chain.owSince + ms (20 * e.get CHAIN_OW_CFG_PERIOD) ≤ e.now))) := by
  simp [openWireSlot, hr, hp, hfree, Nat.not_lt.mpr hdue]

theorem owDeferred_announced {x : Sweep} (hr : diagRuns b = true) (hp : b.chain.owPlan = none)
    (hdue : b.chain.owSince + ms (10 * e.get CHAIN_OW_CFG_PERIOD) + sec (e.get CHAIN_OW_CFG_DEFER) ≤ e.now)
    (hx : b.chain.flight.find? (fun y => y.lat.isNone && decide (50000 ≤ sdiff32 y.t e.clk.ns1)) = some x)
    (hroom : chainNow e (owReq b x.t (owPositions b)) b = (true, b1)) :
    owDeferred e b = raise e SRC_OW_DEFERRED 0 0 0 (modSweep x.id (fun y => { y with ow := true, owPos := owPositions b })
      (modChain (fun c => { c with owPlan := some (x.t, true), owSince := e.now }) (b1.put CHAIN_STA_OW_DEFERRING 0))) := by
  simp only [owDeferred, hr, hp, Nat.not_lt.mpr hdue, hx, hroom, not_true_eq_false, Option.isSome_none, Bool.false_eq_true, or_self,
    if_false]

theorem openWireResult_none {took : Bool} (hp : b.chain.owPlan = some (t, took)) :
    openWireResult [] e b = judgeAll e [] (modChain (fun c => { c with owPlan := none, owLast := e.now })
      ((b.bump CHAIN_OW_STA_TESTS).put CHAIN_OW_STA_LAST_TOOK (if took then 1 else 0))) := by
  cases took <;> simp [openWireResult, hp, boolBit]

theorem burst_one {p : Nat} (hr : diagRuns b = true) (hf : e.get LEDGER_RIPPLE_F ≠ 0) (hb : b.chain.burst = none)
    (ht : 50000 ≤ sdiff32 t e.clk.ns1) (hcap : b.chain.capFrom + sec 10 ≤ e.now)
    (hroom : chainNow e (reqAll b 0x0A (leBytes 4 t ++ leBytes 8 (posBits [p]))) b = (true, b1)) :
    burst [p] t e b = modChain (fun c => { c with
      burst := some ⟨t, e.now + (sdiff32 t e.clk.ns1).toNat / 5, [p], false⟩, captured := [p], capFrom := e.now })
      (b1.put CHAIN_STA_BURST_RUNNING 1) := by
  have hfew (r : Nat) : ([p].filter (fun q => ringOf q == r)).length ≤ 4 := (List.length_filter_le _ _).trans (by simp)
  simp [burst, hr, hf, hb, hcap, hroom, insSet, hfew, Int.not_lt.mpr ht]

/-- R241: below the minimum ripple the cells keep their estimates. -/
theorem burstData_last {p g : Nat} {cells : List (Nat × List Nat)} {cur : List Int} {u : BurstRun} (hb : b.chain.burst = some u)
    (hu : u.poss = [p]) (hg : (cmuAt b p).bind CmuRec.serves = some g)
    (hlow : rippleAmp (e.get LEDGER_RIPPLE_F) (burstSamples cells cur) < 1000 * e.get LEDGER_RIPPLE_MIN) :
    burstData p cells cur e b = modChain (fun c => { c with
      burst := none, wait := c.wait.filter (fun r => r.type != 0x0B || r.pos != p) }) (b.put CHAIN_STA_BURST_RUNNING 0) := by
  simp [burstData, hb, hu, hg, hlow, boolBit]

end

/-- Settles O44: each command's operation, on the state as the command finds it. -/
theorem diagnosticSlots : Obligations.DiagnosticSlots := by
  refine ⟨?_, ?_, ?_, ?_, ?_, ?_⟩
  · intro s dt t b1 hs hr hp hdue hfree hroom
    exact eng_acts hs (openWireSlot_announced hr (by simpa using hp) (by simpa using hdue) hfree hroom)
  · intro s dt t hs hr hp hdue hfree
    exact eng_acts hs (openWireSlot_deferred hr (by simpa using hp) (by simpa using hdue) hfree)
  · intro s dt x b1 hs hr hp hdue hx hroom
    exact eng_acts hs (owDeferred_announced hr (by simpa using hp) (by simpa using hdue) (by simpa using hx) hroom)
  · intro s dt t took hs hp
    exact eng_acts hs (openWireResult_none (by simpa using hp))
  · intro s dt t p b1 hs hr hf hb ht hcap hroom
    exact eng_acts hs (burst_one hr (by simpa using hf) (by simpa using hb) ht (by simpa using hcap) hroom)
  · intro s dt p g cells cur u hs hb hu hg hlow
    exact eng_acts hs (burstData_last (by simpa using hb) hu (by simpa [cmuAt] using hg) (by simpa using hlow))

end Sys2Proof.Machine

/-! R254: LIMIT_EXCEEDED is judged in service only (R36, R84): in a warm boot that keeps CONNECTED a current beyond the published limit
begins nothing. -/

namespace Sys2Proof.Machine

/-- A warm boot in CONNECTED, with both published limits 0. -/
def warmConnected : State := { State.reset with blk := { Blk.reset with phase := .warmBoot, mode := .connected } }

/-- The check, of 20 A for 2 s, leaves the list of excursions empty. -/
theorem warmConnected_judged :
    (limitExceeded 20000 2000000 (warmConnected.begin 0).env (warmConnected.begin 0).blk).watch.exc = [] := by decide +kernel

/-- LIMIT_EXCEEDED begun there would be in it. -/
theorem warmConnected_begun :
    (beginExc (warmConnected.begin 0).env SRC_LIMIT_EXCEEDED 0 0 (dataWord 20000)
      (dataWord ((warmConnected.begin 0).blk.get LEDGER_LIM_CHG_LIMIT)) (warmConnected.begin 0).blk).watch.exc ≠ [] := by decide +kernel

/-- Refutes O45: in `warmConnected` LIMIT_EXCEEDED does not begin. -/
theorem not_ledgerAndShuttleCommands : ¬ Obligations.LedgerAndShuttleCommands := by
  intro h
  obtain ⟨hlimit, -⟩ := h
  have hnext := hlimit warmConnected 0 2000000 20000 rfl rfl (by decide) (by decide) (by decide)
  have hrun : exec (.limitExceeded 0 20000 2000000) warmConnected = .next ((warmConnected.begin 0).act (limitExceeded 20000 2000000)) :=
    eng_next warmConnected 0 _ rfl
  rw [hrun] at hnext
  have hblk := congrArg State.blk (Host.Outcome.next.inj hnext)
  exact warmConnected_begun ((congrArg (fun b : Blk => b.watch.exc) hblk).symm.trans warmConnected_judged)

end Sys2Proof.Machine

/-! R284 to R296: the thermal evaluations. First what of an evaluation is shown, latched and raised afterwards, which leaves its results as
they are. -/

namespace Sys2Proof.Machine

theorem Undisturbed.therm {b b' : Blk} (h : Undisturbed b b') : b'.therm = b.therm := (congrArg Blk.therm h.calm :)

/-- The status fields that THERM shows after an evaluation, those of its latch, and what a raise writes. -/
def thermFlds : List Fld :=
  [THERM_STA_CELL, THERM_STA_BUS, THERM_STA_MOD, THERM_STA_COOL_LEVEL, THERM_STEPS_CELL, THERM_STEPS_BUS, THERM_STEPS_MOD,
   THERM_STEPS_MOD_PAUSE, SYS_STATE_THERMAL, THERM_STA_RELATCHED, THERM_STA_LATCH, THERM_STA_LATCH_GROUPS] ++ raiseFlds

/-- From one block to the next THERM's own state stays, and no status field outside `thermFlds` is written. -/
structure Evaluated (b b' : Blk) : Prop where
  therm : b'.therm = b.therm
  get : ∀ f : Fld, (∀ g ∈ thermFlds, g.key ≠ f.key) → b'.get f = b.get f

section
variable {e : Env} {b b' c : Blk}

theorem Evaluated.refl (b : Blk) : Evaluated b b := ⟨rfl, fun _ _ => rfl⟩

theorem Evaluated.trans (h : Evaluated b b') (k : Evaluated b' c) : Evaluated b c :=
  ⟨k.therm.trans h.therm, fun f hf => (k.get f hf).trans (h.get f hf)⟩

theorem Evaluated.put (b : Blk) {f : Fld} (hf : f ∈ thermFlds) (v : Nat) : Evaluated b (b.put f v) :=
  ⟨rfl, fun _ hg => Blk.get_put_ne _ v (hg f hf)⟩

theorem Undisturbed.evaluated (h : Undisturbed b b') : Evaluated b b' :=
  ⟨h.therm, fun f hf => h.get f fun g hg => hf g (List.mem_append_right _ hg)⟩

theorem thermShow_evaluated (e : Env) (b : Blk) : Evaluated b (thermShow e b) := by
  unfold thermShow
  refine ((((((((Evaluated.put _ ?_ _).trans (.put _ ?_ _)).trans (.put _ ?_ _)).trans (.put _ ?_ _)).trans (.put _ ?_ _)).trans
    (.put _ ?_ _)).trans (.put _ ?_ _)).trans (.put _ ?_ _)).trans (.put _ ?_ _)
  all_goals decide

theorem setLatch_evaluated (grp : Nat) (b : Blk) : Evaluated b (setLatch grp b) := by
  unfold setLatch
  extract_lets g
  have latched (p : Pwr) : Evaluated b { b with pwr := p } := ⟨rfl, fun _ _ => rfl⟩
  refine ((latched _).trans (.put _ ?_ _)).trans (.put _ ?_ _)
  all_goals decide

theorem grpLatch_evaluated (grp : Nat) (old new : Grp) (again : Bool) (b : Blk) : Evaluated b (grpLatch grp old new again b) := by
  have relatched : Evaluated b (if again then b.put THERM_STA_RELATCHED 1 else b) := by
    split
    · exact .put b (by decide) 1
    · exact .refl b
  unfold grpLatch
  extract_lets b1
  split
  · exact relatched.trans (setLatch_evaluated grp b1)
  · exact relatched

/-- What follows the judgement of an evaluation. -/
theorem judged_evaluated (e : Env) (conds : List Cond) (rs : List Raise) (b : Blk) :
    Evaluated b (thermShow e (judgeWith e conds rs b)) :=
  (judgeWith_undisturbed e b conds rs).evaluated.trans (thermShow_evaluated e _)

end

/-! ### The cell and busbar groups -/

/-- The hottest valid reading of the cells' NTCs, with its cell. -/
def cellTop (e : Env) (b : Blk) : Option (Nat × Int) :=
  hottest ((cellNtcs b).filterMap (fun p => (ntcValid e.now p.2.1 p.2.2).map (fun v => (p.1, v))))

/-- That of the busbars, with the partner's; none without one of the module's own. -/
def busTop (b : Blk) : Option (Nat × Int) :=
  if (busReads b).isEmpty then none else hottest (busReads b ++ (b.therm.partnerBus.map (fun v => (2, v))).toList)

theorem busTop_map (b : Blk) : (busTop b).map Prod.snd =
    if busReads b = [] then none else (hottest (busReads b ++ (b.therm.partnerBus.map (fun v => (2, v))).toList)).map Prod.snd := by
  simp only [busTop, List.isEmpty_iff]
  split <;> rfl

/-- The groups as evaluated, and the busbar maximum as shown, before what is shown and raised of them. -/
theorem groupEval_evaluated (e : Env) (b : Blk) :
    ∃ x, Evaluated x (groupEval e b) ∧ x.therm.cell = evalGrp (cellCfg e) ((cellTop e b).map Prod.snd) b.therm.cell ∧
      x.therm.bus = evalGrp (busCfg e) ((busTop b).map Prod.snd) b.therm.bus ∧
      ∀ n t, busTop b = some (n, t) → ∃ y : Blk, x = (y.putInt THERM_MAX_BUS_TEMP t).put THERM_MAX_BUS_SRC n := by
  delta groupEval
  extract_lets cc bc ntcs all buses top cm btop bm oldC oldB newC newB agC agB cool rl own b1 b2 b3 code conds b4
  have hb3 : b3.therm = b1.therm := by
    have hb2 : b2.therm = b1.therm := by
      dsimp only [b2]
      cases htop : top <;> rfl
    dsimp only [b3]
    cases hbtop : btop
    · exact hb2
    · exact hb2
  refine ⟨b3, ?_, hb3 ▸ rfl, hb3 ▸ rfl, fun n t ht => ⟨b2, ?_⟩⟩
  · exact (thermShow_evaluated e b3).trans (((grpLatch_evaluated 0 _ _ _ _).trans (grpLatch_evaluated 1 _ _ _ _)).trans
      (judged_evaluated e _ _ _))
  · have hbtop : btop = some (n, t) := ht
    simp only [b3, hbtop]

/-! ### The module group and the band -/

theorem mapIdx_map {α β γ : Type} (f : Nat → β → γ) (g : α → β) (n : Nat) (l : List α) :
    mapIdx f n (l.map g) = mapIdx (fun k x => f k (g x)) n l := by
  induction l generalizing n with
  | nil => rfl
  | cons x l ih => simp [mapIdx, ih]

/-- A sensor's reading, where it lies within the range of R284. -/
def inRange (t : Option Int) : Option Int := t.filter (fun x => decide (-550 ≤ x) && decide (x ≤ 1500))

/-- The hottest of the module's sensors. -/
def moduleTop (ts : List (Option Int)) : Option Int :=
  (hottest ((mapIdx (fun n t => (n, inRange t)) 0 ts).filterMap (fun p => p.2.map (fun t => (p.1, t))))).map Prod.snd

/-- One sensor as shown. -/
def showSensor (ts : List (Option Int)) (f : Fld) (n : Nat) (b : Blk) : Blk :=
  match ((ts.map inRange)[n]?).getD none with
  | some t => b.putInt f t
  | none => b.put f 0x8000

/-- S5 where HVS shows it, and S0 to S5 where THERM does. -/
def showSensors (ts : List (Option Int)) (b : Blk) : Blk :=
  showSensor ts THERM_MOD_T45_HIGH 5 (showSensor ts THERM_MOD_T45_LOW 4 (showSensor ts THERM_MOD_T23_HIGH 3
    (showSensor ts THERM_MOD_T23_LOW 2 (showSensor ts THERM_MOD_T01_HIGH 1 (showSensor ts THERM_MOD_T01_LOW 0
      (match (ts[5]?).getD none with
        | some t => b.putInt HVS_ISLAND_TEMP_TEMP t
        | none => b))))))

@[simp] theorem showSensor_therm (ts : List (Option Int)) (f : Fld) (n : Nat) (b : Blk) : (showSensor ts f n b).therm = b.therm := by
  unfold showSensor
  split <;> rfl

@[simp] theorem showSensors_therm (ts : List (Option Int)) (b : Blk) : (showSensors ts b).therm = b.therm := by
  simp only [showSensors, showSensor_therm]
  split <;> rfl

/-- Six sensors at 25.0 to 25.5 °C, as shown; the band stays. -/
theorem showSensors_six (b : Blk) :
    let x := showSensors [some 250, some 251, some 252, some 253, some 254, some 255] b
    x.get THERM_MOD_T01_LOW = 250 ∧ x.get THERM_MOD_T01_HIGH = 251 ∧ x.get THERM_MOD_T45_HIGH = 255 ∧
      x.get THERM_STA_BAND = b.get THERM_STA_BAND := by
  have hput (x : Blk) (f g : Fld) (v : Int) (h : f.key ≠ g.key) : (x.putInt f v).get g = x.get g := Blk.get_put_ne x _ h
  have hshown : showSensors [some 250, some 251, some 252, some 253, some 254, some 255] b =
      ((((((b.putInt HVS_ISLAND_TEMP_TEMP 255).putInt THERM_MOD_T01_LOW 250).putInt THERM_MOD_T01_HIGH 251).putInt
        THERM_MOD_T23_LOW 252).putInt THERM_MOD_T23_HIGH 253).putInt THERM_MOD_T45_LOW 254).putInt THERM_MOD_T45_HIGH 255 := rfl
  rw [hshown]
  refine ⟨?_, ?_, ?_, ?_⟩
  · rw [hput _ _ _ _ (by decide), hput _ _ _ _ (by decide), hput _ _ _ _ (by decide), hput _ _ _ _ (by decide),
      hput _ _ _ _ (by decide), Blk.putInt, Blk.get_put_self]
    decide
  · rw [hput _ _ _ _ (by decide), hput _ _ _ _ (by decide), hput _ _ _ _ (by decide), hput _ _ _ _ (by decide), Blk.putInt,
      Blk.get_put_self]
    decide
  · rw [Blk.putInt, Blk.get_put_self]
    decide
  · rw [hput _ _ _ _ (by decide), hput _ _ _ _ (by decide), hput _ _ _ _ (by decide), hput _ _ _ _ (by decide),
      hput _ _ _ _ (by decide), hput _ _ _ _ (by decide), hput _ _ _ _ (by decide)]

/-- The group as evaluated, the band and the sensors as shown, before what is shown and raised of them. -/
theorem moduleEval_evaluated (ts : List (Option Int)) (e : Env) (b : Blk) (hr : thermRuns b = true) :
    ∃ (y : Blk) (band : Nat), Evaluated (showSensors ts (y.put THERM_STA_BAND band)) (moduleEval ts e b) ∧
      y.therm.mod = evalGrp (modCfg e) (moduleTop ts) b.therm.mod ∧ y.therm.bandSet = (b.therm.bandSet || (moduleTop ts).isSome) ∧
      ∀ t, moduleTop ts = some t → b.therm.bandSet = false → band = bandOf t := by
  delta moduleEval
  rw [if_neg (by simp [hr])]
  extract_lets ok vals valid m c old new again cur band rl coils own b1 island show_ b2 conds
  have hm : m = moduleTop ts := by
    dsimp only [m, valid, vals, ok]
    rw [mapIdx_map]
    rfl
  have hb2 : b2 = showSensors ts (b1.put THERM_STA_BAND band) := rfl
  refine ⟨b1, band, ?_, by rw [← hm], by rw [← hm], fun t ht hset => ?_⟩
  · rw [← hb2]
    exact (thermShow_evaluated e b2).trans ((grpLatch_evaluated 2 _ _ _ _).trans (judged_evaluated e _ _ _))
  · rw [← hm] at ht
    simp only [band, ht, hset, Bool.false_eq_true, if_false]

/-! ### The commands -/

/-- A temperature for the learning cycles changes nothing that the groups are evaluated on. -/
theorem thermGroups_evaluated (e : Env) (b : Blk) (hr : thermRuns b = true) :
    ∃ x, Evaluated x (thermGroups e b) ∧ x.therm.cell = evalGrp (cellCfg e) ((cellTop e b).map Prod.snd) b.therm.cell ∧
      x.therm.bus = evalGrp (busCfg e) ((busTop b).map Prod.snd) b.therm.bus ∧
      ∀ n t, busTop b = some (n, t) → ∃ y : Blk, x = (y.putInt THERM_MAX_BUS_TEMP t).put THERM_MAX_BUS_SRC n := by
  have hgroups : thermGroups e b = groupEval e (onlyIf b.running cycTemp b) := if_pos hr
  rw [hgroups, onlyIf]
  split
  · exact groupEval_evaluated e (cycTemp b)
  · exact groupEval_evaluated e b

section
variable {s : State} {dt : Nat}

theorem State.begin_thermRuns : thermRuns (s.begin dt).blk = thermRuns s.blk := by simp [thermRuns]

theorem State.begin_cellTop : cellTop (s.begin dt).env (s.begin dt).blk = hottest ((cellNtcs s.blk).filterMap (fun p =>
    (ntcValid (s.begin dt).clk.now p.2.1 p.2.2).map (fun v => (p.1, v)))) := by
  rw [cellTop, State.begin_blk]
  rfl

theorem State.begin_busTop : busTop (s.begin dt).blk = busTop s.blk := by rw [State.begin_blk]; rfl

theorem State.begin_cfgs : cellCfg (s.begin dt).env = cellCfg s.env ∧ busCfg (s.begin dt).env = busCfg s.env ∧
    modCfg (s.begin dt).env = modCfg s.env := by
  simp [cellCfg, busCfg, modCfg]

/-- A command that finds nothing to do, whether scan access holds the engines or not. -/
theorem eng_idle {f : Env → Blk → Blk} (h : f (s.begin dt).env (s.begin dt).blk = (s.begin dt).blk) :
    eng dt f s = .next ((s.begin dt).act fun _ b => b) := by
  cases hs : s.blk.keep.scanned with
  | false => exact eng_acts hs h
  | true => exact eng_scanned s dt f hs

end

section
variable {e : Env} {b : Blk} {k i : Nat}

theorem coilUpdate_unset (hr : thermRuns b = true) (hk : inHold b k = true) (hs : seriesMode b = false) (h0 : e.get (coilR20 k) = 0) :
    coilUpdate k i e b =
      (let c : Coil := { (b.therm.coils[k]?.getD ⟨0, 0, 0, 0, 25⟩) with
        r := if i = 0 then 65535 else min 65535 (b.get (dutyFld k) * b.get PWR_SUPPLY_VCOIL * 10 / i) }
       let b1 := ({ b with therm := { b.therm with
         coils := setAt b.therm.coils k { c with nextDuty := holdDuty e (b.get THERM_STA_BAND) k c } } }).put (coilIFld k) i
       endExc e SRC_COIL_HOT k (b1.put (coilTFld k) 0x8000)) := by
  have hruns : ¬ (¬ thermRuns b ∨ ¬ inHold b k ∨ seriesMode b) := by simp [hr, hk, hs]
  simp only [coilUpdate, if_neg hruns, h0, if_true]

theorem coilUpdate_set {t : Int} (hr : thermRuns b = true) (hk : inHold b k = true) (hs : seriesMode b = false)
    (h0 : e.get (coilR20 k) ≠ 0)
    (ht : t = 200 + divRound ((((if i = 0 then 65535 else min 65535 (b.get (dutyFld k) * b.get PWR_SUPPLY_VCOIL * 10 / i) : Nat) : Int) -
      e.get (coilR20 k)) * 1000000) (e.get (coilR20 k) * 393)) :
    coilUpdate k i e b =
      (let c : Coil := { (b.therm.coils[k]?.getD ⟨0, 0, 0, 0, 25⟩) with
        r := if i = 0 then 65535 else min 65535 (b.get (dutyFld k) * b.get PWR_SUPPLY_VCOIL * 10 / i) }
       let b1 := ({ b with therm := { b.therm with
         coils := setAt b.therm.coils k { c with nextDuty := holdDuty e (b.get THERM_STA_BAND) k c } } }).put (coilIFld k) i
       if (e.get THERM_COIL_T_MAX_T_MAX : Int) < t then
         beginExc e SRC_COIL_HOT k (2 ^ k) (dataWord t) (e.get THERM_COIL_T_MAX_T_MAX) (b1.putInt (coilTFld k) t)
       else endExc e SRC_COIL_HOT k (b1.putInt (coilTFld k) t)) := by
  have hruns : ¬ (¬ thermRuns b ∨ ¬ inHold b k ∨ seriesMode b) := by simp [hr, hk, hs]
  simp only [coilUpdate, if_neg hruns, if_neg h0, ← ht, judge, decide_eq_true_eq]

theorem coilUpdate_idle (h : thermRuns b = false ∨ inHold b k = false ∨ seriesMode b = true) : coilUpdate k i e b = b :=
  if_pos (by simpa using h)

theorem aonCheck_hot {s0 s4 : Int} (hb : b.phase = .warmBoot) (hd : b.therm.aonDrop = false)
    (h : (modCfg e).shutdown ≤ s0 ∨ (modCfg e).shutdown ≤ s4) :
    aonCheck s0 s4 e b = raise e SRC_MOD_SHUTDOWN 0 (dataWord (max s0 s4)) (dataWord (modCfg e).shutdown)
      (setLatch 2 (dropOutputs e { b with therm := { b.therm with aonDrop := true } })) :=
  if_pos ⟨hb, h, by simp [hd]⟩

theorem aonCheck_idle {s0 s4 : Int}
    (h : b.phase ≠ .warmBoot ∨ b.therm.aonDrop = true ∨ (s0 < (modCfg e).shutdown ∧ s4 < (modCfg e).shutdown)) :
    aonCheck s0 s4 e b = b := by
  refine if_neg fun ⟨hb, hhot, hd⟩ => ?_
  rcases h with h | h | ⟨h0, h4⟩
  · exact h hb
  · exact hd h
  · omega

end

/-- Settles O46: the results of each evaluation stand in the block that its last steps only show and judge. -/
theorem thermalEvaluations : Obligations.ThermalEvaluations := by
  refine ⟨?_, ?_, ?_, ?_, ?_, ?_, ?_, ?_, ?_, ?_, ?_⟩
  · intro s dt hs hr
    obtain ⟨hcell, hbus, -⟩ := s.begin_cfgs (dt := dt)
    obtain ⟨x, hx, hxc, hxb, -⟩ := thermGroups_evaluated (s.begin dt).env (s.begin dt).blk (State.begin_thermRuns.trans hr)
    refine ⟨_, eng_next s dt _ hs, ?_, ?_, s.begin_par dt⟩
    · rw [State.act_blk, hx.therm, hxc, hcell, State.begin_cellTop, State.begin_therm]
    · rw [State.act_blk, hx.therm, hxb, hbus, State.begin_busTop, busTop_map, State.begin_therm]
  · intro s dt hr _ hp hn hb
    obtain ⟨hcell, hbus, -⟩ := s.begin_cfgs (dt := dt)
    have htop : busTop (s.begin dt).blk = some (1, 260) := by
      rw [State.begin_busTop, busTop, hb, hp]
      rfl
    have hnone : cellTop (s.begin dt).env (s.begin dt).blk = none := by
      simp [State.begin_cellTop, cellNtcs, hn, hottest]
    obtain ⟨x, hx, hxc, hxb, hshow⟩ := thermGroups_evaluated (s.begin dt).env (s.begin dt).blk
      (by simp [thermRuns, Blk.phase_of_running hr])
    obtain ⟨y, hy⟩ := hshow 1 260 htop
    refine ⟨_, eng_next s dt _ (Blk.scanned_of_running hr), ?_, ?_, ?_, ?_, s.begin_par dt⟩
    · rw [State.act_blk, hx.therm, hxc, hnone, State.begin_therm]
      rfl
    · rw [State.act_blk, hx.therm, hxb, hbus, htop, State.begin_therm]
      rfl
    · rw [State.act_blk, hx.get _ (by decide), hy, Blk.get_put_ne _ _ (by decide), Blk.putInt, Blk.get_put_self]
      decide
    · rw [State.act_blk, hx.get _ (by decide), hy, Blk.get_put_self]
      decide
  · intro s dt hr
    exact eng_idle (if_neg (by simp [State.begin_thermRuns, hr]))
  · intro s dt ts m hs hr hm
    obtain ⟨-, -, hmod⟩ := s.begin_cfgs (dt := dt)
    obtain ⟨y, band, hx, hxm, hxs, -⟩ := moduleEval_evaluated ts (s.begin dt).env (s.begin dt).blk (State.begin_thermRuns.trans hr)
    have htop : moduleTop ts = m := hm.symm
    refine ⟨_, eng_next s dt _ hs, ?_, ?_, s.begin_par dt⟩
    · rw [State.act_blk, hx.therm, showSensors_therm, Blk.put_therm, hxm, hmod, htop, State.begin_therm]
    · rw [State.act_blk, hx.therm, showSensors_therm, Blk.put_therm, hxs, htop, State.begin_therm]
  · intro s dt hr _ hset
    obtain ⟨-, -, hmod⟩ := s.begin_cfgs (dt := dt)
    obtain ⟨y, band, hx, hxm, hxs, hband⟩ := moduleEval_evaluated [some 250, some 251, some 252, some 253, some 254, some 255]
      (s.begin dt).env (s.begin dt).blk (by simp [thermRuns, Blk.phase_of_running hr])
    obtain ⟨h01, h01', h45, hb⟩ := showSensors_six (y.put THERM_STA_BAND band)
    have htop : moduleTop [some 250, some 251, some 252, some 253, some 254, some 255] = some 255 := by decide
    have htwo : band = bandOf 255 := hband 255 htop (by simpa using hset)
    refine ⟨_, eng_next s dt _ (Blk.scanned_of_running hr), ?_, ?_, ?_, ?_, ?_, ?_, s.begin_par dt⟩
    · rw [State.act_blk, hx.therm, showSensors_therm, Blk.put_therm, hxm, hmod, htop, State.begin_therm]
    · rw [State.act_blk, hx.get _ (by decide), h01]
    · rw [State.act_blk, hx.get _ (by decide), h01']
    · rw [State.act_blk, hx.get _ (by decide), h45]
    · rw [State.act_blk, hx.get _ (by decide), hb, htwo, Blk.get_put_self]
      decide
    · rw [State.act_blk, hx.therm, showSensors_therm, Blk.put_therm, hxs, htop]
      simp
  · intro s dt ts hr
    exact eng_idle (if_pos (by simp [State.begin_thermRuns, hr]))
  · intro s dt k i hs hr hk hser h0
    exact eng_acts hs (coilUpdate_unset (State.begin_thermRuns.trans hr) (by simpa [inHold] using hk)
      (by simpa [seriesMode] using hser) (by simpa using h0))
  · intro s dt k i t hs hr hk hser h0 ht
    exact eng_acts hs (coilUpdate_set (State.begin_thermRuns.trans hr) (by simpa [inHold] using hk)
      (by simpa [seriesMode] using hser) (by simpa using h0) (by simpa using ht))
  · intro s dt k i h
    exact eng_idle (coilUpdate_idle (by simpa [State.begin_thermRuns, inHold, seriesMode] using h))
  · intro s dt s0 s4 hb hd h
    obtain ⟨-, -, hmod⟩ := s.begin_cfgs (dt := dt)
    exact pin_acts (aonCheck_hot (by simpa using hb) (by simpa using hd) (by simpa [hmod] using h))
  · intro s dt s0 s4 h
    obtain ⟨-, -, hmod⟩ := s.begin_cfgs (dt := dt)
    exact pin_acts (aonCheck_idle (by simpa [hmod] using h))

end Sys2Proof.Machine

/-! R302 to R312 and R338: the safety inputs and the edge resets; R314: an output's test pulse. -/

namespace Sys2Proof.Machine

section
variable {e : Env} {b : Blk}

theorem tpsWindowEnd_judged {src : Nat} {rs : List TpsRead} (hr : b.running = true) (hev : b.get SAFE_SI_STATE_EVALUATING = 1) :
    tpsWindowEnd src rs e b =
      (let r := rs.foldl (fun (a : List Cond × Blk) x => (a.1 ++ (tpsOne e src a.2 x).1, (tpsOne e src a.2 x).2)) ([], tpsNext src e b)
       siEvalWith e r.1 [] r.2) := by
  have hruns : ¬ (¬ (tpsNext src e b).running ∨ (tpsNext src e b).get SAFE_SI_STATE_EVALUATING = 0) := by
    have hr' : (tpsNext src e b).running = true := hr
    have hev' : (tpsNext src e b).get SAFE_SI_STATE_EVALUATING = 1 := hev
    simp [hr', hev']
  exact if_neg hruns

theorem tpsWindowEnd_unevaluated {src : Nat} {rs : List TpsRead} (hev : b.get SAFE_SI_STATE_EVALUATING = 0) :
    tpsWindowEnd src rs e b = tpsNext src e b :=
  if_pos (.inr hev)

theorem edgeResetLocal_valid (hr : b.running = true) (hv : resetValid e b = true) :
    edgeResetLocal e b = edgeReset false e (modSafe (fun x => { x with
      a := { x.a with pressAt := none, relAt := none }, b := { x.b with pressAt := none, relAt := none } }) b) :=
  if_pos ⟨hr, hv⟩

theorem srstBlock_pressed {t : Nat} (hr : b.running = true) (ha : b.safe.a.high = true) (hp : b.safe.a.pressAt = some t)
    (ht : t + sec 3 < e.now) : srstBlock e b = b.put SAFE_SRST_STA_BLOCKED 1 := by
  simp [srstBlock, hr, pressedLong, ha, hp, ht]

theorem srstBlock_low (hr : b.running = true) (ha : b.safe.a.high = false) (hb : b.safe.b.high = false)
    (hta : b.safe.a.lowAt + ms 100 ≤ e.now) (htb : b.safe.b.lowAt + ms 100 ≤ e.now) :
    srstBlock e b = b.put SAFE_SRST_STA_BLOCKED 0 := by
  simp [srstBlock, hr, pressedLong, ha, hb, hta, htb]

theorem srstFault_stuck {t : Nat} (hr : b.running = true) (ha : b.safe.a.high = true) (hp : b.safe.a.pressAt = some t)
    (hb : b.safe.b.high = false) (ht : t + sec 60 ≤ e.now) :
    srstFault e b = judgeAll e [⟨true, SRC_SRST_FAULT, 14, 0, 0, 0⟩, ⟨false, SRC_SRST_FAULT, 15, 0, 0, 0⟩] b := by
  simp [srstFault, hr, ha, hp, hb, ht]

theorem tpsFault_bad {src held : Nat} (hr : b.running = true) (hh : 1000 ≤ held) (hp : tpsPulse e b src = false) :
    tpsFault src true held e b = beginExc e SRC_TPS_FAULT src 0 0 0 b := by
  simp [tpsFault, judge, hr, hh, hp]

end

/-- Settles O47: each input's operation, on the state as the command finds it. -/
theorem safetyInputsAndReset : Obligations.SafetyInputsAndReset := by
  refine ⟨?_, ?_, ?_, ?_, ?_, ?_, ?_, ?_, ?_, ?_, ?_⟩
  · intro s dt chs hb hs
    refine eng_acts hs ?_
    rw [siLevelChange, State.begin_phase, hb]
  · intro s dt src d rs hr hev ht hd
    exact expire_acts (Blk.scanned_of_running hr) (by simp [tpsTimer, ht, hd]) fun e =>
      tpsWindowEnd_judged ((s.begin_running dt).trans hr) ((s.begin_get dt _).trans hev)
  · intro s dt src d rs hs hev ht hd
    exact expire_acts hs (by simp [tpsTimer, ht, hd]) fun e => tpsWindowEnd_unevaluated ((s.begin_get dt _).trans hev)
  · intro s dt src rs h
    refine expire_idle s dt _ _ ?_
    rcases h with h | h <;> simp [tpsTimer, h]
  · intro s dt n d p hr hp hd
    exact expire_acts (Blk.scanned_of_running hr) (by simp [discTimer, Blk.phase_of_running hr, hp, hd]) fun e => rfl
  · intro s dt d hr hd
    dsimp only [exec, execSiFirstEvaluation]
    exact expire_acts (Blk.scanned_of_running hr) (by simpa using hd) fun e => rfl
  · intro s dt hr hv
    exact eng_acts (Blk.scanned_of_running hr) (edgeResetLocal_valid ((s.begin_running dt).trans hr) hv)
  · intro s dt t hr ha hp ht
    exact eng_acts (Blk.scanned_of_running hr)
      (srstBlock_pressed ((s.begin_running dt).trans hr) (by simpa using ha) (by simpa using hp) ht)
  · intro s dt hr ha hb hta htb
    exact eng_acts (Blk.scanned_of_running hr)
      (srstBlock_low ((s.begin_running dt).trans hr) (by simpa using ha) (by simpa using hb) (by simpa using hta) (by simpa using htb))
  · intro s dt t hr ha hp hb ht
    exact eng_acts (Blk.scanned_of_running hr)
      (srstFault_stuck ((s.begin_running dt).trans hr) (by simpa using ha) (by simpa using hp) (by simpa using hb) ht)
  · intro s dt src held hr hh hp
    exact eng_acts (Blk.scanned_of_running hr) (tpsFault_bad ((s.begin_running dt).trans hr) hh hp)

/-! ### The pins of a test pulse

A command's list of frames and pulses is its own: it starts empty, so what an earlier command put out is not in it. -/

/-- Output 0 is on, by function 4, and its test is due; the command before left a pulse of output 1 in the list. -/
def pulseDue : State :=
  { State.reset with
    par := RegMap.put [] (SAFE_SO_FUNC_SO 0) 4
    blk := { Blk.reset.put PWR_STA_VCOIL_OK 1 with
      phase := .run, mode := .isolated, tx := [.soTest 1 0], safe := { Blk.reset.safe with soBy := [(0, 0)] } } }

/-- Only the pulse of output 0 leaves. -/
theorem pulseDue_tx : (soTestPulse 0 (pulseDue.begin 0).env (pulseDue.begin 0).blk).tx.length = 1 := by decide +kernel

/-- Refutes O48: the pulse of `pulseDue`'s earlier command is not sent again. -/
theorem not_safetyOutputsAndCoilChecks : ¬ Obligations.SafetyOutputsAndCoilChecks := by
  intro h
  obtain ⟨hpulse, -⟩ := h
  obtain ⟨t, ht, htx, -⟩ := hpulse pulseDue 0 0 (0, 0) rfl (by decide) (by decide) rfl (by decide) (by decide +kernel)
    (by decide +kernel) (by decide +kernel)
  have hnext : exec (.soTestPulse 0 0) pulseDue = .next ((pulseDue.begin 0).act (soTestPulse 0)) := eng_next pulseDue 0 _ rfl
  obtain rfl : (pulseDue.begin 0).act (soTestPulse 0) = t := by simpa [hnext] using ht
  exact absurd (pulseDue_tx.symm.trans (congrArg List.length htx)) (by simp [pulseDue])

end Sys2Proof.Machine

/-! R340 to R365: activity, ERR_N, the first fault, host raises, the log's commits, lookups, anchors and pushes. -/

namespace Sys2Proof.Machine

section
variable {e : Env} {b : Blk}

/-- R340: only an activity of the source whose hold has passed ends. -/
theorem mem_eventHoldExpiry (src : Nat) (a : Act) :
    a ∈ (eventHoldExpiry src e b).watch.act ↔ a ∈ b.watch.act ∧ (a.src = src → ∀ x, a.hold = some x → e.now < x) := by
  simp only [eventHoldExpiry, modWatch, List.mem_filter, Bool.or_eq_true, bne_iff_ne, ne_eq, and_congr_right_iff]
  intro _
  cases hhold : a.hold with
  | none => simp
  | some t => by_cases hsrc : a.src = src <;> simp [hsrc]

theorem errRelease_asserted (hr : b.running = true) (hh : b.holdup = false) (hon : b.watch.errOn = true) (hn : b.watch.errSince ≠ e.now) :
    errRelease e b = finish .ok (recordRaise e { src := SRC_OPERATOR_ACTION, code := 4 } { b with
      watch := { b.watch with errArmed := true } }) := by
  rw [errRelease, localCmd_run b _ hr hh, if_pos ⟨hon, fun hc => hn hc.2⟩]
  rfl

/-- R351: a raise of the same cycle asserts ERR_N anew. -/
theorem errRelease_raised (hr : b.running = true) (hh : b.holdup = false) (hn : b.watch.errSince = e.now)
    (hc : cycleSeen e b.watch = true) : errRelease e b = finish .ok b := by
  rw [errRelease, localCmd_run b _ hr hh, if_neg fun h => h.2 ⟨hc, hn⟩]

theorem errRelease_off (hr : b.running = true) (hh : b.holdup = false) (hon : b.watch.errOn = false) :
    errRelease e b = finish .ok b := by
  rw [errRelease, localCmd_run b _ hr hh, if_neg (by simp [hon])]

theorem errNRelease_due (hr : b.running = true) (hon : b.watch.errOn = true) (ha : b.watch.errArmed = true)
    (hact : activeAt b 1 = false) (ht : b.watch.errSince + ms 2 ≤ e.now) :
    errNRelease e b = { b with watch := { b.watch with errOn := false, errArmed := false } } := by
  have hdue : errReleaseDue e b = true := by simp [errReleaseDue, Blk.phase_of_running hr, hon, ha, hact, ht]
  exact if_pos hdue

theorem errNRelease_early (h : b.watch.errArmed = false ∨ activeAt b 1 = true ∨ e.now < b.watch.errSince + ms 2) :
    errNRelease e b = b := by
  have hdue : errReleaseDue e b = false := by
    rcases h with h | h | h
    · simp [errReleaseDue, h]
    · simp [errReleaseDue, h]
    · simp [errReleaseDue, Nat.not_le.mpr h]
  exact if_neg (by simp [hdue])

/-- A cycle without a raise and without a reaction sequence. -/
theorem cycleOf_quiet {w : Watch} (hr : w.rrRun = false) (he : w.rrEnd = none) (hc : w.cyc = none) :
    (cycleOf e w).ran = false ∧ (cycleOf e w).qual = none := by
  simp [cycleOf, hr, he, hc]

theorem ffAck_first {v : Nat} {r : Rec} (hr : b.running = true) (hh : b.holdup = false) (hq : b.watch.rrRun = false)
    (he : b.watch.rrEnd = none) (hc : b.watch.cyc = none) (hv : b.watch.ffValid = true) (hf : b.watch.ff = some r) (hs : r.seq = v) :
    ffAck v e b = finish .ok (recordRaise e { src := SRC_OPERATOR_ACTION, code := 3 } { b with
      watch := { b.watch with ffValid := false } }) := by
  obtain ⟨hran, hqual⟩ := cycleOf_quiet (e := e) hq he hc
  rw [ffAck, localCmd_run b _ hr hh]
  simp [hran, hqual, hv, hf, hs, operatorAction, modWatch]

theorem ffAck_other {v : Nat} {r : Rec} (hr : b.running = true) (hh : b.holdup = false) (hq : b.watch.rrRun = false)
    (he : b.watch.rrEnd = none) (hc : b.watch.cyc = none) (hf : b.watch.ff = some r) (hs : r.seq ≠ v) :
    ffAck v e b = finish .conflict b := by
  obtain ⟨hran, -⟩ := cycleOf_quiet (e := e) hq he hc
  rw [ffAck, localCmd_run b _ hr hh]
  simp [hran, hf, hs]

theorem hostRaise_spare {n code d0 : Nat} (hr : b.running = true) (hh : b.holdup = false) (hs : b.role ≠ .standby) (hn : n < 16)
    (hp : e.get (FAULT_SPARE_MAP_PRODUCER n) = 1) :
    hostRaise (0xF0 + n) code d0 e b = finish .ok (raise e (0xF0 + n) code d0 0 b) := by
  have hspare : 0xF0 ≤ 0xF0 + n ∧ 0xF0 + n ≤ 0xFF ∧ e.get (FAULT_SPARE_MAP_PRODUCER (0xF0 + n - 0xF0)) = 1 := by
    refine ⟨by omega, by omega, ?_⟩
    rwa [Nat.add_sub_cancel_left]
  rw [hostRaise, hostCmd_run b _ hr hs hh, if_pos hspare]

theorem hostRaise_other {src code d0 : Nat} (hr : b.running = true) (hh : b.holdup = false)
    (hsrc : src < 0xF0 ∨ 0xFF < src ∨ e.get (FAULT_SPARE_MAP_PRODUCER (src - 0xF0)) ≠ 1) :
    hostRaise src code d0 e b = finish .denied b := by
  have hother : ¬ (0xF0 ≤ src ∧ src ≤ 0xFF ∧ e.get (FAULT_SPARE_MAP_PRODUCER (src - 0xF0)) = 1) := fun ⟨hlo, hhi, hp⟩ =>
    hsrc.elim (fun h => absurd hlo (Nat.not_le.mpr h)) fun h => h.elim (fun h => absurd hhi (Nat.not_le.mpr h)) fun h => h hp
  unfold hostRaise hostCmd
  rcases seqHost_cases b (fun b => if b.holdup then finish .denied b else
    if 0xF0 ≤ src ∧ src ≤ 0xFF ∧ e.get (FAULT_SPARE_MAP_PRODUCER (src - 0xF0)) = 1 then finish .ok (raise e src code d0 0 b)
    else finish .denied b) with ⟨hn, -⟩ | ⟨-, h⟩ | ⟨-, -, h⟩
  · simp [hr] at hn
  · exact h
  · rw [h, hh, if_neg (by simp), if_neg hother]

theorem logCommit_cached (h : b.watch.cache ≠ []) :
    logCommit e b = nvRequest .log { b with watch := { b.watch with logAt := none } } :=
  if_neg (by simpa using h)

theorem logLookup_run {who v : Nat} (hr : b.running = true) (hh : b.holdup = false) :
    logLookup who v e b = finish .ok { b with sess := modAt b.sess who (fun x => { x with lookup := v }) } :=
  localCmd_run b _ hr hh

/-- R358: an anchor at most 1 s old, of TB0's present wrap. -/
theorem anchorTb0_recent {v : Nat} (hr : b.running = true) (hh : b.holdup = false) (hv : v ≤ e.clk.ns0)
    (hold : e.clk.ns0 ≤ v + 1000000000) :
    anchorTb0 v e b = finish .ok (recordRaise e ⟨SRC_TIME_ANCHOR, 0, e.get LOG_ANCHOR_ABS_LO, e.get LOG_ANCHOR_ABS_HI, false,
      some (v, e.clk.wrap)⟩ b) := by
  have hage : ¬ 1000000000 < (e.clk.ns0 + 2 ^ 32 - v % 2 ^ 32) % 2 ^ 32 := by omega
  rw [anchorTb0, localCmd_run b _ hr hh, if_neg hage, if_pos hv]

theorem anchorTb0_old {v : Nat} (hr : b.running = true) (hh : b.holdup = false)
    (hold : 1000000000 < (e.clk.ns0 + 2 ^ 32 - v % 2 ^ 32) % 2 ^ 32) : anchorTb0 v e b = finish .conflict b := by
  rw [anchorTb0, localCmd_run b _ hr hh, if_pos hold]

theorem eventPush_due {key : List Byte} (hr : b.running = true) (hh : b.holdup = false) (hen : e.get FAULT_PUSH_CFG_EN = 1)
    (hp : b.watch.push ≠ []) (ht : b.watch.pushAt = none ∨ ∃ d, b.watch.pushAt = some d ∧ d + ms 1 ≤ e.now)
    (hk : keyOf b (e.get FAULT_PUSH_CFG_SESSION + 1) = some key) :
    eventPush e b =
      (let text := pushText e b (b.watch.push.take 8)
       let msg := text ++ graMac key text (sessOf b (e.get FAULT_PUSH_CFG_SESSION)).ctr
       (pushSend e msg 1 (pushSend e msg 0 { b with
         watch := { b.watch with push := b.watch.push.drop 8,
                                 pushSeq := (b.watch.pushSeq + 1) % 2 ^ 32,
                                 pushAt := some e.now } })).bump FAULT_PUSH_CNT_FRAMES) := by
  have hsoon : (b.watch.pushAt.map (fun t => decide (e.now < t + ms 1))).getD false = false := by
    rcases ht with h | ⟨d, h, hd⟩
    · simp [h]
    · simp [h, hd]
  have hdue : ¬ (¬ b.running ∨ b.holdup ∨ e.get FAULT_PUSH_CFG_EN = 0 ∨ b.watch.push.isEmpty ∨
      (b.watch.pushAt.map (fun t => decide (e.now < t + ms 1))).getD false) := by
    simp [hr, hh, hen, hp, hsoon]
  simp only [eventPush, hk, if_neg hdue, modWatch]

theorem eventPush_disabled (hen : e.get FAULT_PUSH_CFG_EN = 0) : eventPush e b = b := by
  unfold eventPush
  dsimp only
  split
  · rfl
  · rw [if_pos (by simp [hen])]

end

/-- Settles O50: each command's operation, on the state as the command finds it. -/
theorem eventsReleasesAndRecords : Obligations.EventsReleasesAndRecords := by
  refine ⟨?_, ?_, ?_, ?_, ?_, ?_, ?_, ?_, ?_, ?_, ?_, ?_, ?_, ?_, ?_, ?_⟩
  · intro s dt src d hs hd
    refine ⟨_, expire_armed s dt _ _ d hs (by simpa [holdTimer] using hd), fun a => ?_, by simp, ?_, ?_, ?_⟩
    · simpa using mem_eventHoldExpiry (e := ((s.begin dt).reach d).env) (b := ((s.begin dt).reach d).blk) src a
    all_goals simp [eventHoldExpiry, modWatch]
  · intro s dt hr hh hon hn
    exact eng_acts (Blk.scanned_of_running hr)
      (errRelease_asserted ((s.begin_running dt).trans hr) ((s.begin_holdup dt).trans hh) (by simpa using hon) (by simpa using hn))
  · intro s dt hr hh hn hc
    exact eng_acts (Blk.scanned_of_running hr)
      (errRelease_raised ((s.begin_running dt).trans hr) ((s.begin_holdup dt).trans hh) (by simpa using hn) (by simpa using hc))
  · intro s dt hr hh hon
    exact eng_acts (Blk.scanned_of_running hr)
      (errRelease_off ((s.begin_running dt).trans hr) ((s.begin_holdup dt).trans hh) (by simpa using hon))
  · intro s dt hr hon ha hact ht
    exact eng_acts (Blk.scanned_of_running hr)
      (errNRelease_due ((s.begin_running dt).trans hr) (by simpa using hon) (by simpa using ha) ((s.begin_activeAt dt 1).trans hact)
        (by simpa using ht))
  · intro s dt hs h
    exact eng_acts hs (errNRelease_early (by simpa using h))
  · intro s dt v r hr hh hq he hc hv hf hseq
    exact eng_acts (Blk.scanned_of_running hr)
      (ffAck_first ((s.begin_running dt).trans hr) ((s.begin_holdup dt).trans hh) (by simpa using hq) (by simpa using he)
        (by simpa using hc) (by simpa using hv) (by simpa using hf) hseq)
  · intro s dt v r hr hh hq he hc hf hseq
    exact eng_acts (Blk.scanned_of_running hr)
      (ffAck_other ((s.begin_running dt).trans hr) ((s.begin_holdup dt).trans hh) (by simpa using hq) (by simpa using he)
        (by simpa using hc) (by simpa using hf) hseq)
  · intro s dt n code d0 hr hh hs hn hp
    exact eng_acts (Blk.scanned_of_running hr)
      (hostRaise_spare ((s.begin_running dt).trans hr) ((s.begin_holdup dt).trans hh) (by simpa using hs) hn (by simpa using hp))
  · intro s dt src code d0 hr hh hsrc
    exact eng_acts (Blk.scanned_of_running hr)
      (hostRaise_other ((s.begin_running dt).trans hr) ((s.begin_holdup dt).trans hh) (by simpa using hsrc))
  · intro s dt d hs hd hc
    dsimp only [exec, execLogCommit]
    exact expire_acts hs (by simpa using hd) fun e => logCommit_cached (by simpa using hc)
  · intro s dt who v hr hh
    exact eng_acts (Blk.scanned_of_running hr) (logLookup_run ((s.begin_running dt).trans hr) ((s.begin_holdup dt).trans hh))
  · intro s dt v hr hh hv hold _
    exact eng_acts (Blk.scanned_of_running hr)
      (anchorTb0_recent ((s.begin_running dt).trans hr) ((s.begin_holdup dt).trans hh) hv hold)
  · intro s dt v hr hh hold
    exact eng_acts (Blk.scanned_of_running hr) (anchorTb0_old ((s.begin_running dt).trans hr) ((s.begin_holdup dt).trans hh) hold)
  · intro s dt key hr hh hen hp ht hk
    exact eng_acts (Blk.scanned_of_running hr)
      (eventPush_due ((s.begin_running dt).trans hr) ((s.begin_holdup dt).trans hh) (by simpa using hen) (by simpa using hp)
        (by simpa using ht) (by simpa [keyOf] using hk))
  · intro s dt hs hen
    exact eng_acts hs (eventPush_disabled (by simpa using hen))

end Sys2Proof.Machine

/-! R434: at the end of a back-off a write entry that the role now bars is skipped with code 8, and its transaction does not start again. -/

namespace Sys2Proof.Machine

/-- A STANDBY whose back-off of entry 0, a write, ends now. -/
def barredBackoff : State :=
  { State.reset with
    par := ((RegMap.put [] RACK_CTL_EN 1).put (RACK_ENTRY_WRITE 0) 1)
    blk := { Blk.reset with
      phase := .run, role := .standby, rack := { Blk.reset.rack with backBy := some 0, cur := some ⟨0, false, [], 0⟩ } } }

/-- The transaction leaves the bus, where driving it again would keep it. -/
theorem barredBackoff_cur :
    (backoffEnd ((barredBackoff.begin 0).reach 0).env ((barredBackoff.begin 0).reach 0).blk).rack.cur = none := by decide +kernel

/-- Refutes O55: the STANDBY of `barredBackoff` does not drive the write again. -/
theorem not_rackBusPolling : ¬ Obligations.RackBusPolling := by
  intro h
  obtain ⟨-, -, -, -, -, -, hback, -⟩ := h
  have hdriven := hback barredBackoff 0 0 ⟨0, false, [], 0⟩ rfl rfl rfl (by decide +kernel) (by decide +kernel)
  have hrun : exec (.backoffEnd 0) barredBackoff = .next (((barredBackoff.begin 0).reach 0).act backoffEnd) :=
    expire_armed barredBackoff 0 backoffTimer backoffEnd 0 rfl rfl
  have hcur := congrArg (fun t : State => t.blk.rack.cur) (Host.Outcome.next.inj (hrun.symm.trans hdriven))
  exact Option.some_ne_none _ (hcur.symm.trans barredBackoff_cur)

end Sys2Proof.Machine

/-! R470: once the service time is over, a request of that cycle is judged in SEALED, and SVC_END of the bound session is refused. -/

namespace Sys2Proof.Machine

/-- In SERVICE, bound to session 0, at the instant where the service time ends. -/
def serviceEnding : State :=
  { State.reset with
    blk := { Blk.reset with phase := .run, keep := { Blk.reset.keep with sec := .service, svcBy := some 0 } } }

/-- SVC_END is denied there, so the module is still in SERVICE. -/
theorem serviceEnding_svcEnd : ((serviceEnding.begin 0).act (svcEnd 0)).blk.keep.sec = .service := by decide +kernel

/-- Refutes O57: the statement has SVC_END of `serviceEnding` return to SEALED. -/
theorem not_securityStatesAndKeys : ¬ Obligations.SecurityStatesAndKeys := by
  intro h
  obtain ⟨-, -, -, -, -, -, -, -, hend, -⟩ := h
  have hran := Host.Outcome.next.inj (hend serviceEnding 0 0 rfl rfl rfl (by decide) (by decide +kernel))
  have hsealed := congrArg (fun t : State => t.blk.keep.sec) hran
  exact absurd (serviceEnding_svcEnd.symm.trans hsealed) (by decide +kernel)

end Sys2Proof.Machine

/-! R112: the answer to a READ is sent through the port's record; the statement lets a state have none, and there no frame leaves. -/

namespace Sys2Proof.Machine

/-- The key of session 0 in `portless`. -/
def readKey : List Byte := [1#8]

/-- In service with the link of port A up and a key for session 0, but without a record of a port. -/
def portless : State :=
  { State.reset with
    blk := { Blk.reset.put (PORT_LINK_UP 0) 1 with phase := .run, ports := [], keep := { Blk.reset.keep with keys := [(1, readKey)] } } }

/-- The bytes that the MAC of a READ of SYS.ID covers: session 0, sequence 0, tag 0, one word from address 0. -/
def readText : List Byte := [1#8, 1#8] ++ List.replicate 7 0#8 ++ [1#8, 1#8] ++ List.replicate 13 0#8

/-- That READ as it is received. -/
def readReq : GraReq := ⟨0, 0, 0, 1, 1, 0, 0, [], readText, graMac readKey readText 0⟩

/-- Its frame, padded to the shortest length, to the address of port A. -/
def readFrame : EthF := ⟨portMac portless.blk 0, List.replicate 6 0#8, none, 0x88B5, readReq.text ++ readReq.mac ++ List.replicate 6 0#8⟩

/-- The READ is of good form. -/
theorem readFrame_parsed : ethParse readFrame.bytes = some readFrame ∧ graParse readFrame.body = some readReq := by decide +kernel

/-- No frame answers it. -/
theorem portless_silent : (graFrame 1 0 readFrame.bytes (portless.begin 0)).blk.tx = [] := by decide +kernel

/-- Refutes O27: the statement has `portless` answer the READ at once. -/
theorem not_requestsAreCheckedAndAnswered : ¬ Obligations.RequestsAreCheckedAndAnswered := by
  intro h
  obtain ⟨hread, -⟩ := h
  obtain ⟨hframe, hreq⟩ := readFrame_parsed
  obtain ⟨t, hexec, -, -, -, -, -, -, htx⟩ := hread portless 0 0 readFrame.bytes readKey readFrame readReq (by decide +kernel) hframe rfl
    (by decide +kernel) (by decide +kernel) hreq rfl (by decide +kernel) (by decide +kernel) (by decide +kernel)
    (by decide +kernel) rfl (by decide +kernel) (by decide +kernel) (by decide +kernel) (by decide +kernel)
    (by decide +kernel) rfl (by decide +kernel)
  obtain rfl : graFrame 1 0 readFrame.bytes (portless.begin 0) = t := Host.Outcome.next.inj hexec
  exact List.cons_ne_nil _ _ (htx.symm.trans portless_silent)

end Sys2Proof.Machine

/-! What the end of a boot leaves alone once the module is in service (R84, R88, R145): its phase, that no ACTIVATE waits, and that every
page is locked. -/

namespace Sys2Proof.Machine

/-- What a boot's end settles: the phase, a waiting ACTIVATE, and the unlocked pages. -/
def Blk.served (b : Blk) : Phase × Option Activate × List Nat := (b.phase, b.keep.act, b.unlocked)

/-- The module stays in its phase; no ACTIVATE begins to wait, and no page unlocks. -/
structure InService (b b' : Blk) : Prop where
  phase : b'.phase = b.phase
  act : b.keep.act = none → b'.keep.act = none
  locks : b.unlocked = [] → b'.unlocked = []

section
variable {b b' c : Blk}

theorem InService.same (h : b'.served = b.served) : InService b b' :=
  ⟨congrArg Prod.fst h, (congrArg (fun x => x.2.1) h).trans, (congrArg (fun x => x.2.2) h).trans⟩

theorem InService.refl (b : Blk) : InService b b := .same rfl

theorem InService.trans (h : InService b b') (k : InService b' c) : InService b c :=
  ⟨k.phase.trans h.phase, k.act ∘ h.act, k.locks ∘ h.locks⟩

/-- Some change before an operation, outside all that. -/
theorem InService.after (k : InService b' c) (h : b'.served = b.served) : InService b c := (InService.same h).trans k

theorem InService.ite {p : Prop} [Decidable p] (h : InService b b') (k : InService b c) : InService b (if p then b' else c) := by
  split
  · exact h
  · exact k

theorem InService.onlyIf (p : Bool) {f : Blk → Blk} (h : InService b (f b)) : InService b (onlyIf p f b) := .ite h (.refl b)

theorem Undisturbed.inService (h : Undisturbed b b') : InService b b' := ⟨h.phase, fun ha => h.keep ▸ ha, h.locks⟩

/-- A fold of operations that each keep all that. -/
theorem InService.foldl {α : Type} (l : List α) {f : Blk → α → Blk} (hf : ∀ x a, InService x (f x a)) (b : Blk) :
    InService b (l.foldl f b) :=
  List.foldlRecOn (motive := fun x : Blk => InService b x) l f (.refl b) fun x hx a _ => hx.trans (hf x a)

end

section
variable (e : Env) (b : Blk)

theorem put_inService (f : Fld) (v : Nat) : InService b (b.put f v) := .same rfl

/-! ### CHAIN -/

theorem chainGo_inService (t : Nat) (r : ChainReq) : InService b (chainGo t r b) := by
  unfold chainGo
  split
  · exact (chainTx_undisturbed _ _ _ _ _).inService.after rfl
  · refine InService.trans ?_ (chainTx_undisturbed _ _ _ _ _).inService
    exact .ite (.same rfl) (.refl b)

theorem pumpOne_inService (gap : Nat) (a : Blk × List ChainReq) (r : ChainReq) : InService a.1 (pumpOne e gap a r).1 := by
  unfold pumpOne
  dsimp only
  split
  · exact .refl _
  · split
    · exact .ite (.refl _) (.same rfl)
    · split
      · exact (chainGo_inService _ _ r).trans (.same rfl)
      · exact .refl _

theorem presetStep_inService : InService b (presetStep e b) := .ite (.same rfl) (.refl b)

theorem chainPump_inService : InService b (chainPump e b) := by
  have pumped (gap : Nat) (l : List ChainReq) (a : Blk × List ChainReq) : InService a.1 (l.foldl (pumpOne e gap) a).1 :=
    List.foldlRecOn (motive := fun x : Blk × List ChainReq => InService a.1 x.1) l _ (.refl _)
      fun x hx r _ => hx.trans (pumpOne_inService e gap x r)
  have preset := presetStep_inService e b
  unfold chainPump
  extract_lets b0 ws first
  split
  · exact .refl b
  · split
    · exact preset
    · have waited : InService (presetStep e b) (modChain (fun c => { c with wait := [] }) b0) := .same rfl
      exact ((preset.trans waited).trans (pumped _ _ (_, []))).trans (.same rfl)

theorem chainAsk_inService (rs : List ChainReq) : InService b (chainAsk e rs b) := (chainPump_inService e _).after rfl

theorem authDeferred_inService : InService b (authDeferred e b) :=
  (InService.foldl _ (fun x _ => chainAsk_inService e x _) _).after rfl

theorem silenceShow_inService : InService b (silenceShow b) := .foldl _ (fun x _ => put_inService x _ _) b

theorem enumStart_inService : InService b (enumStart e b) := by
  refine InService.trans ?_ (judgeAll_undisturbed e _ _).inService
  refine InService.trans ?_ (silenceShow_inService _)
  exact (chainAsk_inService e _ _).after rfl

theorem gapResume_inService : InService b (gapResume e b) := by
  unfold gapResume skipLate
  exact .ite (.same rfl) ((raise_undisturbed e _ _ _ _ _).inService.after rfl)

/-! ### The inputs and the sequence -/

theorem stopTests_inService : InService b (stopTests e b) := by
  refine .ite (Undisturbed.inService ?_) (.refl b)
  refine Undisturbed.trans (Undisturbed.trans ((ssbOff_undisturbed e b).trans (releaseAll_undisturbed _)) ?_) (setStep_undisturbed _ _)
  exact (modSeq_undisturbed _ _).trans (.put _ (by decide) 0)

theorem exitMaint_inService : InService b (exitMaint e b) := (stopTests_inService e b).trans (changeMode_undisturbed e _ _).inService

theorem siEvalWith_inService (cs : List Cond) (rs : List Raise) : InService b (siEvalWith e cs rs b) := by
  have judged (x : Blk) (hx : InService b x) (l : List Cond) : InService b (judgeWith e l rs (siShow e x)) :=
    hx.trans ((judgeWith_undisturbed e _ _ _).inService.after rfl)
  unfold siEvalWith
  extract_lets b1 b2
  have h2 : InService b b2 := judged b1 (.same rfl) _
  exact .ite (judged b (.refl b) _) (.ite (h2.trans (exitMaint_inService e _)) h2)

theorem droppedResume_inService : InService b (droppedResume e b) := by
  unfold droppedResume
  dsimp only
  split
  · exact .same rfl
  · split
    · split
      · exact (startDis_undisturbed e _ _).inService.after rfl
      · exact .same rfl
    · split
      · exact .same rfl
      · exact (tripIdle_undisturbed e _).inService.after rfl

/-! ### Captures and settings -/

theorem captureStore_inService (c : CapBuf) : InService b (captureStore e c b) := by
  unfold captureStore
  split
  · exact ((watch_undisturbed b _).trans (raise_undisturbed e _ _ _ _ _)).inService
  next k hk =>
    extract_lets b1 b2 b3
    have h3 : InService b b3 := .ite (.same rfl) (.same rfl)
    exact (h3.trans (put_inService b3 _ _)).trans (nvRequest_undisturbed _ _).inService

theorem captureResume_inService : InService b (captureResume e b) := .foldl _ (fun x c => captureStore_inService e x c) b

theorem capJudge_inService : InService b (capJudge e b) := .ite (.refl b) (judge_undisturbed e b _ _ _ _ _ _).inService

theorem capShown_inService : InService b (capJudge e (holdShow e b)) := (capJudge_inService e _).after rfl

theorem pcvSet_inService (v : Nat) : InService b (pcvSet e v b) := by
  have lapsed (x : Blk) (hx : InService b x) : InService b (raise e SRC_PCV_LAPSED 0 0 0 x) :=
    hx.trans (raise_undisturbed e _ _ _ _ _).inService
  have raised := lapsed _ (InService.same (b := b) (b' := ((modSafe (fun s => { s with pcvBy := none }) b).put SAFE_PCV v).put
    SAFE_STA_PCV_CONFIRMED 0) rfl)
  exact .ite (.same rfl) (.ite (.ite (raised.trans (changeMode_undisturbed e _ _).inService) raised) (.same rfl))

theorem coilsTaken_inService : InService b (coilsTaken e b) := .foldl _ (fun x _ =>
  .ite ((put_inService x _ _).trans (endExc_undisturbed e _ _ _).inService) (.refl x)) b

theorem reserveNew_inService (p : RegMap) : InService b (reserveNew p e b) :=
  ((raiseAll_undisturbed e b _).trans (raiseAll_undisturbed e _ _)).inService

theorem settingsTaken_inService (p : RegMap) : InService b (settingsTaken p e b) := by
  unfold settingsTaken
  extract_lets b1 b2 b3 b4
  have h1 : InService b b1 := .ite (capShown_inService e b) (.refl b)
  have h2 : InService b1 b2 := .ite ((siEvalWith_inService e _ _ _).after rfl) (.refl b1)
  have h3 : InService b2 b3 := .ite (judgeAll_undisturbed e _ _).inService (.refl b2)
  have h4 : InService b3 b4 := .ite (coilsTaken_inService e b3) (.refl b3)
  exact (((h1.trans h2).trans h3).trans h4).trans ((reserveNew_inService e _ p).after rfl)

/-! ### HOLDUP -/

theorem serviceEnd_inService : InService b (serviceEnd e b) :=
  .ite ((recordRaise_undisturbed e _ _).inService.after rfl) (.refl b)

theorem activateDrop_inService : InService b (activateDrop b) := by
  unfold activateDrop
  split
  · exact .refl b
  · refine InService.trans ?_ (nvRequest_undisturbed _ _).inService
    exact ⟨rfl, fun _ => rfl, id⟩

theorem setBank_inService (n : Nat) (x : Content) : InService b (setBank n x b) := by
  unfold setBank modKeep
  by_cases h : n = 0 <;> simp only [h, if_true, if_false] <;> exact .same rfl

theorem streamDrop_inService : InService b (streamDrop b) := by
  unfold streamDrop
  split
  · exact .refl b
  next s _ =>
    have dropped : InService b (modKeep (fun k => { k with stream := none }) b) := .same rfl
    exact ((dropped.trans (setBank_inService _ s.bank .empty)).trans (put_inService _ _ _)).trans (put_inService _ _ _)

theorem deltaFault_inService (code : Nat) : InService b (deltaFault e code b) :=
  .ite (.refl b) ((((streamDrop_inService b).trans (put_inService _ _ _)).trans (put_inService _ _ _)).trans
    (raise_undisturbed e _ _ _ _ _).inService)

theorem holdupWeld_inService : InService b (holdupWeld e b) := by
  have verdicts (x : Blk) : InService x (setVerdicts 0 0 0 x) := (nvRequest_undisturbed _ _).inService.after rfl
  have opened : InService (ssbOff e b) ((modSeq clearSeqTimers (ssbOff e b)).put SAFE_WELD_RESULT_PENDING 0) := .same rfl
  exact .ite ((((ssbOff_undisturbed e b).inService.trans opened).trans (verdicts _)).trans (setStep_undisturbed _ _).inService)
    (precondLost_undisturbed e b _).inService

theorem holdupWork_inService : InService b (holdupWork e b) := by
  unfold holdupWork
  extract_lets b1 b2 b3 b4 b5 b6
  have h1 : InService b b1 := ((serviceEnd_inService e b).trans (activateDrop_inService _)).trans (deltaFault_inService e _ _)
  have h2 : InService b1 b2 := ((tpStopAll_undisturbed (flushQueues b1)).trans (imdStop_undisturbed _)).inService.after rfl
  clear_value b2
  have h4 : InService b2 b4 := .same rfl
  have h5 : InService b4 b5 := InService.trans (.ite (stopTests_inService e b4) (.refl b4)) (holdupWeld_inService e _)
  clear_value b5
  have h6 : InService b5 b6 := .ite (.same rfl) (.refl b5)
  exact ((((h1.trans h2).trans h4).trans h5).trans h6).trans (nvRequest_undisturbed _ _).inService

theorem finalCommits_inService : InService b (finalCommits b) :=
  .ite (nvRequest_undisturbed b _).inService ((nvRequest_undisturbed b _).trans (nvRequest_undisturbed _ _)).inService

theorem rideExpiry_inService : InService b (rideExpiry e b) := by
  have expired : InService b ((modPwr (fun p => { p with rideBy := none }) b).put PWR_STA_RIDE_EXPIRED 1) := .same rfl
  exact .ite expired (.ite (expired.trans (startDis_undisturbed e _ _).inService)
    (.ite (expired.trans (finalCommits_inService _)) expired))

theorem holdupResume_inService : InService b (holdupResume e b) :=
  .ite (.refl b) (.ite ((holdupWork_inService e b).trans (rideExpiry_inService e _)) (holdupWork_inService e b))

end

end Sys2Proof.Machine

/-! NV commits and boots (R72, R78, R79, R84, R88, R89, R456, R462 to R465): what each command does where its conditions hold. -/

namespace Sys2Proof.Machine

section
variable {e : Env} {b : Blk}

/-! ### Commits -/

section
variable {v : Nat} {j : NvJob} {q : List NvJob}

theorem nvStart_open (hp : b.powered = true) (hr : (holdLost e 0 (holdRead v e b)).pwr.running = none)
    (hq : (holdLost e 0 (holdRead v e b)).pwr.queued = j :: q) (hv : commitVolts e (holdLost e 0 (holdRead v e b)) ≤ v) :
    nvStart v e b = commitBegin e j (modPwr (fun p => nvAdmit { p with running := some j, queued := q })
      (holdLost e 0 (holdRead v e b))) := by
  simp only [nvStart, hp, hr, hq, hv, not_true_eq_false, if_false, if_true]

theorem nvComplete_sound (hp : b.powered = true) (hr : b.pwr.running = some j) :
    nvComplete false e b = nvEffect e j (modPwr (fun p => nvAdmit { p with running := none }) b) := by
  simp [nvComplete, hp, hr]

/-- The count of abandoned commits is no part of what fails a job. -/
theorem jobFails_bump (n : Nat) : jobFails j (b.bump PWR_HOLDUP_LOG_ABANDONED n) = jobFails j b := by
  cases j <;> simp [jobFails, Blk.get_bump_ne (b := b) n (show PWR_HOLDUP_LOG_ABANDONED.key ≠ KEEP_CMD_STA_LAST.key by decide)]

theorem commitAbandoned_one (hp : b.powered = true) (hh : (holdLost e 0 (holdRead v e b)).holdup = true)
    (hq : (holdLost e 0 (holdRead v e b)).pwr.queued = [j]) (hw : (holdLost e 0 (holdRead v e b)).pwr.waiting = [])
    (hj : jobFails j (holdLost e 0 (holdRead v e b)) = false) (hv : v < commitVolts e (holdLost e 0 (holdRead v e b))) :
    commitAbandoned v e b = raise e SRC_COMMIT_ABANDONED 0 0 0 (modWatch (fun w => { w with ceilAsked := false }) (capturesCut [j]
      ((modPwr (fun p => { p with queued := [], waiting := [] }) (holdLost e 0 (holdRead v e b))).bump
        PWR_HOLDUP_LOG_ABANDONED 1))) := by
  have hkept : jobFails j (modPwr (fun p => { p with queued := [], waiting := [] }) (holdLost e 0 (holdRead v e b))) = false := hj
  simp [commitAbandoned, hp, hh, hq, hw, hv, jobFails_bump, hkept]

end

/-! ### Cold boots -/

theorem coldBoot_off {s : State} {pins : BootPins} (hoff : s.blk.phase = .off) (hs : s.blk.pwr.stopped = false) (hv : 3500 ≤ pins.vin) :
    coldBoot pins s = bootFrom (coldCause s.blk.pwr) pins s := by
  have hvin : ¬ pins.vin < 3500 := by omega
  unfold coldBoot
  rw [if_pos hoff, if_neg hvin, hs]
  rfl

theorem bootRecord_inService : InService b (bootRecord e b) := InService.trans (record_undisturbed e b _).inService (.same rfl)

theorem psfRestart_inService : InService b (psfRestart e b) := .same rfl

theorem rackArm_inService : InService b (rackArm e b) := .same rfl

theorem enginesStart_inService : InService b (enginesStart e b) := by
  have armed := (psfRestart_inService (e := e) (b := b)).trans (rackArm_inService (e := e))
  unfold enginesStart
  generalize rackArm e (psfRestart e b) = c at armed
  exact armed.trans (.same rfl)

theorem settleHeld_inService (held : List Raise) : InService b (settleHeld held b) := .same rfl

theorem holdRead_phase (v : Nat) : (holdRead v e b).phase = b.phase := by
  unfold holdRead discharged
  split <;> rfl

theorem bootErrRelease_shown : (thermShow e (bootErrRelease b)).phase = b.phase ∧ (thermShow e (bootErrRelease b)).role = b.role ∧
    (thermShow e (bootErrRelease b)).twin = b.twin ∧ (thermShow e (bootErrRelease b)).safe = b.safe := by
  unfold bootErrRelease
  split <;> exact ⟨rfl, rfl, rfl, rfl⟩

/-- BOOT ends once HOLD stands at 95 V. -/
theorem bootEnd_charged {hold : Nat} (hb : b.phase = .coldBoot) (hh : 9500 ≤ hold) :
    (bootEnd hold e b).phase = .run ∧ (bootEnd hold e b).role = (if (bootEnd hold e b).twin then .standby else .solo) ∧
      (bootEnd hold e b).safe.evalBy = some (e.now + ms 10) := by
  unfold bootEnd
  extract_lets c late restarts held w p b1 b2 b3 b4 b6 b7 b' t b8
  have hc : c.phase = .coldBoot := by rw [show c = holdRead hold e b from if_pos hb, holdRead_phase, hb]
  have hended : ¬ (c.phase ≠ .coldBoot ∨ ¬ (9500 ≤ hold ∨ (c.pwr.boostBy.map (fun t => decide (t ≤ e.now))).getD false = true)) := by
    simp [hc, hh]
  rw [if_neg hended]
  have h2 : InService b1 b2 := bootRecord_inService
  have h3 : InService b2 b3 := (modeTo_undisturbed e b2 _).inService
  have h4 : InService b3 b4 := (judgeWith_undisturbed e b3 _ _).inService
  have h6 : InService b4 b6 := (settleHeld_inService held).trans enginesStart_inService
  have h7 : InService b6 b7 := .ite (.refl b6) (enumStart_inService e b6)
  have hrun : b7.phase = .run := ((((h2.trans h3).trans h4).trans h6).trans h7).phase
  obtain ⟨hphase, hrole, htwin, hsafe⟩ := bootErrRelease_shown (e := e) (b := b8)
  exact ⟨hphase.trans hrun, by rw [hrole, htwin]; rfl, by rw [hsafe]; rfl⟩

/-! ### The warm boot -/

theorem warmBoot_ready {a : Activate} (hr : b.running = true) (ha : b.keep.act = some a) (hs : 1 ≤ a.stage)
    (hy : activateReady b = true) (hc : warmCommitted b = true) (hf : b.chain.flight = []) : warmBoot e b = enginesStop e b := by
  have hstage : a.stage ≠ 0 := by omega
  simp [warmBoot, hr, ha, hstage, hy, hc, hf]

theorem ledgerRestore_inService : InService b (ledgerRestore e b) := by
  unfold ledgerRestore
  split
  · exact (raiseAll_undisturbed e _ _).inService.after rfl
  · exact (raise_undisturbed e _ _ _ _ _).inService.after rfl

theorem retentionLost_inService : InService b (retentionLost e b) := by
  unfold retentionLost
  extract_lets hw kept sta w w0 w1 c0 c th sf hv ld b1
  have hstart : InService b (b1.put SAFE_PCV_CONF (((slotWinner b.keep).map (fun q => q.2.pcvConf)).getD 0)) := .same rfl
  exact (hstart.trans ledgerRestore_inService).trans (.same rfl)

theorem enginesRestart_inService : InService b (enginesRestart e b) := .same rfl

theorem actFinish_done (fellBack : Bool) : (actFinish e fellBack b).keep.act = none ∧ (actFinish e fellBack b).unlocked = b.unlocked := by
  unfold actFinish
  split
  next ha => exact ⟨ha, rfl⟩
  · exact ⟨rfl, rfl⟩

/-- The first events after a warm boot put the module in service; no page unlocks by them. -/
theorem resumeEvents_inService (ok : Bool) : InService { b with phase := .run } (resumeEvents ok e b) := by
  unfold resumeEvents
  extract_lets held w b1
  have h1 : InService { b with phase := .run } b1 := bootRecord_inService.after rfl
  clear_value b1
  dsimp only
  generalize warmDemands e b1 = d
  have h2 (cs : List Cond) (rs : List Raise) : InService b1
      (judgeWith e cs rs (testsStart e (modSafe (fun s => { s with warmDemand := [] }) b1))) :=
    (judgeWith_undisturbed e _ _ _).inService.after rfl
  have h3 (x : Blk) (hs : List Raise) : InService x (settleHeld hs (siEvalWith e (breakConds x) held (silenceShow x))) :=
    ((silenceShow_inService x).trans (siEvalWith_inService e _ _ _)).trans (.same rfl)
  exact (((h1.trans (h2 _ _)).trans (h3 _ _)).trans (captureResume_inService e _)).trans (droppedResume_inService e _)

/-- The session counters are new, and every page is locked. -/
theorem sessionsNew_locked : (nvRequest .retained (modKeep (fun k => { k with ctrWait := true }) (sinceBootClear (sessionsNew b)))).unlocked
    = [] := by
  have cleared : InService (sessionsNew b) (sinceBootClear (sessionsNew b)) := .foldl _ (fun x _ => put_inService x _ _) _
  have waits (x : Blk) : InService x (modKeep (fun k => { k with ctrWait := true }) x) := .same rfl
  exact ((cleared.trans (waits _)).trans (nvRequest_undisturbed _ _).inService).locks rfl

end

/-- RESUME puts the module in service, whether its retention is sound or not. -/
theorem resume_served {s : State} {a : Activate} (sound : Bool) (hp : s.blk.phase = .warmBoot) (ha : s.blk.keep.act = some a) :
    (resume sound s).blk.phase = .run ∧ (resume sound s).blk.keep.act = none ∧ (resume sound s).blk.unlocked = [] := by
  unfold resume
  split
  next h => exact absurd (ha.symm.trans h) (Option.some_ne_none a)
  next x _ =>
    rw [if_neg (not_not.mpr hp)]
    extract_lets e oldFormat b1 fellBack c installs
    split
    next block b2 _ =>
    extract_lets b3 b4 s1 e1 ok b5 b6 b7 b8 b9
    have hlocked : b4.unlocked = [] := sessionsNew_locked
    clear_value b4
    have h5 : InService b4 b5 := (InService.ite (.refl b4) retentionLost_inService).trans enginesRestart_inService
    obtain ⟨hact, hopen⟩ := actFinish_done (e := e1) (b := b5) fellBack
    have h7 : InService { b6 with phase := .run } b7 := resumeEvents_inService ok
    clear_value b7
    have h8 : InService b7 b8 := ((pcvSet_inService e1 b7 _).trans (settingsTaken_inService e1 _ _)).trans
      (capShown_inService e1 _)
    clear_value b8
    have h9 : InService b8 b9 := ((InService.onlyIf _ (authDeferred_inService e1 b8)).trans enginesStart_inService).trans
      ((gapResume_inService e1 _).trans (holdupResume_inService e1 _))
    clear_value b9
    have hend : InService { b6 with phase := .run } (thermShow e1 (siShow e1 b9)) := ((h7.trans h8).trans h9).trans (.same rfl)
    exact ⟨hend.phase, hend.act hact, hend.locks (hopen.trans (h5.locks hlocked))⟩

/-- Settles O25: each commit and boot, from what its operation does where its conditions hold. -/
theorem commitsAndBoots : Obligations.CommitsAndBoots := by
  unfold Obligations.CommitsAndBoots
  refine ⟨?_, ?_, ?_, ?_, ?_, ?_, ?_, ?_⟩
  case refine_1 =>
    intro s dt pins hoff hs hv
    have hboot := coldBoot_off (s := s.begin dt) (by simpa using hoff) (by simpa using hs) hv
    rw [s.begin_pwr] at hboot
    exact congrArg Host.Outcome.next hboot
  case refine_2 =>
    intro s dt bad hb
    show Host.Outcome.next (bootRestart bad (s.begin dt)) = _
    simp [bootRestart, hb]
  case refine_3 =>
    intro s dt hold hb hh
    obtain ⟨hrun, hrole, heval⟩ := bootEnd_charged (e := (s.begin dt).env) (b := (s.begin dt).blk) (by simpa using hb) hh
    exact ⟨_, rfl, hrun, hrole, heval, s.begin_par dt, s.begin_pending dt⟩
  case refine_4 =>
    intro s dt hold j q hs hp hr hq hv
    exact eng_acts hs (nvStart_open (by simpa using hp) hr hq hv)
  case refine_5 =>
    intro s dt j hs hp hr
    exact eng_acts hs (nvComplete_sound (by simpa using hp) (by simpa using hr))
  case refine_6 =>
    intro s dt hold j hs hp hh hq hw hj hv
    exact eng_acts hs (commitAbandoned_one (by simpa using hp) hh hq hw hj hv)
  case refine_7 =>
    intro s dt a hr ha hs hy hc hf
    have hready : activateReady (s.begin dt).blk = true := by rw [s.begin_blk]; exact hy
    have hdone : warmCommitted (s.begin dt).blk = true := by rw [s.begin_blk]; exact hc
    exact eng_acts (Blk.running_iff.mp hr).2
      (warmBoot_ready (by simpa using hr) (by simpa using ha) hs hready hdone (by simpa using hf))
  case refine_8 =>
    intro s dt sound a hb ha
    obtain ⟨hrun, hact, hlocked⟩ := resume_served (s := s.begin dt) sound (by simpa using hb) (by simpa using ha)
    exact ⟨_, rfl, hrun, hact, hlocked, (resume_carried sound (s.begin dt)).1.trans (s.begin_pending dt)⟩

end Sys2Proof.Machine
